-- ==== Sys2Proof/Word.lean ====
section
/-! DEFINITION. The word types of the S296: bytes on the links, 16-bit charter words and CRC registers, 32-bit meter
registers, and the numbers of slots, bands, price sets and charter words. -/

namespace Sys2Proof

/-- One byte of a feeder or plant frame, or one character of a host line. -/
abbrev Byte := BitVec 8

/-- A charter word (R193), a CRC (R113) or a boundary tag (R112). -/
abbrev Word16 := BitVec 16

/-- A meter's cumulative register or a baseline: Wh, wrapping at 2^32 (R20, R75). -/
abbrev Word32 := BitVec 32

/-- A household slot; slot number `n` of the manual (1..96) is `n - 1` here (R20). -/
abbrev Slot := Fin 96

/-- A band entry number (R13). -/
abbrev BandIx := Fin 16

/-- A price set index (R15). -/
abbrev SetIx := Fin 4

/-- A charter word number (R193). -/
abbrev CharterIx := Fin 32

/-- A table of `n` values, one for each index, written without a loop over arrays. -/
def tabulate {α : Type} (n : Nat) (f : Fin n → α) : Vector α n :=
  ⟨⟨(List.finRange n).map f⟩, by simp⟩

end Sys2Proof
end

