-- ==== Sys2Proof/Config.lean ====
section
/-! DEFINITION. The constants of the S296's parameter tables, by rule, and the durations and thresholds that the model
names and does not count (log 7). The spec leaves no value of a result open, so no constant here is without a body. -/

namespace Sys2Proof.Config

/-- Balance limit of every household and of the fund, µcr (R20, R36, R41). -/
def balanceLimit : Int := 140737488355327

/-- Largest magnitude of a TOPUP, ADJUST or FUND amount, µcr (R38, R39, R40). -/
def amountLimit : Int := 1000000000000

/-- µcr in one credit (00, Conventions; R21). -/
def microPerCredit : Int := 1000000

/-- Largest number of open books (R42). -/
def maxBooks : Nat := 6

/-- Largest number of substitution entries (R57). -/
def maxSubs : Nat := 8

/-- How far beyond b_last a substitution may name a boundary (R56, R57). -/
def substitutionReach : Nat := 64

/-- Largest number of journal records held (R96). -/
def maxRecords : Nat := 64

/-- Largest number of journal lines held (R96). -/
def maxLines : Nat := 3072

/-- The last sequence number before EXHAUSTED (R97). -/
def maxSequence : Nat := 4294967295

/-- Capacity of a supply command queue (R128). -/
def maxQueue : Nat := 16

/-- Ceiling of the late, answered, failed, stray, bad-frame, plant and discarded-line counts. -/
def countCeiling : Nat := 65535

/-- Ceiling of a consecutive-fail count (R111) and of a consecutive-miss count (R34). -/
def shortCountCeiling : Nat := 255

/-- Consecutive fails that move a link from UP to DOWN (R125). -/
def failsToDown : Nat := 6

/-- Largest energy settled in one direction (R74). -/
def maxSettled : Nat := 65535

/-- Highest levy (R15). -/
def maxLevy : Nat := 200

/-- Highest price (R15). -/
def maxPrice : Nat := 65535

/-- Default response timeout in ms, and its bounds (R121). -/
def defaultTimeout : Nat := 200
def minTimeout : Nat := 20
def maxTimeout : Nat := 2000

/-- Default retry count and its bound (R121). -/
def defaultRetries : Nat := 2
def maxRetries : Nat := 3

/-- Default reconnect margin and its bound, µcr (R155). -/
def defaultMargin : Nat := 1000000
def maxMargin : Nat := 1000000000

/-- Stale time in seconds (R140). -/
def staleSeconds : Nat := 10

/-- Highest valid battery charge, per mille (R138, R139). -/
def maxCharge : Nat := 1000

/-- Frames in one unit of dwell (R167). -/
def framesPerDwell : Nat := 16

/-- The scarcity floor (R156). -/
def scarcityFloor : Int := 0

/-- Characters a host line may hold (R181). -/
def maxLineLength : Nat := 160

/-- Successive low samples to WARNING and good samples to GOOD (R202). -/
def lowRunLimit : Nat := 4
def goodRunLimit : Nat := 64

/-- The value of a blank charter word (R193). -/
def blankWord : Word16 := 65535

/-- The generator of the frames' CRC without its top term, and the register's start (R113). -/
def crcGenerator : Word16 := 4129
def crcStart : Word16 := 65535

/-- Kind codes of the feeder frames (R112) and the plant frame code (R137). -/
def kindMark : Byte := 16
def kindSnapRequest : Byte := 33
def kindSnap : Byte := 34
def kindNotHeld : Byte := 35
def kindSupply : Byte := 49
def kindSupplied : Byte := 50
def plantCode : Byte := 97

/-- The manual's first and last year (R1, R2). -/
def firstYear : Nat := 2000
def lastYear : Nat := 2099

/-- Durations in ms that the model names and leaves to the sender of the commands (log 7): guard wait (R117), charter
program (R196), longest computation (R69), hold-up after a warning (R202), longest start-up (R206). -/
def guardMs : Nat := 500
def programMs : Nat := 2
def computationMs : Nat := 50
def holdUpMs : Nat := 60
def startUpMs : Nat := 25

end Sys2Proof.Config
end

