-- ==== Sys2Proof/Syntax.lean ====
section
/-! DEFINITION. The commands of the S296: one constructor of `Instr` per row of spec/opcode_table.json, with the words of
a host request and the operands of an event. -/

namespace Sys2Proof

/-- The two feeders and their link engines (00, Conventions). -/
inductive Feeder
  | A | B
  deriving DecidableEq, Repr

/-- A feeder's line as an event finds it: the feeder, and whether its engine has begun to drive the frame it has to send, if
it has one; the engine does not receive while it drives (R112, log 15). -/
structure FeederLine where
  feeder : Feeder
  driven : Bool
  deriving DecidableEq, Repr

/-- The weekdays in the manual's order (R1, R14). -/
inductive Weekday
  | MON | TUE | WED | THU | FRI | SAT | SUN
  deriving DecidableEq, Repr

/-- The names and keywords of the host line that requests and replies are written in (R183, R184), and the names of states,
flags, notices, causes and reasons (00, Conventions), each spelled as the manual spells it. -/
inductive Kw
  | ON | OFF | ALL | NONE | A | B | AUTO | HOLD_CLOSED | MANUAL
  | YES | NO | CAP | FLOOR | POLICY | SHOW | FEEDER | ADDR | OLDEST
  | QUEUE | CFG | SOCLOW | SOCHYST | FHIGH | FHYST | FMIN | FMAX | DIV
  | COUNT | OPEN | CLOSED | MARGIN | MODE | RATE | DWELL | RESERVE | CLOCK
  | PAGE | SCROLL | HOLD | RESTARTED | CLOCK_INVALID | CLOCK_HELD | SPAN | SETTLED | JOURNAL_FULL
  | BALANCE_LIMIT | FEEDER_A | FEEDER_B | METER_SILENT | HOUSEHOLD_FAULT | RELAY_UNCONFIRMED | QUEUE_OVERFLOW | SUBST_DROPPED | POWER_WARNING
  | OK | END | LONG | SYNTAX | UNKNOWN | RANGE | STATE | BUSY | ROOM
  | LOCKED | LATE | ABSENT | HELD | VALID | INVALID | NOHOLD | ALIGN | IDLE
  | EVENT | NOLEN | VACANT | ENROLLED | ACTIVE | SUSPENDED | FAULT | LEAVING | DUE
  | SETTLING | GRACE | COMPLETE | FORCED | MARKED | UNMARKED | PENDING | RECEIVED | NOT_HELD
  | MISSING | SUBSTITUTED | EXCLUDED | CLOCK_LOST | RELAY_FAULT | COVERED | SCARCE_SEEN | SURPLUS_SEEN | STALE_SEEN
  | REPLACED | NEW | ACCOUNT | FUND | MEMBER | TOPUP | ADJUST | ENROL | SUSPEND
  | RESUME | REBASE | WITHDRAW | BASE | CAPPED | AHEAD | REGRESSION | SUBST | VACATED
  | EXHAUSTED | UP | DOWN | MARK | GUARD | SUPPLY | SNAPSHOT | CLOSE | NORMAL
  | SCARCE | SURPLUS | STALE | QUEUED | FULL | SHOWING | BLANKING | WARNING | MINUS
  | OVER | SEZGAT | S296 | UNLOCKED | UNCOMMISSIONED | COMMISSIONING | SERVICE | GOOD | COMPUTING
  | SET | CLEAR
  deriving DecidableEq, Repr

/-- The requests of the manual (00, Requests at a glance). -/
inductive Req
  | CLKREAD | CLKSET | CLKALIGN | BANDSET | BANDREAD | PRICESET | PRICEREAD | HHENROL | HHEDIT
  | HHREAD | HHSUSPEND | HHRESUME | HHREBASE | HHWITHDRAW | TOPUP | ADJUST | FUND | FUNDREAD
  | BOOKS | BOOKREAD | CLOSENOW | SUBSET | SUBOFF | SUBCLR | SUBREAD | JREAD | JRELEASE
  | JSTAT | FEEDER | FDRFORCE | FDRTIMING | RESREAD | RESCFG | RELAY | RLYCFG | DISPCFG
  | DISPREAD | IDENT | STATUS | NOTICES | NOTACK | NOTMASK | CHRREAD | CHRPROG | CHRLOCK
  | WIPE
  deriving DecidableEq, Repr

/-- One word of a request after its name (R180, R183): a number read exactly, a keyword in either case, day names joined by
commas (R14), or any other word, its letters in capitals. -/
inductive Tok
  | num (n : Int)
  | kw (k : Kw)
  | days (ds : List Weekday)
  | other (text : List Char)
  deriving DecidableEq, Repr

/-- One character as the host line's receiver takes it (R180): its code, and whether its stop bit was high. -/
structure RxChar where
  code : Byte
  stopHigh : Bool
  deriving DecidableEq, Repr

/-- The MODE strap at a start-up (R199). -/
inductive ModeStrap
  | commission | service
  deriving DecidableEq, Repr

/-- The host line's rate, from the RATE strap at a start-up (R180): low is 9600 baud, high is 57600 baud. -/
inductive Rate
  | low | high
  deriving DecidableEq, Repr

/-- An event of the end of a start-up (R206): the notices, the catch-up boundary event, the evaluation of the AUTO households,
the first page's start and the first line taken into service; and the accesses that may come among them, of the settlement
engine to the oldest DUE book, of the display to its first page, and of the first line's request. -/
inductive StartEvent
  | notices | catchUp | settling | evaluation | pageStart | latch | firstLine | service
  deriving DecidableEq, Repr

/-- The commands: the rows of spec/opcode_table.json in their order. A request stands for its line being served (R182,
log 4); its argument is the line's words after the name. Frames and lines are whole (log 16). -/
inductive Instr
  | clkread (args : List Tok)   -- R12
  | clkset (args : List Tok)   -- R8
  | clkalign (args : List Tok)   -- R10
  | bandset (args : List Tok)   -- R14
  | bandread (args : List Tok)   -- R14
  | priceset (args : List Tok)   -- R17
  | priceread (args : List Tok)   -- R17
  | hhenrol (args : List Tok)   -- R24
  | hhedit (args : List Tok)   -- R25
  | hhread (args : List Tok)   -- R27
  | hhsuspend (args : List Tok)   -- R28
  | hhresume (args : List Tok)   -- R29
  | hhrebase (args : List Tok)   -- R30
  | hhwithdraw (args : List Tok)   -- R31
  | topup (args : List Tok)   -- R38
  | adjust (args : List Tok)   -- R39
  | fund (args : List Tok)   -- R40
  | fundread (args : List Tok)   -- R40
  | books (args : List Tok)   -- R65
  | bookread (args : List Tok)   -- R66
  | closenow (args : List Tok)   -- R52
  | subset (args : List Tok)   -- R58
  | suboff (args : List Tok)   -- R59
  | subclr (args : List Tok)   -- R60
  | subread (args : List Tok)   -- R59
  | jread (args : List Tok)   -- R103
  | jrelease (args : List Tok)   -- R104
  | jstat (args : List Tok)   -- R105
  | feeder (args : List Tok)   -- R133
  | fdrforce (args : List Tok)   -- R134
  | fdrtiming (args : List Tok)   -- R135
  | resread (args : List Tok)   -- R154
  | rescfg (args : List Tok)   -- R153
  | relay (args : List Tok)   -- R165
  | rlycfg (args : List Tok)   -- R166
  | dispcfg (args : List Tok)   -- R177
  | dispread (args : List Tok)   -- R179
  | ident (args : List Tok)   -- R186
  | status (args : List Tok)   -- R187
  | notices (args : List Tok)   -- R189
  | notack (args : List Tok)   -- R190
  | notmask (args : List Tok)   -- R191
  | chrread (args : List Tok)   -- R195
  | chrprog (args : List Tok)   -- R196
  | chrlock (args : List Tok)   -- R198
  | wipe (args : List Tok)   -- R201
  | charterProgramCompletion   -- R197
  | lockCompletion   -- R198
  | hostLineComplete (chars : List RxChar)   -- R182: the characters before the terminator
  | replySent   -- R182
  | calendarStep   -- R1
  | alignmentCompletion   -- R11
  | markSent (f : Feeder)   -- R116
  | guardEnd (f : Feeder)   -- R117
  | responseTimeout (f : Feeder) (receiving : Bool)   -- R121: whether a frame's first byte has arrived and it is not yet whole
  | feederFrameReceived (l : FeederLine) (bytes : List Byte)   -- R114
  | feederIdleGap (l : FeederLine)   -- R112
  | snapshotDelivery   -- R53
  | settlingStart   -- R69
  | postingAttempt   -- R89
  | plantFrameReceived (bytes : List Byte)   -- R139
  | plantIdleGap   -- R137
  | staleTimerExpiry   -- R145
  | dwellEnd   -- R174
  | blankDwellEnd   -- R177
  | pageLatch   -- R171
  | supplyWarning   -- R203
  | supplyGood   -- R204
  | resetPinAssert   -- R205
  | resetPinRelease (mode : ModeStrap) (rate : Rate)   -- R206: the straps as they are read
  | powerLoss   -- R205
  | powerOn (vbakHeld : Bool) (mode : ModeStrap) (rate : Rate)   -- R206, R2
  | startupEnd (order : List StartEvent)   -- R206: its events in the order in which they are taken
  | vddSample (low : Bool)   -- R202
  | frameEnd   -- R174
  | requestSent (f : Feeder)   -- R121
  deriving DecidableEq, Repr

end Sys2Proof
end

