-- ==== Sys2Proof/Decode.lean ====
section
/-! DEFINITION. The decoder. The table gives no row any bits: a command reaches the S296 as a line of text, a frame or an
event, never as a word, so no word spells a command (log 30). -/

namespace Sys2Proof

/-- The command that a word spells by the table's bits: none, since no row has bits. -/
def decodeTableWord (_nbits _w : Nat) : Option Instr := none

end Sys2Proof
end

