-- ==== Sys2Proof/Machine/State.lean ====
section
/-! DEFINITION. The state of the S296, block by block, as plain data, and the state right after reset. The reasons a step
could stop with are here too: the spec gives the part none. -/

namespace Sys2Proof.Machine

/-- The reasons a command could fault with. The spec names no fault that stops the part (every refusal is a reply, R183;
a posting that cannot be made whole is not made, R92), so the type has no constructor and no command faults. -/
inductive Fault
  deriving DecidableEq, Repr

/-- The reasons the model could refuse a command with. -/
inductive Refusal
  /-- Raised by `exec` for a command of the table without a meaning in the model; no command is left so. Safe: a run stops
  where the part goes on. -/
  | notModelled (mnemonic : String)
  deriving DecidableEq, Repr

/-! ## Calendar and tariff (chapter 1) -/

/-- The six settable fields of the date-time (section 1.1); the weekday is computed from them (R1). -/
structure DateTime where
  year : Nat
  month : Nat
  day : Nat
  hour : Nat
  minute : Nat
  second : Nat
  deriving DecidableEq, Repr

/-- The calendar: date-time (R1), validity (R2), alignment in flight (R10), number of the last boundary given (R4), held
state (R9). -/
structure Calendar where
  now : DateTime
  valid : Bool
  aligning : Bool
  bLast : Nat
  held : Bool
  deriving DecidableEq, Repr

/-- A band entry (R13); its weekday set is listed in the order MON to SUN without repeats. -/
structure Band where
  used : Bool
  weekdays : List Weekday
  start : Nat
  setIx : SetIx
  deriving DecidableEq, Repr

/-- A price set (R15): P_c, P_f, P_fs, P_p, P_ps in µcr/Wh and the levy in per mille. -/
structure PriceSet where
  community : Nat
  feed : Nat
  feedSurplus : Nat
  plant : Nat
  plantScarcity : Nat
  levy : Nat
  deriving DecidableEq, Repr

/-- The tariff schedule (R13, R15). -/
structure Tariff where
  bands : Vector Band 16
  sets : Vector PriceSet 4
  deriving DecidableEq, Repr

/-! ## Household table (chapter 2) -/

/-- Member states (R22). -/
inductive MemberState
  | vacant | enrolled | active | suspended | fault | leaving
  deriving DecidableEq, Repr

/-- Relay policies (R20, R157). -/
inductive Policy
  | auto | holdClosed | manual
  deriving DecidableEq, Repr

/-- A relay's state, wanted, commanded or reported (R35). -/
inductive Relay
  | opened | closed
  deriving DecidableEq, Repr

/-- The fields of a household record that are absent while VACANT and set by HHENROL (R20, R24). -/
structure Settings where
  feeder : Feeder
  addr : Nat
  cap : Nat
  floor : Int
  policy : Policy
  shown : Bool
  deriving DecidableEq, Repr

/-- base_i and base_e, absent together (R20). -/
structure Bases where
  imp : Word32
  exp : Word32
  deriving DecidableEq, Repr

/-- A household record (R20); `confirmed` is none for UNKNOWN. -/
structure Household where
  member : MemberState
  settings : Option Settings
  bases : Option Bases
  balance : Int
  misses : Nat
  wanted : Relay
  confirmed : Option Relay
  deriving DecidableEq, Repr

/-! ## Book store (chapter 3) -/

/-- The reserve flags of a book and of the reserve watch's accumulator (R43, R149). -/
structure ReserveFlags where
  scarce : Bool
  surplus : Bool
  stale : Bool
  deriving DecidableEq, Repr

/-- Meter status of a snapshot (R44, R112). -/
inductive MeterStatus
  | ok | clockLost | relayFault
  deriving DecidableEq, Repr

/-- The four fields of a SNAP reply (R44, R53). -/
structure Snapshot where
  imp : Word32
  exp : Word32
  status : MeterStatus
  relay : Relay
  deriving DecidableEq, Repr

/-- A book's entry for one slot (R44). -/
inductive Entry
  | excluded
  | pending
  | received (snap : Snapshot)
  | notHeld
  | missing
  | substituted (imp exp : Nat)
  deriving DecidableEq, Repr

/-- Close causes (R43). -/
inductive Cause
  | grace | complete | forced
  deriving DecidableEq, Repr

/-- A book's state with its close cause, absent while OPEN and kept through SETTLING (R43, R51). -/
inductive BookState
  | opened
  | due (c : Cause)
  | settling (c : Cause)
  deriving DecidableEq, Repr

/-- An interval book (R43). -/
structure Book where
  boundary : Nat
  span : Nat
  state : BookState
  setIx : SetIx
  prices : PriceSet
  flags : ReserveFlags
  marked : Bool
  markA : Bool
  markB : Bool
  entries : Vector Entry 96
  deriving DecidableEq, Repr

/-- A substitution entry (R57). -/
structure Sub where
  slot : Slot
  boundary : Nat
  imp : Nat
  exp : Nat
  enabled : Bool
  deriving DecidableEq, Repr

/-- A delivery handed to the book store (section 3.4): `snap` is none for NOTHELD. -/
structure Delivery where
  feeder : Feeder
  slot : Slot
  boundary : Nat
  snap : Option Snapshot
  deriving DecidableEq, Repr

/-- The book store: books in boundary order (R42), carried span and fresh mark (R45), late count (R54), substitution table
(R57), and the deliveries that wait for the array, the oldest first (R185). -/
structure BookStore where
  books : List Book
  carried : Nat
  fresh : Bool
  late : Nat
  subs : List Sub
  deliveries : List Delivery
  deriving DecidableEq, Repr

/-! ## Settlement engine (chapter 4) -/

/-- What the computation fixes for one slot at its start (R69). -/
structure SlotInput where
  entry : Entry
  member : MemberState
  cap : Nat
  bases : Option Bases
  deriving DecidableEq, Repr

/-- The inputs of the computation in flight (R69). -/
structure Computation where
  boundary : Nat
  span : Nat
  prices : PriceSet
  flags : ReserveFlags
  tolerance : Nat
  slots : Vector SlotInput 96
  deriving DecidableEq, Repr

/-- The deferral cause (R67). -/
inductive Deferral
  | none | journalFull | balanceLimit
  deriving DecidableEq, Repr

/-- The settlement engine (R67): IDLE when no computation is in flight, else COMPUTING. -/
structure Settlement where
  computation : Option Computation
  deferral : Deferral
  deriving DecidableEq, Repr

/-! ## Settlement journal (chapter 5) -/

/-- Flags of a SETTLED line (R79, R100). -/
inductive LineFlag
  | base | capped | ahead | regression | subst | missing | notHeld | vacated
  deriving DecidableEq, Repr

/-- A line of a SETTLED record (R100). The flags stand in the order in which R79 and R100 name them (DESIGN CHOICE, log 52: R103
gives their names no order). -/
structure SettledLine where
  slot : Slot
  flags : List LineFlag
  imp : Nat
  exp : Nat
  demand : Nat
  supply : Nat
  matched : Nat
  residual : Nat
  debit : Int
  credit : Int
  levy : Int
  balanceAfter : Int
  status : Option MeterStatus
  deriving DecidableEq, Repr

/-- The header of a SETTLED record but for its sequence number and line count (R99). -/
structure SettledHeader where
  boundary : Nat
  span : Nat
  cause : Cause
  instant : DateTime
  setIx : SetIx
  prices : PriceSet
  flags : ReserveFlags
  demand : Nat
  supply : Nat
  matched : Nat
  plant : Nat
  feed : Nat
  fundChange : Int
  fundAfter : Int
  deriving DecidableEq, Repr

/-- Causes of an ACCOUNT line (R101). -/
inductive AccountCause
  | topup | adjust
  deriving DecidableEq, Repr

/-- Actions of a MEMBER line (R101). -/
inductive MemberAction
  | enrol | suspend | resume | rebase | withdraw
  deriving DecidableEq, Repr

/-- A journal record's content by its kind (R96, R99, R101). -/
inductive RecordBody
  | settled (header : SettledHeader) (lines : List SettledLine)
  | account (slot : Slot) (cause : AccountCause) (amount after : Int)
  | fund (amount after : Int)
  | member (slot : Slot) (action : MemberAction) (state : MemberState)
  deriving DecidableEq, Repr

/-- A held journal record (R96). -/
structure JournalRecord where
  seq : Nat
  body : RecordBody
  deriving DecidableEq, Repr

/-- The journal: its records from the oldest, and the next sequence number, none for EXHAUSTED (R96, R97). -/
structure Journal where
  records : List JournalRecord
  nextSeq : Option Nat
  deriving DecidableEq, Repr

/-! ## Feeder controller (chapter 6) -/

/-- Link states (R111). -/
inductive Link
  | up | down | forced
  deriving DecidableEq, Repr

/-- A supply command queue entry (R128). -/
structure QueueEntry where
  slot : Slot
  command : Relay
  deriving DecidableEq, Repr

/-- An item of a pass's snapshot list (R115). -/
structure SnapItem where
  boundary : Nat
  slot : Slot
  addr : Nat
  deriving DecidableEq, Repr

/-- What an exchange asks for (R118, R130). -/
inductive Ask
  | snapshot (boundary : Nat)
  | supply (command : Relay)
  deriving DecidableEq, Repr

/-- How far the present try is (R121): the first request frame is due or being sent, a later one is, the wait runs, or the
wait has run out while a frame whose first byte came in time is still being received. A frame that is due waits for the line
to be idle (R112, log 15). -/
inductive TryStage
  | sending | resending | waiting | overrun
  deriving DecidableEq, Repr

/-- An exchange in flight (R121, R122): its request, its household's slot and meter address, the tries left after the present
one, the timeout it began with, its stage, and whether its household has become VACANT since it began (R123, R124, R130). -/
structure Exchange where
  ask : Ask
  slot : Slot
  addr : Nat
  triesLeft : Nat
  timeout : Nat
  stage : TryStage
  vacated : Bool
  deriving DecidableEq, Repr

/-- A pass as it is built (R115): boundary, instant, snapshot list. -/
structure PassPlan where
  boundary : Nat
  instant : DateTime
  items : List SnapItem
  deriving DecidableEq, Repr

/-- The phase of a pass; SUPPLY and SNAPSHOT hold the one exchange in flight (R111, R117, R118). -/
inductive Phase
  | mark
  | guard
  | supply (x : Exchange)
  | snapshot (x : Exchange)
  deriving DecidableEq, Repr

/-- A pass in flight: its plan with the items not yet taken, its phase, and whether it ends after its present frame or
exchange because the supply monitor entered WARNING (R120). -/
structure Pass where
  plan : PassPlan
  phase : Phase
  stopping : Bool
  deriving DecidableEq, Repr

/-- A link engine (R111). -/
structure Engine where
  link : Link
  fails : Nat
  answered : Nat
  failed : Nat
  strays : Nat
  bad : Nat
  queue : List QueueEntry
  pass : Option Pass
  next : Option PassPlan
  timeout : Nat
  retries : Nat
  deriving DecidableEq, Repr

/-! ## Reserve watch (chapter 7) -/

/-- The effective reserve states (R147). -/
inductive Condition
  | normal | scarce | surplus
  deriving DecidableEq, Repr

/-- The reserve state: live in NORMAL, SCARCE or SURPLUS, or STALE with its held state (R136, R145). -/
inductive WatchState
  | live (c : Condition)
  | stale (held : Condition)
  deriving DecidableEq, Repr

/-- The reserve watch's settings (R152). -/
structure ReserveSettings where
  socLow : Nat
  socHyst : Nat
  fHigh : Nat
  fHyst : Nat
  fMin : Nat
  fMax : Nat
  divisor : Nat
  count : Nat
  deriving DecidableEq, Repr

/-- The values of an accepted plant frame (R136, R138). -/
structure PlantValues where
  charge : Nat
  frequency : Nat
  power : Int
  deriving DecidableEq, Repr

/-- The reserve watch (R136); the stale timer is none when stopped. -/
structure Reserve where
  state : WatchState
  scarcity : Nat
  surplus : Nat
  leaving : Nat
  position : Nat
  timer : Option Nat
  previous : Option Nat
  last : Option PlantValues
  flags : ReserveFlags
  accepted : Nat
  bad : Nat
  repeats : Nat
  outOfRange : Nat
  settings : ReserveSettings
  deriving DecidableEq, Repr

/-! ## Kiosk display (chapter 9) -/

/-- Display modes (R167). -/
inductive Mode
  | off | scroll | hold
  deriving DecidableEq, Repr

/-- Display pages (R167, R170). -/
inductive Page
  | household (slot : Slot)
  | reserve
  | clock
  deriving DecidableEq, Repr

/-- Display activities (R167). -/
inductive Activity
  | showing | blanking | off | warning
  deriving DecidableEq, Repr

/-- Characters of the display (R169). -/
inductive Glyph
  | digit (d : Fin 10)
  | dash | n | L | H | blank
  deriving DecidableEq, Repr

/-- The four marks (R168). -/
structure Marks where
  minus : Bool
  overflow : Bool
  opened : Bool
  stale : Bool
  deriving DecidableEq, Repr

/-- Which page a page start is to choose at its grant (R170, R171, R174, R178). -/
inductive PageChoice
  | first
  | after (p : Page)
  | held
  deriving DecidableEq, Repr

/-- The display controller (R167): settings, activity, current page (none for NONE), latched content, frames left, the page
fetch that waits for the array (R171, R185), and the choice to resume with after a warning (R178). -/
structure Display where
  mode : Mode
  rate : Nat
  dwell : Nat
  reserveOn : Bool
  clockOn : Bool
  heldPage : Page
  activity : Activity
  current : Option Page
  glyphs : Vector Glyph 8
  marks : Marks
  framesLeft : Nat
  fetch : Option PageChoice
  resume : PageChoice
  deriving DecidableEq, Repr

/-! ## Host line and notices (chapter 10) -/

/-- One field of a reply line (R184). -/
inductive Field
  | num (n : Int)
  | kw (k : Kw)
  | dash
  | date (year month day : Nat)
  | time (hour minute second : Nat)
  | day (d : Weekday)
  | days (ds : List Weekday)
  | names (ks : List Kw)
  | glyphs (gs : List Glyph)
  deriving DecidableEq, Repr

/-- One line of a reply (R184). -/
abbrev ReplyLine := List Field

/-- A reply: one line, or several closed by END (R184). -/
abbrev Reply := List ReplyLine

/-- A complete line as the receiver hands it to the serving order (R180, R181, R183). -/
inductive Line
  | long
  | bad
  | unknown
  | request (r : Req) (args : List Tok)
  deriving DecidableEq, Repr

/-- How far the line in service is (R182, R196, R206): received during start-up and held for its end, taken and not yet
served, waiting for a charter program, or its reply being sent. -/
inductive Stage
  | held
  | taken
  | programming
  | replying (reply : Reply)
  deriving DecidableEq, Repr

/-- The line in service (R182). -/
structure InService where
  line : Line
  stage : Stage
  deriving DecidableEq, Repr

/-- The host line (R180, R182). -/
structure HostLine where
  rate : Rate
  inService : Option InService
  waiting : Option Line
  discarded : Nat
  deriving DecidableEq, Repr

/-- The sixteen notices in the order of R188. -/
inductive Notice
  | restarted | clockInvalid | clockHeld | span | settled | journalFull | balanceLimit | feederA
  | feederB | meterSilent | householdFault | relayUnconfirmed | queueOverflow | substDropped | reserve | powerWarning
  deriving DecidableEq, Repr

/-- One notice's flag, occurrence count and mask (R188, R191). -/
structure NoticeCell where
  flag : Bool
  count : Nat
  mask : Bool
  deriving DecidableEq, Repr

/-- The notices and the level of ATTN (R188, R192). -/
structure Notices where
  cells : Vector NoticeCell 16
  attn : Bool
  deriving DecidableEq, Repr

/-! ## Charter, service state, supply monitor, power (chapter 11) -/

/-- A program of the charter store in flight (R196, R198). -/
inductive Program
  | word (w : CharterIx) (value : Word16)
  | lock
  deriving DecidableEq, Repr

/-- The charter store (R193). -/
structure Charter where
  words : Vector Word16 32
  program : Option Program
  deriving DecidableEq, Repr

/-- Service states (R199). -/
inductive Service
  | uncommissioned | commissioning | service
  deriving DecidableEq, Repr

/-- The supply monitor (R202): whether it is in WARNING, its two runs, and the level of PFAIL. -/
structure Supply where
  warning : Bool
  lowRun : Nat
  goodRun : Nat
  pfail : Bool
  deriving DecidableEq, Repr

/-- Where the part stands between resets (R205, R206): without VDD, with the RESET pin released or held; with VDD and the pin
held; in start-up; running. -/
inductive PowerPhase
  | off | offHeld | resetHeld | starting | running
  deriving DecidableEq, Repr

/-- A reset that waits for the end of a charter program (R197): the pin is held, the pin has been released again with these
straps, or the supply has fallen, with the pin released or held. -/
inductive ResetDue
  | held
  | released (mode : ModeStrap) (rate : Rate)
  | powerLost
  | powerLostHeld
  deriving DecidableEq, Repr

/-- The power phase and a reset that waits (R197, R205). -/
structure Power where
  phase : PowerPhase
  resetDue : Option ResetDue
  deriving DecidableEq, Repr

/-- The whole state of the S296, and the queue of the commands that are waiting, first in, first out. -/
structure State where
  pending : List Instr
  power : Power
  charter : Charter
  service : Service
  supply : Supply
  calendar : Calendar
  tariff : Tariff
  table : Vector Household 96
  fund : Int
  injection : Int
  store : BookStore
  settlement : Settlement
  journal : Journal
  feederA : Engine
  feederB : Engine
  reserve : Reserve
  margin : Nat
  display : Display
  host : HostLine
  notices : Notices
  deriving DecidableEq, Repr

/-! ## Values after WIPE and in a part from the factory -/

/-- A VACANT record after WIPE and in a part from the factory (R20). -/
def Household.wiped : Household :=
  { member := .vacant, settings := none, bases := none, balance := 0, misses := 0, wanted := .closed, confirmed := none }

/-- The default band entry (R13). -/
def Band.default : Band := { used := false, weekdays := [], start := 0, setIx := 0 }

/-- The default price set (R15). -/
def PriceSet.default : PriceSet :=
  { community := 0, feed := 0, feedSurplus := 0, plant := 0, plantScarcity := 0, levy := 0 }

/-- The default tariff schedule (R13, R15). -/
def Tariff.default : Tariff :=
  { bands := Vector.replicate 16 Band.default, sets := Vector.replicate 4 PriceSet.default }

/-- The default settings of the reserve watch (R152). -/
def ReserveSettings.default : ReserveSettings :=
  { socLow := 250, socHyst := 50, fHigh := 51000, fHyst := 300, fMin := 45000, fMax := 65000, divisor := 1, count := 3 }

/-- A link engine after a reset with the default settings (R111). -/
def Engine.fresh : Engine :=
  { link := .up, fails := 0, answered := 0, failed := 0, strays := 0, bad := 0, queue := [], pass := none, next := none,
    timeout := Config.defaultTimeout, retries := Config.defaultRetries }

/-- The reserve watch after a reset with the default settings (R136). -/
def Reserve.fresh : Reserve :=
  { state := .stale .normal, scarcity := 0, surplus := 0, leaving := 0, position := 0, timer := none, previous := none,
    last := none, flags := { scarce := false, surplus := false, stale := true }, accepted := 0, bad := 0, repeats := 0,
    outOfRange := 0, settings := ReserveSettings.default }

/-- The book store after WIPE and in a part from the factory (R42, R45, R54, R57). -/
def BookStore.empty : BookStore :=
  { books := [], carried := 0, fresh := true, late := 0, subs := [], deliveries := [] }

/-- The machine right after reset: a part from the factory at the end of the start-up of its first power-on, with the MODE
strap COMMISSION, the RATE strap high, and its first page latched (R206, R199, R2, R176; DESIGN CHOICE, log 3). -/
def State.reset : State :=
  { pending := []
    power := { phase := .running, resetDue := none }
    charter := { words := Vector.replicate 32 Config.blankWord, program := none }
    service := .commissioning
    supply := { warning := false, lowRun := 0, goodRun := 0, pfail := true }
    calendar :=
      { now := { year := 2000, month := 1, day := 1, hour := 0, minute := 0, second := 0 }
        valid := false, aligning := false, bLast := 0, held := false }
    tariff := Tariff.default
    table := Vector.replicate 96 Household.wiped
    fund := 0
    injection := 0
    store := BookStore.empty
    settlement := { computation := none, deferral := .none }
    journal := { records := [], nextSeq := some 1 }
    feederA := Engine.fresh
    feederB := Engine.fresh
    reserve := Reserve.fresh
    margin := Config.defaultMargin
    display :=
      { mode := .scroll, rate := 64, dwell := 8, reserveOn := true, clockOn := true, heldPage := .clock
        activity := .showing, current := some .reserve
        glyphs := #v[.blank, .dash, .dash, .dash, .dash, .blank, .blank, .n]
        marks := { minus := false, overflow := false, opened := false, stale := true }
        framesLeft := 128, fetch := none, resume := .first }
    host := { rate := .high, inService := none, waiting := none, discarded := 0 }
    notices :=
      { cells := #v[⟨true, 1, true⟩, ⟨true, 1, true⟩, ⟨false, 0, true⟩, ⟨false, 0, true⟩, ⟨false, 0, true⟩,
          ⟨false, 0, true⟩, ⟨false, 0, true⟩, ⟨false, 0, true⟩, ⟨false, 0, true⟩, ⟨false, 0, true⟩, ⟨false, 0, true⟩,
          ⟨false, 0, true⟩, ⟨false, 0, true⟩, ⟨false, 0, true⟩, ⟨false, 0, true⟩, ⟨false, 0, true⟩]
        attn := true } }

end Sys2Proof.Machine
end

