-- ==== Sys2Proof/Machine/Ops.lean ====
section
/-! DEFINITION. The shared operations: reads and named updates of the blocks of the state, the charter values in effect,
the household table, the held books, the journal's room and its appends, and what serving a request answers. -/

namespace Sys2Proof.Machine

/-! ## Named updates, one per block -/

def State.withPending (s : State) (v : List Instr) : State := { s with pending := v }
def State.withPower (s : State) (v : Power) : State := { s with power := v }
def State.withCharter (s : State) (v : Charter) : State := { s with charter := v }
def State.withService (s : State) (v : Service) : State := { s with service := v }
def State.withSupply (s : State) (v : Supply) : State := { s with supply := v }
def State.withCalendar (s : State) (v : Calendar) : State := { s with calendar := v }
def State.withTariff (s : State) (v : Tariff) : State := { s with tariff := v }
def State.withTable (s : State) (v : Vector Household 96) : State := { s with table := v }
def State.withFund (s : State) (v : Int) : State := { s with fund := v }
def State.withInjection (s : State) (v : Int) : State := { s with injection := v }
def State.withStore (s : State) (v : BookStore) : State := { s with store := v }
def State.withSettlement (s : State) (v : Settlement) : State := { s with settlement := v }
def State.withJournal (s : State) (v : Journal) : State := { s with journal := v }
def State.withFeederA (s : State) (v : Engine) : State := { s with feederA := v }
def State.withFeederB (s : State) (v : Engine) : State := { s with feederB := v }
def State.withReserve (s : State) (v : Reserve) : State := { s with reserve := v }
def State.withMargin (s : State) (v : Nat) : State := { s with margin := v }
def State.withDisplay (s : State) (v : Display) : State := { s with display := v }
def State.withHost (s : State) (v : HostLine) : State := { s with host := v }
def State.withNotices (s : State) (v : Notices) : State := { s with notices := v }

/-- The engine of a feeder (R111). -/
def State.engine (s : State) (f : Feeder) : Engine :=
  match f with
  | .A => s.feederA
  | .B => s.feederB

/-- The state with one feeder's engine replaced; the other engine is left as it is (chapter 6, opening). -/
def State.withEngine (s : State) (f : Feeder) (e : Engine) : State :=
  match f with
  | .A => s.withFeederA e
  | .B => s.withFeederB e

/-- The household record of a slot (R20). -/
def State.household (s : State) (i : Slot) : Household := s.table[i]

/-- The state with one household record replaced. -/
def State.withHousehold (s : State) (i : Slot) (h : Household) : State := s.withTable (s.table.set i h)

/-- Every slot, in slot order. -/
def allSlots : List Slot := List.finRange 96

/-- A slot's number as the manual writes it, 1..96. -/
def slotNumber (i : Slot) : Nat := i.val + 1

/-! ## Counts and ranges -/

/-- A count raised by 1 that stays at its ceiling once there (R54, R111, R136, R182). -/
def bump (ceiling n : Nat) : Nat := min (n + 1) ceiling

/-- The natural number a request's number stands for when it lies in lo..hi. -/
def natIn (lo hi : Nat) (n : Int) : Option Nat :=
  if (lo : Int) ≤ n ∧ n ≤ (hi : Int) then some n.toNat else none

/-- The slot that a number 1..96 names (R20). -/
def slotOf (n : Int) : Option Slot :=
  if h : 1 ≤ n ∧ n ≤ 96 then some ⟨(n - 1).toNat, by omega⟩ else none

/-- An amount inside the balance limit of a household or the fund (R20, R36). -/
def withinLimit (x : Int) : Bool := decide (-Config.balanceLimit ≤ x ∧ x ≤ Config.balanceLimit)

/-! ## The charter's values in effect -/

/-- The value of a charter word (R193). -/
def State.charterWord (s : State) (w : CharterIx) : Nat := s.charter.words[w].toNat

/-- The charter is locked when word 31 holds 0 (R194). -/
def State.locked (s : State) : Bool := s.charterWord 31 = 0

/-- A legal interval length in minutes (R3). -/
def legalLength (n : Nat) : Bool := decide (n ∈ [5, 10, 15, 20, 30, 60])

/-- The interval length that a value of word 2 gives, or none (R3). -/
def lengthOf (n : Nat) : Option Nat := if legalLength n then some n else none

/-- The interval length in effect (R3). -/
def State.intervalLength (s : State) : Option Nat := lengthOf (s.charterWord 2)

/-- The household limit that a value of word 1 gives (R21). -/
def limitOf (n : Nat) : Nat := if 1 ≤ n ∧ n ≤ 96 then n else 0

/-- The household limit in effect (R21). -/
def State.householdLimit (s : State) : Nat := limitOf (s.charterWord 1)

/-- The charter grace G (R48, R193). -/
def State.grace (s : State) : Nat := s.charterWord 3

/-- The cap ceiling that a value of word 4 gives; word 4 has 16 bits, so only 0 gives 0 (R21). -/
def capCeilingOf (n : Nat) : Nat := if 1 ≤ n ∧ n ≤ 65535 then n else 0

/-- The cap ceiling in effect (R21). -/
def State.capCeiling (s : State) : Nat := capCeilingOf (s.charterWord 4)

/-- The levy ceiling that a value of word 5 gives (R16). -/
def levyCeilingOf (n : Nat) : Nat := if n ≤ Config.maxLevy then n else 0

/-- The levy ceiling in effect (R16). -/
def State.levyCeiling (s : State) : Nat := levyCeilingOf (s.charterWord 5)

/-- The floor minimum that a value of word 6 gives (R21). -/
def floorMinimumOf (n : Nat) : Nat := if n ≤ 65534 then n else 0

/-- The lowest credit floor that a floor minimum allows, µcr (R20, R21). -/
def lowestFloorOf (n : Nat) : Int := -((floorMinimumOf n : Int) * Config.microPerCredit)

/-- The lowest credit floor in effect (R20, R21). -/
def State.lowestFloor (s : State) : Int := lowestFloorOf (s.charterWord 6)

/-- The AHEAD tolerance in effect (R69). -/
def State.tolerance (s : State) : Nat := s.charterWord 7

/-! ## Service state, supply monitor, power -/

/-- The part runs: it is out of reset and past its start-up (R205, R206). -/
def State.running (s : State) : Bool := s.power.phase = .running

/-- A change that a block makes only while the part runs; in reset and in start-up nothing happens (R205). -/
def whileRunning (f : State → State) (s : State) : State := if s.running then f s else s

/-! ## Household table -/

/-- A record is in use (R21). -/
def Household.present (h : Household) : Bool := h.member ≠ .vacant

/-- The number of non-VACANT households (R21). -/
def State.memberCount (s : State) : Nat := s.table.toList.countP Household.present

/-- The household that a feeder and meter address are bound to (R21, R123). -/
def State.boundTo (s : State) (f : Feeder) (addr : Nat) (i : Slot) : Bool :=
  (s.household i).present &&
    match (s.household i).settings with
    | some c => c.feeder = f && c.addr = addr
    | none => false

/-- A meter address is held on a feeder by a non-VACANT household other than the slot given (R21, R24, R26). -/
def State.addressTaken (s : State) (f : Feeder) (addr : Nat) (except : Slot) : Bool :=
  allSlots.any fun j => j ≠ except && s.boundTo f addr j

/-- The sum of all household balances (R37, R40). -/
def State.balanceSum (s : State) : Int := (s.table.toList.map Household.balance).sum

/-- The record of a slot that becomes VACANT by a withdrawal: the fields of R20's VACANT column, the relay fields kept. -/
def Household.vacated (h : Household) : Household :=
  { h with member := .vacant, settings := none, bases := none, balance := 0, misses := 0 }

/-! ## Books -/

/-- The state of a book is OPEN, DUE, SETTLING (R43). -/
def Book.isOpen (b : Book) : Bool := b.state = .opened
def Book.isDue (b : Book) : Bool :=
  match b.state with
  | .due _ => true
  | _ => false
def Book.isSettling (b : Book) : Bool :=
  match b.state with
  | .settling _ => true
  | _ => false

/-- A book's close cause, absent while OPEN (R43). -/
def Book.cause (b : Book) : Option Cause :=
  match b.state with
  | .opened => none
  | .due c => some c
  | .settling c => some c

/-- The held book of a boundary (R42). -/
def State.bookOf (s : State) (boundary : Nat) : Option Book := s.store.books.find? fun b => b.boundary = boundary

/-- Every held book of a boundary changed by f; the others as they are. -/
def State.mapBook (s : State) (boundary : Nat) (f : Book → Book) : State :=
  s.withStore { s.store with books := s.store.books.map fun b => if b.boundary = boundary then f b else b }

/-- A slot has a non-EXCLUDED entry in a book (R31, R32). -/
def Book.concerns (b : Book) (i : Slot) : Bool := b.entries[i] ≠ .excluded

/-- Some held book has a non-EXCLUDED entry for the slot (R31, R32). -/
def State.heldFor (s : State) (i : Slot) : Bool := s.store.books.any fun b => b.concerns i

/-- The slot has a non-EXCLUDED entry in the SETTLING book (R25, R29, R30). -/
def State.settlingFor (s : State) (i : Slot) : Bool := s.store.books.any fun b => b.isSettling && b.concerns i

/-- An enabled substitution entry covers the slot's entry in the book of the boundary (R44). -/
def State.covers (s : State) (boundary : Nat) (i : Slot) : Bool :=
  s.store.subs.any fun e => e.enabled && e.boundary = boundary && e.slot = i

/-! ## Journal -/

/-- The journal lines of a record (R96, R101). -/
def RecordBody.lineCount : RecordBody → Nat
  | .settled _ lines => lines.length
  | .account _ _ _ _ => 1
  | .fund _ _ => 1
  | .member _ _ _ => 1

/-- The lines held by all records (R96). -/
def Journal.lineCount (j : Journal) : Nat := (j.records.map fun r => r.body.lineCount).sum

/-- The next sequence number can be taken n times before it becomes EXHAUSTED (R98). -/
def Journal.numbersFor (j : Journal) (n : Nat) : Bool :=
  match j.nextSeq with
  | some q => q + n ≤ Config.maxSequence + 1
  | none => n = 0

/-- The journal has room for an event's records and lines (R98). -/
def Journal.hasRoom (j : Journal) (records lines : Nat) : Bool :=
  j.records.length + records ≤ Config.maxRecords && j.lineCount + lines ≤ Config.maxLines && j.numbersFor records

/-- The sequence number after q is taken; 4,294,967,295 leaves EXHAUSTED (R97). -/
def nextSequence (q : Nat) : Option Nat := if q < Config.maxSequence then some (q + 1) else none

/-- A record appended at the journal's young end with the next sequence number (R97, R98); its callers have checked the
room, so an EXHAUSTED journal never comes here. -/
def Journal.append (j : Journal) (body : RecordBody) : Journal :=
  match j.nextSeq with
  | some q => { records := j.records ++ [{ seq := q, body := body }], nextSeq := nextSequence q }
  | none => j

/-- The state with a record appended to its journal (R98). -/
def State.record (s : State) (body : RecordBody) : State := s.withJournal (s.journal.append body)

/-- The number the next record takes, as a reply shows it (R24, R38). -/
def Journal.nextNumber (j : Journal) : Nat := j.nextSeq.getD 0

/-! ## Retry events -/

/-- A retry event sets the deferral cause to NONE (R107); the start conditions that it makes true are taken by
SETTLING_START (log 9). -/
def State.retry (s : State) : State := s.withSettlement { s.settlement with deferral := .none }

/-! ## What serving a request answers -/

/-- What the event that serves a request comes to (R182, R183, R196): refused with a reply and no change; done, with the new
state and the reply; or accepted, the reply waiting for the completion of a charter program. -/
inductive Served
  | refused (reply : Reply)
  | done (s : State) (reply : Reply)
  | programming (s : State)

/-- A refusal: NO and a reason word (R183). -/
def refuse (reason : Kw) : Served := .refused [[.kw .NO, .kw reason]]

/-- A single-line reply: OK and its fields (R184). -/
def okLine (fields : List Field) : Reply := [.kw .OK :: fields]

/-- A multi-line reply: the opening line, the lines, END (R184). -/
def okLines (opening : List Field) (lines : List ReplyLine) : Reply :=
  (.kw .OK :: opening) :: lines ++ [[.kw .END]]

/-- A number as a reply field. -/
def Field.nat (n : Nat) : Field := .num n

end Sys2Proof.Machine
end

