-- ==== Sys2Proof/Machine/Flags.lean ====
section
/-! DEFINITION. The flag computations: notices and ATTN (chapter 10), the reserve flags (chapter 7), and the flags of a
journal line as a reply names them (chapter 5). -/

namespace Sys2Proof.Machine

/-! ## Notices and ATTN -/

/-- A notice's place in the order of R188. -/
def Notice.index : Notice → Fin 16
  | .restarted => 0
  | .clockInvalid => 1
  | .clockHeld => 2
  | .span => 3
  | .settled => 4
  | .journalFull => 5
  | .balanceLimit => 6
  | .feederA => 7
  | .feederB => 8
  | .meterSilent => 9
  | .householdFault => 10
  | .relayUnconfirmed => 11
  | .queueOverflow => 12
  | .substDropped => 13
  | .reserve => 14
  | .powerWarning => 15

/-- The sixteen notices in the order NOTICES reports them (R188). -/
def noticeOrder : List Notice :=
  [.restarted, .clockInvalid, .clockHeld, .span, .settled, .journalFull, .balanceLimit, .feederA, .feederB, .meterSilent,
    .householdFault, .relayUnconfirmed, .queueOverflow, .substDropped, .reserve, .powerWarning]

/-- A notice's name (R188). -/
def Notice.kw : Notice → Kw
  | .restarted => .RESTARTED
  | .clockInvalid => .CLOCK_INVALID
  | .clockHeld => .CLOCK_HELD
  | .span => .SPAN
  | .settled => .SETTLED
  | .journalFull => .JOURNAL_FULL
  | .balanceLimit => .BALANCE_LIMIT
  | .feederA => .FEEDER_A
  | .feederB => .FEEDER_B
  | .meterSilent => .METER_SILENT
  | .householdFault => .HOUSEHOLD_FAULT
  | .relayUnconfirmed => .RELAY_UNCONFIRMED
  | .queueOverflow => .QUEUE_OVERFLOW
  | .substDropped => .SUBST_DROPPED
  | .reserve => .RESERVE
  | .powerWarning => .POWER_WARNING

/-- The notice a word names, if any (R190, R191). -/
def noticeOf (k : Kw) : Option Notice := noticeOrder.find? fun n => n.kw = k

/-- The cell of a notice. -/
def Notices.cell (ns : Notices) (n : Notice) : NoticeCell := ns.cells[n.index]

/-- The cells with one notice's cell replaced. -/
def Notices.setCell (ns : Notices) (n : Notice) (c : NoticeCell) : Notices := { ns with cells := ns.cells.set n.index c }

/-- At least one notice has its flag set and its mask ON (R192). -/
def Notices.wantsAttention (ns : Notices) : Bool := ns.cells.toList.any fun c => c.flag && c.mask

/-- ATTN follows the notices while the part runs, and is low in reset and in start-up (R192, R205). -/
def State.driveAttn (s : State) : State :=
  s.withNotices { s.notices with attn := s.running && s.notices.wantsAttention }

/-- A notice set once: its flag is set, its count rises by 1 wrapping from 255 to 0, and ATTN follows (R188, R192). -/
def State.notify (s : State) (n : Notice) : State :=
  let c := s.notices.cell n
  (s.withNotices (s.notices.setCell n { c with flag := true, count := (c.count + 1) % 256 })).driveAttn

/-- A notice set a number of times in one event (R188). -/
def State.notifyTimes (s : State) (n : Notice) : Nat → State
  | 0 => s
  | k + 1 => (s.notify n).notifyTimes n k

/-- A feeder's own notice (R125). -/
def feederNotice : Feeder → Notice
  | .A => .feederA
  | .B => .feederB

/-- Every flag clear and every count 0, the masks kept (R188). -/
def Notices.cleared (ns : Notices) : Notices :=
  { cells := tabulate 16 fun i => { flag := false, count := 0, mask := ns.cells[i].mask }, attn := false }

/-! ## Reserve flags -/

/-- No reserve flag. -/
def ReserveFlags.empty : ReserveFlags := { scarce := false, surplus := false, stale := false }

/-- The effective reserve state (R147). -/
def WatchState.effective : WatchState → Condition
  | .live c => c
  | .stale c => c

/-- The reserve state is STALE (R136). -/
def WatchState.isStale : WatchState → Bool
  | .live _ => false
  | .stale _ => true

/-- The flags of the state at one moment, which the accumulator holds after a hand-over (R150). -/
def WatchState.flags (w : WatchState) : ReserveFlags :=
  { scarce := w.effective = .scarce, surplus := w.effective = .surplus, stale := w.isStale }

/-- Two sets of reserve flags joined; a flag already held stays held (R149). -/
def ReserveFlags.join (a b : ReserveFlags) : ReserveFlags :=
  { scarce := a.scarce || b.scarce, surplus := a.surplus || b.surplus, stale := a.stale || b.stale }

/-- The names of the reserve flags held, for BOOKREAD, JREAD and RESREAD. Their order is that in which R43, R99 and R149 name the
values (DESIGN CHOICE, log 51: R66, R103 and R154 give the names no order). -/
def ReserveFlags.names (f : ReserveFlags) : List Kw :=
  (if f.scarce then [.SCARCE_SEEN] else []) ++ (if f.surplus then [.SURPLUS_SEEN] else []) ++
    (if f.stale then [.STALE_SEEN] else [])

/-- Names joined by commas, or a stated field when there is none (R66, R103, R154). -/
def namesOr (none : Field) (ks : List Kw) : Field := if ks = [] then none else .names ks

/-! ## Flags of a SETTLED line -/

/-- A line flag's name (R79, R100). -/
def LineFlag.kw : LineFlag → Kw
  | .base => .BASE
  | .capped => .CAPPED
  | .ahead => .AHEAD
  | .regression => .REGRESSION
  | .subst => .SUBST
  | .missing => .MISSING
  | .notHeld => .NOT_HELD
  | .vacated => .VACATED

end Sys2Proof.Machine
end

