-- ==== Sys2Proof/Machine/Operands.lean ====
section
/-! DEFINITION. The operand forms: the words of a request as values (chapters 1 to 11), the text of lines and replies
(R180, R181, R183, R184), and the frames of the feeder and plant links with their CRC (R112, R113, R114, R137, R138). -/

namespace Sys2Proof.Machine

/-! ## Words of a request as values -/

/-- A feeder's name (R132). -/
def feederOf : Tok → Option Feeder
  | .kw .A => some .A
  | .kw .B => some .B
  | _ => none

/-- ON or OFF (R14, R175). -/
def onOffOf : Tok → Option Bool
  | .kw .ON => some true
  | .kw .OFF => some false
  | _ => none

/-- YES or NO (R24). -/
def yesNoOf : Tok → Option Bool
  | .kw .YES => some true
  | .kw .NO => some false
  | _ => none

/-- A relay policy (R24). -/
def policyOf : Tok → Option Policy
  | .kw .AUTO => some .auto
  | .kw .HOLD_CLOSED => some .holdClosed
  | .kw .MANUAL => some .manual
  | _ => none

/-- A relay state in a request (R165). -/
def relayOf : Tok → Option Relay
  | .kw .OPEN => some .opened
  | .kw .CLOSED => some .closed
  | _ => none

/-- A display mode (R175). -/
def modeOf : Tok → Option Mode
  | .kw .OFF => some .off
  | .kw .SCROLL => some .scroll
  | .kw .HOLD => some .hold
  | _ => none

/-- A number word (R183). -/
def numberOf : Tok → Option Int
  | .num n => some n
  | _ => none

/-- The days of the week in the order MON to SUN (R14). -/
def weekdayOrder : List Weekday := [.MON, .TUE, .WED, .THU, .FRI, .SAT, .SUN]

/-- A weekday set's one form: listed in the order MON to SUN, a name given twice counted once (R14). -/
def weekdaySet (ds : List Weekday) : List Weekday := weekdayOrder.filter fun d => d ∈ ds

/-- The weekday set of a BANDSET (R14). -/
def weekdaysOf : Tok → Option (List Weekday)
  | .days ds => some (weekdaySet ds)
  | .kw .ALL => some weekdayOrder
  | .kw .NONE => some []
  | _ => none

/-- The words of a request read in pairs of a keyword and a value: none when a word is left over, a first word is no
keyword, or the reader refuses a pair (R25, R153, R175, R190, R191). -/
def readPairs {α : Type} (read : Kw → Tok → Option α) : List Tok → Option (List (Kw × α))
  | [] => some []
  | .kw k :: v :: rest =>
    match read k v, readPairs read rest with
    | some a, some more => some ((k, a) :: more)
    | _, _ => none
  | _ => none

/-- One or more pairs, no keyword twice (R25, R153, R175, R190, R191). The word ALL of NOTMASK is refused when it is given
twice, as a notice name is (log 45). -/
def pairs {α : Type} (read : Kw → Tok → Option α) (args : List Tok) : Option (List (Kw × α)) :=
  match readPairs read args with
  | some (p :: ps) => if ((p :: ps).map Prod.fst).Nodup then some (p :: ps) else none
  | _ => none

/-- The value given with a keyword, if any. -/
def given {α : Type} (ps : List (Kw × α)) (k : Kw) : Option α := (ps.find? fun p => p.1 = k).map Prod.snd

/-! ## Names in replies -/

def feederKw : Feeder → Kw
  | .A => .A
  | .B => .B

def onOff (b : Bool) : Field := .kw (if b then .ON else .OFF)

def MemberState.kw : MemberState → Kw
  | .vacant => .VACANT
  | .enrolled => .ENROLLED
  | .active => .ACTIVE
  | .suspended => .SUSPENDED
  | .fault => .FAULT
  | .leaving => .LEAVING

def Policy.kw : Policy → Kw
  | .auto => .AUTO
  | .holdClosed => .HOLD_CLOSED
  | .manual => .MANUAL

def Relay.kw : Relay → Kw
  | .opened => .OPEN
  | .closed => .CLOSED

/-- A commanded state is written OPEN or CLOSE (R128, R133). -/
def Relay.commandKw : Relay → Kw
  | .opened => .OPEN
  | .closed => .CLOSE

def confirmedKw : Option Relay → Kw
  | some r => r.kw
  | none => .UNKNOWN

def Cause.kw : Cause → Kw
  | .grace => .GRACE
  | .complete => .COMPLETE
  | .forced => .FORCED

def MeterStatus.kw : MeterStatus → Kw
  | .ok => .OK
  | .clockLost => .CLOCK_LOST
  | .relayFault => .RELAY_FAULT

def Deferral.kw : Deferral → Kw
  | .none => .NONE
  | .journalFull => .JOURNAL_FULL
  | .balanceLimit => .BALANCE_LIMIT

def Link.kw : Link → Kw
  | .up => .UP
  | .down => .DOWN
  | .forced => .FORCED

def Condition.kw : Condition → Kw
  | .normal => .NORMAL
  | .scarce => .SCARCE
  | .surplus => .SURPLUS

def WatchState.kw : WatchState → Kw
  | .live c => c.kw
  | .stale _ => .STALE

def Mode.kw : Mode → Kw
  | .off => .OFF
  | .scroll => .SCROLL
  | .hold => .HOLD

def Activity.kw : Activity → Kw
  | .showing => .SHOWING
  | .blanking => .BLANKING
  | .off => .OFF
  | .warning => .WARNING

def Service.kw : Service → Kw
  | .uncommissioned => .UNCOMMISSIONED
  | .commissioning => .COMMISSIONING
  | .service => .SERVICE

def AccountCause.kw : AccountCause → Kw
  | .topup => .TOPUP
  | .adjust => .ADJUST

def MemberAction.kw : MemberAction → Kw
  | .enrol => .ENROL
  | .suspend => .SUSPEND
  | .resume => .RESUME
  | .rebase => .REBASE
  | .withdraw => .WITHDRAW

/-- A page as DISPCFG and DISPREAD write it (R175, R179). -/
def Page.field : Page → Field
  | .household i => .nat (slotNumber i)
  | .reserve => .kw .RESERVE
  | .clock => .kw .CLOCK

/-- The baud rate (R180, R186). -/
def baudOf : Rate → Nat
  | .low => 9600
  | .high => 57600

/-! ## Text of names -/

/-- A keyword's text (R183). -/
def kwText : Kw → String
  | .ON => "ON"
  | .OFF => "OFF"
  | .ALL => "ALL"
  | .NONE => "NONE"
  | .A => "A"
  | .B => "B"
  | .AUTO => "AUTO"
  | .HOLD_CLOSED => "HOLD_CLOSED"
  | .MANUAL => "MANUAL"
  | .YES => "YES"
  | .NO => "NO"
  | .CAP => "CAP"
  | .FLOOR => "FLOOR"
  | .POLICY => "POLICY"
  | .SHOW => "SHOW"
  | .FEEDER => "FEEDER"
  | .ADDR => "ADDR"
  | .OLDEST => "OLDEST"
  | .QUEUE => "QUEUE"
  | .CFG => "CFG"
  | .SOCLOW => "SOCLOW"
  | .SOCHYST => "SOCHYST"
  | .FHIGH => "FHIGH"
  | .FHYST => "FHYST"
  | .FMIN => "FMIN"
  | .FMAX => "FMAX"
  | .DIV => "DIV"
  | .COUNT => "COUNT"
  | .OPEN => "OPEN"
  | .CLOSED => "CLOSED"
  | .MARGIN => "MARGIN"
  | .MODE => "MODE"
  | .RATE => "RATE"
  | .DWELL => "DWELL"
  | .RESERVE => "RESERVE"
  | .CLOCK => "CLOCK"
  | .PAGE => "PAGE"
  | .SCROLL => "SCROLL"
  | .HOLD => "HOLD"
  | .RESTARTED => "RESTARTED"
  | .CLOCK_INVALID => "CLOCK_INVALID"
  | .CLOCK_HELD => "CLOCK_HELD"
  | .SPAN => "SPAN"
  | .SETTLED => "SETTLED"
  | .JOURNAL_FULL => "JOURNAL_FULL"
  | .BALANCE_LIMIT => "BALANCE_LIMIT"
  | .FEEDER_A => "FEEDER_A"
  | .FEEDER_B => "FEEDER_B"
  | .METER_SILENT => "METER_SILENT"
  | .HOUSEHOLD_FAULT => "HOUSEHOLD_FAULT"
  | .RELAY_UNCONFIRMED => "RELAY_UNCONFIRMED"
  | .QUEUE_OVERFLOW => "QUEUE_OVERFLOW"
  | .SUBST_DROPPED => "SUBST_DROPPED"
  | .POWER_WARNING => "POWER_WARNING"
  | .OK => "OK"
  | .END => "END"
  | .LONG => "LONG"
  | .SYNTAX => "SYNTAX"
  | .UNKNOWN => "UNKNOWN"
  | .RANGE => "RANGE"
  | .STATE => "STATE"
  | .BUSY => "BUSY"
  | .ROOM => "ROOM"
  | .LOCKED => "LOCKED"
  | .LATE => "LATE"
  | .ABSENT => "ABSENT"
  | .HELD => "HELD"
  | .VALID => "VALID"
  | .INVALID => "INVALID"
  | .NOHOLD => "NOHOLD"
  | .ALIGN => "ALIGN"
  | .IDLE => "IDLE"
  | .EVENT => "EVENT"
  | .NOLEN => "NOLEN"
  | .VACANT => "VACANT"
  | .ENROLLED => "ENROLLED"
  | .ACTIVE => "ACTIVE"
  | .SUSPENDED => "SUSPENDED"
  | .FAULT => "FAULT"
  | .LEAVING => "LEAVING"
  | .DUE => "DUE"
  | .SETTLING => "SETTLING"
  | .GRACE => "GRACE"
  | .COMPLETE => "COMPLETE"
  | .FORCED => "FORCED"
  | .MARKED => "MARKED"
  | .UNMARKED => "UNMARKED"
  | .PENDING => "PENDING"
  | .RECEIVED => "RECEIVED"
  | .NOT_HELD => "NOT_HELD"
  | .MISSING => "MISSING"
  | .SUBSTITUTED => "SUBSTITUTED"
  | .EXCLUDED => "EXCLUDED"
  | .CLOCK_LOST => "CLOCK_LOST"
  | .RELAY_FAULT => "RELAY_FAULT"
  | .COVERED => "COVERED"
  | .SCARCE_SEEN => "SCARCE_SEEN"
  | .SURPLUS_SEEN => "SURPLUS_SEEN"
  | .STALE_SEEN => "STALE_SEEN"
  | .REPLACED => "REPLACED"
  | .NEW => "NEW"
  | .ACCOUNT => "ACCOUNT"
  | .FUND => "FUND"
  | .MEMBER => "MEMBER"
  | .TOPUP => "TOPUP"
  | .ADJUST => "ADJUST"
  | .ENROL => "ENROL"
  | .SUSPEND => "SUSPEND"
  | .RESUME => "RESUME"
  | .REBASE => "REBASE"
  | .WITHDRAW => "WITHDRAW"
  | .BASE => "BASE"
  | .CAPPED => "CAPPED"
  | .AHEAD => "AHEAD"
  | .REGRESSION => "REGRESSION"
  | .SUBST => "SUBST"
  | .VACATED => "VACATED"
  | .EXHAUSTED => "EXHAUSTED"
  | .UP => "UP"
  | .DOWN => "DOWN"
  | .MARK => "MARK"
  | .GUARD => "GUARD"
  | .SUPPLY => "SUPPLY"
  | .SNAPSHOT => "SNAPSHOT"
  | .CLOSE => "CLOSE"
  | .NORMAL => "NORMAL"
  | .SCARCE => "SCARCE"
  | .SURPLUS => "SURPLUS"
  | .STALE => "STALE"
  | .QUEUED => "QUEUED"
  | .FULL => "FULL"
  | .SHOWING => "SHOWING"
  | .BLANKING => "BLANKING"
  | .WARNING => "WARNING"
  | .MINUS => "MINUS"
  | .OVER => "OVER"
  | .SEZGAT => "SEZGAT"
  | .S296 => "S296"
  | .UNLOCKED => "UNLOCKED"
  | .UNCOMMISSIONED => "UNCOMMISSIONED"
  | .COMMISSIONING => "COMMISSIONING"
  | .SERVICE => "SERVICE"
  | .GOOD => "GOOD"
  | .COMPUTING => "COMPUTING"
  | .SET => "SET"
  | .CLEAR => "CLEAR"

/-- A request's name (00, Requests at a glance). -/
def reqText : Req → String
  | .CLKREAD => "CLKREAD"
  | .CLKSET => "CLKSET"
  | .CLKALIGN => "CLKALIGN"
  | .BANDSET => "BANDSET"
  | .BANDREAD => "BANDREAD"
  | .PRICESET => "PRICESET"
  | .PRICEREAD => "PRICEREAD"
  | .HHENROL => "HHENROL"
  | .HHEDIT => "HHEDIT"
  | .HHREAD => "HHREAD"
  | .HHSUSPEND => "HHSUSPEND"
  | .HHRESUME => "HHRESUME"
  | .HHREBASE => "HHREBASE"
  | .HHWITHDRAW => "HHWITHDRAW"
  | .TOPUP => "TOPUP"
  | .ADJUST => "ADJUST"
  | .FUND => "FUND"
  | .FUNDREAD => "FUNDREAD"
  | .BOOKS => "BOOKS"
  | .BOOKREAD => "BOOKREAD"
  | .CLOSENOW => "CLOSENOW"
  | .SUBSET => "SUBSET"
  | .SUBOFF => "SUBOFF"
  | .SUBCLR => "SUBCLR"
  | .SUBREAD => "SUBREAD"
  | .JREAD => "JREAD"
  | .JRELEASE => "JRELEASE"
  | .JSTAT => "JSTAT"
  | .FEEDER => "FEEDER"
  | .FDRFORCE => "FDRFORCE"
  | .FDRTIMING => "FDRTIMING"
  | .RESREAD => "RESREAD"
  | .RESCFG => "RESCFG"
  | .RELAY => "RELAY"
  | .RLYCFG => "RLYCFG"
  | .DISPCFG => "DISPCFG"
  | .DISPREAD => "DISPREAD"
  | .IDENT => "IDENT"
  | .STATUS => "STATUS"
  | .NOTICES => "NOTICES"
  | .NOTACK => "NOTACK"
  | .NOTMASK => "NOTMASK"
  | .CHRREAD => "CHRREAD"
  | .CHRPROG => "CHRPROG"
  | .CHRLOCK => "CHRLOCK"
  | .WIPE => "WIPE"

def dayText : Weekday → String
  | .MON => "MON"
  | .TUE => "TUE"
  | .WED => "WED"
  | .THU => "THU"
  | .FRI => "FRI"
  | .SAT => "SAT"
  | .SUN => "SUN"

/-- Every keyword of the host line. -/
def allKeywords : List Kw := [
    .ON, .OFF, .ALL, .NONE, .A, .B, .AUTO, .HOLD_CLOSED, .MANUAL, .YES,
    .NO, .CAP, .FLOOR, .POLICY, .SHOW, .FEEDER, .ADDR, .OLDEST, .QUEUE, .CFG,
    .SOCLOW, .SOCHYST, .FHIGH, .FHYST, .FMIN, .FMAX, .DIV, .COUNT, .OPEN, .CLOSED,
    .MARGIN, .MODE, .RATE, .DWELL, .RESERVE, .CLOCK, .PAGE, .SCROLL, .HOLD, .RESTARTED,
    .CLOCK_INVALID, .CLOCK_HELD, .SPAN, .SETTLED, .JOURNAL_FULL, .BALANCE_LIMIT, .FEEDER_A, .FEEDER_B, .METER_SILENT, .HOUSEHOLD_FAULT,
    .RELAY_UNCONFIRMED, .QUEUE_OVERFLOW, .SUBST_DROPPED, .POWER_WARNING, .OK, .END, .LONG, .SYNTAX, .UNKNOWN, .RANGE,
    .STATE, .BUSY, .ROOM, .LOCKED, .LATE, .ABSENT, .HELD, .VALID, .INVALID, .NOHOLD,
    .ALIGN, .IDLE, .EVENT, .NOLEN, .VACANT, .ENROLLED, .ACTIVE, .SUSPENDED, .FAULT, .LEAVING,
    .DUE, .SETTLING, .GRACE, .COMPLETE, .FORCED, .MARKED, .UNMARKED, .PENDING, .RECEIVED, .NOT_HELD,
    .MISSING, .SUBSTITUTED, .EXCLUDED, .CLOCK_LOST, .RELAY_FAULT, .COVERED, .SCARCE_SEEN, .SURPLUS_SEEN, .STALE_SEEN, .REPLACED,
    .NEW, .ACCOUNT, .FUND, .MEMBER, .TOPUP, .ADJUST, .ENROL, .SUSPEND, .RESUME, .REBASE,
    .WITHDRAW, .BASE, .CAPPED, .AHEAD, .REGRESSION, .SUBST, .VACATED, .EXHAUSTED, .UP, .DOWN,
    .MARK, .GUARD, .SUPPLY, .SNAPSHOT, .CLOSE, .NORMAL, .SCARCE, .SURPLUS, .STALE, .QUEUED,
    .FULL, .SHOWING, .BLANKING, .WARNING, .MINUS, .OVER, .SEZGAT, .S296, .UNLOCKED, .UNCOMMISSIONED,
    .COMMISSIONING, .SERVICE, .GOOD, .COMPUTING, .SET, .CLEAR]

/-- Every request of the manual. -/
def allRequests : List Req := [
    .CLKREAD, .CLKSET, .CLKALIGN, .BANDSET, .BANDREAD, .PRICESET, .PRICEREAD, .HHENROL, .HHEDIT, .HHREAD,
    .HHSUSPEND, .HHRESUME, .HHREBASE, .HHWITHDRAW, .TOPUP, .ADJUST, .FUND, .FUNDREAD, .BOOKS, .BOOKREAD,
    .CLOSENOW, .SUBSET, .SUBOFF, .SUBCLR, .SUBREAD, .JREAD, .JRELEASE, .JSTAT, .FEEDER, .FDRFORCE,
    .FDRTIMING, .RESREAD, .RESCFG, .RELAY, .RLYCFG, .DISPCFG, .DISPREAD, .IDENT, .STATUS, .NOTICES,
    .NOTACK, .NOTMASK, .CHRREAD, .CHRPROG, .CHRLOCK, .WIPE]

/-- The weekday that a word names, if any (R14). -/
def weekdayNamed (text : List Char) : Option Weekday := weekdayOrder.find? fun d => (dayText d).toList = text

/-! ## Text of a request line -/

/-- A small letter as its capital; the request name and every keyword may be written in any mix (R183). -/
def capital (c : Char) : Char := if 'a' ≤ c ∧ c ≤ 'z' then Char.ofNat (c.toNat - 32) else c

/-- A decimal digit's value. -/
def digitValue (c : Char) : Option Nat := if '0' ≤ c ∧ c ≤ '9' then some (c.toNat - 48) else none

/-- One or more decimal digits as a number, leading zeros allowed (R183). -/
def readDigits (acc : Nat) : List Char → Option Nat
  | [] => some acc
  | c :: cs =>
    match digitValue c with
    | some d => readDigits (acc * 10 + d) cs
    | none => none

/-- A number: an optional minus sign and one or more decimal digits, read exactly (R183). -/
def readNumber : List Char → Option Int
  | [] => none
  | '-' :: c :: cs => (readDigits 0 (c :: cs)).map fun n => -(n : Int)
  | c :: cs => (readDigits 0 (c :: cs)).map fun n => (n : Int)

/-- A list of characters cut at every occurrence of one character. -/
def splitAt (sep : Char) : List Char → List (List Char)
  | [] => [[]]
  | c :: cs =>
    if c = sep then [] :: splitAt sep cs
    else
      match splitAt sep cs with
      | w :: ws => (c :: w) :: ws
      | [] => [[c]]

/-- Day names joined by commas without spaces (R14). -/
def readDays (text : List Char) : Option (List Weekday) := (splitAt ',' text).mapM weekdayNamed

/-- One word after the request name, its letters already in capitals (R183). -/
def readWord (text : List Char) : Tok :=
  match readNumber text with
  | some n => .num n
  | none =>
    match readDays text with
    | some ds => .days ds
    | none =>
      match allKeywords.find? fun k => (kwText k).toList = text with
      | some k => .kw k
      | none => .other text

/-- The words of a line: separated by one or more spaces, spaces at either end ignored (R180). -/
def wordsOf (text : List Char) : List (List Char) := (splitAt ' ' text).filter fun w => w ≠ []

/-- The code of a received character. -/
def rxChar (c : RxChar) : Char := Char.ofNat c.code.toNat

/-- A character that marks its line bad: outside 32..126, or received with its stop bit low (R180). -/
def rxBad (c : RxChar) : Bool := !c.stopHigh || c.code.toNat < 32 || 126 < c.code.toNat

/-- A space received whole. -/
def rxSpace (c : RxChar) : Bool := c.stopHigh && c.code = 32

/-- The line that the words of a good line make: its request, or UNKNOWN when the first word names none (R183). -/
def lineOfWords : List (List Char) → Line
  | [] => .unknown
  | name :: rest =>
    match allRequests.find? fun r => (reqText r).toList = name with
    | some r => .request r (rest.map readWord)
    | none => .unknown

/-- The characters before a terminator as a complete line; none when the line holds nothing besides spaces and is ignored
(R180, R181, log 5, log 29). -/
def receiveLine (chars : List RxChar) : Option Line :=
  if chars.all rxSpace then none
  else if Config.maxLineLength < chars.length then some .long
  else if chars.any rxBad then some .bad
  else some (lineOfWords (wordsOf (chars.map fun c => capital (rxChar c))))

/-! ## Text of a reply -/

/-- A natural number in decimal (R184). -/
def natText (n : Nat) : List Char := Nat.toDigits 10 n

/-- A number in decimal, with a leading minus sign for a negative value (R184). -/
def intText (n : Int) : List Char := if n < 0 then '-' :: natText n.natAbs else natText n.natAbs

/-- A number in at least w digits (section 1.7). -/
def paddedText (w n : Nat) : List Char :=
  let t := natText n
  List.replicate (w - t.length) '0' ++ t

/-- Texts joined by one character. -/
def joinText (sep : Char) : List (List Char) → List Char
  | [] => []
  | [t] => t
  | t :: ts => t ++ sep :: joinText sep ts

/-- A display character in DISPREAD: _ for a blank position (R179), the letter n as R169 spells it (log 44). -/
def Glyph.char : Glyph → Char
  | .digit d => Char.ofNat (48 + d.val)
  | .dash => '-'
  | .n => 'n'
  | .L => 'L'
  | .H => 'H'
  | .blank => '_'

/-- The text of one field (R12, R184). -/
def Field.text : Field → List Char
  | .num n => intText n
  | .kw k => (kwText k).toList
  | .dash => ['-']
  | .date y m d => joinText '-' [paddedText 4 y, paddedText 2 m, paddedText 2 d]
  | .time h m s => joinText ':' [paddedText 2 h, paddedText 2 m, paddedText 2 s]
  | .day d => (dayText d).toList
  | .days ds => joinText ',' (ds.map fun d => (dayText d).toList)
  | .names ks => joinText ',' (ks.map fun k => (kwText k).toList)
  | .glyphs gs => gs.map Glyph.char

/-- The characters of a reply on HTXD: fields separated by single spaces, each line ended by CR and LF (R184). -/
def replyText (r : Reply) : List Char :=
  (r.map fun line => joinText ' ' (line.map Field.text) ++ [Char.ofNat 13, Char.ofNat 10]).flatten

/-- The text of a word of a request, as the host may write it (R183). -/
def tokText : Tok → List Char
  | .num n => intText n
  | .kw k => (kwText k).toList
  | .days ds => joinText ',' (ds.map fun d => (dayText d).toList)
  | .other t => t

/-- A request's line as the host may write it. -/
def lineText (r : Req) (args : List Tok) : List Char := joinText ' ' ((reqText r).toList :: args.map tokText)

/-! ## CRC and bytes of frames -/

/-- One message bit taken into the CRC register (R113). -/
def crcBit (reg : Word16) (bit : Bool) : Word16 :=
  let shifted := reg <<< 1
  if reg.msb != bit then shifted ^^^ Config.crcGenerator else shifted

/-- The bits of a byte, the most significant first (R113). -/
def byteBits (b : Byte) : List Bool := [7, 6, 5, 4, 3, 2, 1, 0].map fun i => b.getLsbD i

/-- The CRC of bytes in the order they are sent (R113). -/
def crc (bytes : List Byte) : Word16 := (bytes.flatMap byteBits).foldl crcBit Config.crcStart

/-- A 16-bit value, its most significant byte first (R112). -/
def bytes16 (w : Word16) : List Byte := [w.extractLsb' 8 8, w.extractLsb' 0 8]

/-- Bytes as one number, the most significant first (R112, R138). -/
def bigEndian (bytes : List Byte) : Nat := bytes.foldl (fun acc b => acc * 256 + b.toNat) 0

/-- A frame: address, kind and body, then the CRC with its high byte first (R112, R113). -/
def withCrc (bytes : List Byte) : List Byte := bytes ++ bytes16 (crc bytes)

/-- The boundary tag: the low 16 bits of a boundary number (R112). -/
def boundaryTag (b : Nat) : Word16 := BitVec.ofNat 16 b

/-- The MARK frame of a boundary and its instant (R112, R115). -/
def markFrame (b : Nat) (t : DateTime) : List Byte :=
  withCrc ([0, Config.kindMark] ++ bytes16 (boundaryTag b) ++
    [t.year - Config.firstYear, t.month, t.day, t.hour, t.minute, t.second].map (BitVec.ofNat 8))

/-- The SNAP? frame (R112). -/
def snapRequestFrame (addr b : Nat) : List Byte :=
  withCrc ([BitVec.ofNat 8 addr, Config.kindSnapRequest] ++ bytes16 (boundaryTag b))

/-- The SUPPLY frame: command 0 is OPEN, 1 is CLOSE (R112). -/
def supplyFrame (addr : Nat) (r : Relay) : List Byte :=
  withCrc [BitVec.ofNat 8 addr, Config.kindSupply, if r = .opened then 0 else 1]

/-- The frame length that a kind byte fixes, none for a kind outside the six codes (R112). -/
def frameLength (kind : Byte) : Option Nat :=
  if kind = Config.kindMark then some 12
  else if kind = Config.kindSnapRequest then some 6
  else if kind = Config.kindSnap then some 16
  else if kind = Config.kindNotHeld then some 6
  else if kind = Config.kindSupply then some 5
  else if kind = Config.kindSupplied then some 5
  else none

/-- The last two bytes of a frame are the CRC of those before (R113). -/
def crcGood (bytes : List Byte) : Bool :=
  let n := bytes.length - 2
  bytes.drop n = bytes16 (crc (bytes.take n))

/-- A meter status byte (R112). -/
def statusOf (b : Byte) : Option MeterStatus :=
  if b = 0 then some .ok else if b = 1 then some .clockLost else if b = 2 then some .relayFault else none

/-- A relay state byte (R112). -/
def relayByte (b : Byte) : Option Relay := if b = 0 then some .opened else if b = 1 then some .closed else none

/-- A good reply frame of a meter (R114). -/
inductive MeterReply
  | snap (tag : Word16) (s : Snapshot)
  | notHeld (tag : Word16)
  | supplied (r : Relay)
  deriving DecidableEq, Repr

/-- What a received feeder frame is (R114): bad; a stray for its kind or its address 0; or a reply from an address. -/
inductive Heard
  | bad
  | stray
  | reply (addr : Nat) (r : MeterReply)
  deriving DecidableEq, Repr

/-- The body of a reply frame, none when a status or relay byte holds a value outside its list (R112, R114). -/
def replyOf (bytes : List Byte) : Option MeterReply :=
  match bytes with
  | [_, _, t1, t0, i3, i2, i1, i0, e3, e2, e1, e0, st, re, _, _] =>
    match statusOf st, relayByte re with
    | some m, some r =>
      some (.snap (BitVec.ofNat 16 (bigEndian [t1, t0]))
        { imp := BitVec.ofNat 32 (bigEndian [i3, i2, i1, i0]), exp := BitVec.ofNat 32 (bigEndian [e3, e2, e1, e0])
          status := m, relay := r })
    | _, _ => none
  | [_, _, t1, t0, _, _] => some (.notHeld (BitVec.ofNat 16 (bigEndian [t1, t0])))
  | [_, _, re, _, _] => (relayByte re).map MeterReply.supplied
  | _ => none

/-- The judgement of a received frame (R114): its kind and length, its CRC, its status and relay bytes, then whether it can
be a reply at all. -/
def hear (bytes : List Byte) : Heard :=
  match bytes with
  | addr :: kind :: _ =>
    if frameLength kind ≠ some bytes.length then .bad
    else if !crcGood bytes then .bad
    else if kind = Config.kindMark ∨ kind = Config.kindSnapRequest ∨ kind = Config.kindSupply then .stray
    else
      match replyOf bytes with
      | none => .bad
      | some r => if addr = 0 then .stray else .reply addr.toNat r
  | _ => .bad

/-- A plant status frame's sequence and values (R138). -/
structure PlantFrame where
  seq : Nat
  values : PlantValues
  deriving DecidableEq, Repr

/-- A plant status frame that is not bad: 12 bytes, frame code 97, a CRC that compares equal (R137, R138). -/
def plantFrameOf (bytes : List Byte) : Option PlantFrame :=
  match bytes with
  | [code, q, c1, c0, f1, f0, p3, p2, p1, p0, _, _] =>
    if code = Config.plantCode ∧ crcGood bytes = true then
      some { seq := q.toNat
             values := { charge := bigEndian [c1, c0], frequency := bigEndian [f1, f0]
                         power := (BitVec.ofNat 32 (bigEndian [p3, p2, p1, p0])).toInt } }
    else none
  | _ => none

end Sys2Proof.Machine
end

