-- ==== Sys2Proof/Machine/Dates.lean ====
section
/-! DEFINITION. The calendar's arithmetic: days, minutes and weekdays of a date-time (R1), boundary numbers and instants
(R4), the one-second step (R1, R2), the alignment's rounding (R11), and the band resolution (R18). -/

namespace Sys2Proof.Machine

/-- February has 29 days in every year of the range divisible by 4 (R1). -/
def leapYear (y : Nat) : Bool := y % 4 = 0

/-- The days of a month (R1). -/
def daysInMonth (y m : Nat) : Nat :=
  if m = 2 then (if leapYear y then 29 else 28)
  else if m = 4 ∨ m = 6 ∨ m = 9 ∨ m = 11 then 30
  else 31

/-- Days from 2000-01-01 to January 1 of a year of the range: every fourth year from 2000 on has one day more (R1). -/
def daysBeforeYear (y : Nat) : Nat := 365 * (y - Config.firstYear) + (y - Config.firstYear + 3) / 4

/-- Days of a year before a month. -/
def daysBeforeMonth (y m : Nat) : Nat := ((List.range (m - 1)).map fun k => daysInMonth y (k + 1)).sum

/-- Whole days from 2000-01-01 to a date. -/
def DateTime.dayNumber (t : DateTime) : Nat := daysBeforeYear t.year + daysBeforeMonth t.year t.month + (t.day - 1)

/-- The minute of the day, 0..1439 (R18). -/
def DateTime.minuteOfDay (t : DateTime) : Nat := t.hour * 60 + t.minute

/-- Whole minutes from 2000-01-01 00:00 (R4). -/
def DateTime.minutes (t : DateTime) : Nat := t.dayNumber * 1440 + t.minuteOfDay

/-- The weekday: 2000-01-01 is a SAT, and each following day takes the next one cyclically (R1,
log 28). -/
def DateTime.weekday (t : DateTime) : Weekday :=
  match (t.dayNumber + 5) % 7 with
  | 0 => .MON
  | 1 => .TUE
  | 2 => .WED
  | 3 => .THU
  | 4 => .FRI
  | 5 => .SAT
  | _ => .SUN

/-- The month and day of the d-th day of a year (from 0), looking at the months from m on, at most n of them. -/
def monthDay (y : Nat) : Nat → Nat → Nat → Nat × Nat
  | 0, m, d => (m, d + 1)
  | n + 1, m, d => if d < daysInMonth y m then (m, d + 1) else monthDay y n (m + 1) (d - daysInMonth y m)

/-- The year of a day number and the day of that year: four years have 1,461 days, the first of them 366 (R1). -/
def yearDay (d : Nat) : Nat × Nat :=
  let q := d / 1461
  let r := d % 1461
  if r < 366 then (Config.firstYear + 4 * q, r)
  else (Config.firstYear + 4 * q + 1 + (r - 366) / 365, (r - 366) % 365)

/-- The date-time that lies a number of whole minutes after 2000-01-01 00:00 (R4, R91). -/
def ofMinutes (m : Nat) : DateTime :=
  let yd := yearDay (m / 1440)
  let md := monthDay yd.1 11 1 yd.2
  { year := yd.1, month := md.1, day := md.2, hour := m % 1440 / 60, minute := m % 60, second := 0 }

/-- The boundary instant of b under an interval length (R4). -/
def boundaryInstant (len b : Nat) : DateTime := ofMinutes (b * len)

/-- The number of the boundary at or before a time (R4). -/
def boundaryAt (len : Nat) (t : DateTime) : Nat := t.minutes / len

/-- A time is the boundary instant of b under an interval length (R4, R6). -/
def isInstantOf (len b : Nat) (t : DateTime) : Bool := t.second = 0 && t.minutes = b * len

/-- The first moment of the calendar's range (R2). -/
def firstMoment : DateTime := { year := 2000, month := 1, day := 1, hour := 0, minute := 0, second := 0 }

/-- The last moment of the calendar's range (R2). -/
def lastMoment : DateTime := { year := 2099, month := 12, day := 31, hour := 23, minute := 59, second := 59 }

/-- A date-time inside its ranges (section 1.1, R8). -/
def validDateTime (t : DateTime) : Bool :=
  Config.firstYear ≤ t.year && t.year ≤ Config.lastYear && 1 ≤ t.month && t.month ≤ 12 && 1 ≤ t.day &&
    t.day ≤ daysInMonth t.year t.month && t.hour ≤ 23 && t.minute ≤ 59 && t.second ≤ 59

/-- The date-time one second later, carrying as a clock and a calendar do; none past the end of the range (R1, R2). -/
def DateTime.tick (t : DateTime) : Option DateTime :=
  if t.second < 59 then some { t with second := t.second + 1 }
  else if t.minute < 59 then some { t with minute := t.minute + 1, second := 0 }
  else if t.hour < 23 then some { t with hour := t.hour + 1, minute := 0, second := 0 }
  else if t.day < daysInMonth t.year t.month then
    some { t with day := t.day + 1, hour := 0, minute := 0, second := 0 }
  else if t.month < 12 then some { t with month := t.month + 1, day := 1, hour := 0, minute := 0, second := 0 }
  else if t.year < Config.lastYear then
    some { year := t.year + 1, month := 1, day := 1, hour := 0, minute := 0, second := 0 }
  else none

/-- The alignment's date-time: the one that the ordinary step would give, rounded to the nearest minute; none when either
carries past the end of the range (R11). -/
def DateTime.align (t : DateTime) : Option DateTime :=
  match t.tick with
  | none => none
  | some u => if u.second ≤ 29 then some { u with second := 0 } else ({ u with second := 59 } : DateTime).tick

/-- A band entry takes part at a weekday and minute of the day (R18). -/
def Band.appliesAt (b : Band) (d : Weekday) (minute : Nat) : Bool := b.used && d ∈ b.weekdays && b.start ≤ minute

/-- The entry to take of two that apply, the first with the lower number: the greater start, and of equal starts the lower
number (R18). -/
def laterBand (best : Option Band) (b : Band) : Option Band :=
  match best with
  | none => some b
  | some a => if a.start < b.start then some b else some a

/-- The price set index that the band entries resolve to at an interval's start (R18). -/
def Tariff.resolve (t : Tariff) (start : DateTime) : SetIx :=
  let here := t.bands.toList.filter fun b => b.appliesAt start.weekday start.minuteOfDay
  match here.foldl laterBand none with
  | some b => b.setIx
  | none => 0

end Sys2Proof.Machine
end

