-- ==== Sys2Proof/Machine/Limiter.lean ====
section
/-! DEFINITION. The supply limiter's rules (chapter 8) and the supply command queues it offers households to (R128). -/

namespace Sys2Proof.Machine

/-! ## The supply command queue (R128) -/

/-- What an offer to a queue comes to (R128). -/
inductive Offered
  | queued (q : List QueueEntry)
  | full
  deriving DecidableEq, Repr

/-- A slot has an entry in a queue. -/
def inQueue (q : List QueueEntry) (i : Slot) : Bool := q.any fun e => e.slot = i

/-- An offer to a queue: replaced in place, joined at the tail, or refused when 16 entries are held (R128). -/
def offerTo (q : List QueueEntry) (i : Slot) (command : Relay) : Offered :=
  if inQueue q i then .queued (q.map fun e => if e.slot = i then { e with command := command } else e)
  else if q.length < Config.maxQueue then .queued (q ++ [{ slot := i, command := command }])
  else .full

/-- A household offered to a feeder's queue outside a pass build: QUEUE_OVERFLOW is set once when it is refused (R128). -/
def State.offer (s : State) (f : Feeder) (i : Slot) (command : Relay) : State :=
  match offerTo (s.engine f).queue i command with
  | .queued q => s.withEngine f { s.engine f with queue := q }
  | .full => s.notify .queueOverflow

/-- A slot's entry, if any, removed from a feeder's queue (R26, R32, R129). -/
def State.unqueue (s : State) (f : Feeder) (i : Slot) : State :=
  s.withEngine f { s.engine f with queue := (s.engine f).queue.filter fun e => e.slot ≠ i }

/-! ## Evaluations -/

/-- The floor the limiter applies at this moment (R156). -/
def State.effectiveFloor (s : State) (floor : Int) : Int :=
  if s.reserve.state.effective = .scarce then max floor Config.scarcityFloor else floor

/-- The relay state that an evaluation decides (R157). -/
def State.decision (s : State) (c : Settings) (h : Household) : Relay :=
  match c.policy with
  | .holdClosed => .closed
  | .manual => h.wanted
  | .auto =>
    if h.balance < s.effectiveFloor c.floor then .opened
    else if s.effectiveFloor c.floor + s.margin ≤ h.balance then .closed
    else h.wanted

/-- The member states whose households are evaluated (R159). -/
def MemberState.evaluated : MemberState → Bool
  | .enrolled => true
  | .active => true
  | .fault => true
  | .leaving => true
  | .vacant => false
  | .suspended => false

/-- The wanted state of a household written and the household offered to the queue of its feeder (R158). -/
def State.want (s : State) (i : Slot) (c : Settings) (r : Relay) : State :=
  (s.withHousehold i { s.household i with wanted := r }).offer c.feeder i r

/-- One evaluation of a household (R157, R158, R159). -/
def State.evaluate (s : State) (i : Slot) : State :=
  let h := s.household i
  match h.settings with
  | none => s
  | some c =>
    if !h.member.evaluated then s
    else if s.decision c h = h.wanted then s
    else s.want i c (s.decision c h)

/-- A household's policy is AUTO. -/
def Household.isAuto (h : Household) : Bool :=
  match h.settings with
  | some c => c.policy = .auto
  | none => false

/-- Every AUTO household evaluated, in slot order (R160). -/
def State.evaluateAuto (s : State) : State :=
  allSlots.foldl (fun s i => if (s.household i).isAuto then s.evaluate i else s) s

/-- The policy write of HOLD_CLOSED: relay wanted becomes CLOSED, and a household whose wanted state was OPEN is offered
with CLOSE (R161). -/
def State.holdClosed (s : State) (i : Slot) : State :=
  let h := s.household i
  match h.settings with
  | none => s
  | some c => if h.wanted = .opened then s.want i c .closed else s

end Sys2Proof.Machine
end

