-- ==== Sys2Proof/Machine/Books.lean ====
section
/-! DEFINITION. The book store (chapter 3): closing, opening and filling books, the substitution table, and the vacating of
a slot, which takes its queue entry and substitution entries with it (R32, R63, R129). -/

namespace Sys2Proof.Machine

/-! ## Closing -/

/-- A PENDING entry made MISSING by a GRACE or FORCED closing, covered or not (R48, R52). -/
def Entry.miss : Entry → Entry
  | .pending => .missing
  | e => e

/-- A book closed with a cause, its PENDING entries made MISSING (R48, R52). -/
def Book.closeMissing (b : Book) (c : Cause) : Book :=
  { b with state := .due c, entries := tabulate 96 fun i => b.entries[i].miss }

/-- The number of entries of a book in a state. -/
def Book.countEntries (b : Book) (p : Entry → Bool) : Nat := b.entries.toList.countP p

/-- The entry of a slot is PENDING (R44). -/
def Book.pendingAt (b : Book) (i : Slot) : Bool := b.entries[i] = .pending

/-- Every OPEN book that a boundary event makes due closed by GRACE (R48). -/
def closeByGrace (grace boundary : Nat) (books : List Book) : List Book :=
  books.map fun b => if b.isOpen && grace < boundary - b.boundary then b.closeMissing .grace else b

/-- A marked OPEN book none of whose entries is PENDING and uncovered (R50). -/
def State.isComplete (s : State) (b : Book) : Bool :=
  b.isOpen && b.marked && allSlots.all fun i => !(b.pendingAt i && !s.covers b.boundary i)

/-- The test for COMPLETE of the book of a boundary: it becomes DUE, its covered PENDING entries staying PENDING (R50). -/
def State.testComplete (s : State) (boundary : Nat) : State :=
  s.mapBook boundary fun b => if s.isComplete b then { b with state := .due .complete } else b

/-! ## Opening -/

/-- The entry of a slot in a book opened now (R22, R46). -/
def Household.openingEntry (h : Household) : Entry :=
  match h.member with
  | .enrolled => .pending
  | .active => .pending
  | _ => .excluded

/-- The span of the next book to open at a boundary event of a step (R45). -/
def BookStore.nextSpan (k : BookStore) (step : Nat) : Nat := if k.fresh then 1 else k.carried + step

/-- The book that a boundary event opens: its span (R45), its prices by the band resolution at the interval's start (R18,
R19), the accumulator's flags (R150), a PENDING entry for each ENROLLED or ACTIVE household (R46). -/
def State.newBook (s : State) (len boundary step : Nat) : Book :=
  let ix := s.tariff.resolve (boundaryInstant len (boundary - 1))
  { boundary := boundary
    span := s.store.nextSpan step
    state := .opened
    setIx := ix
    prices := s.tariff.sets[ix]
    flags := s.reserve.flags
    marked := false
    markA := false
    markB := false
    entries := tabulate 96 fun i => (s.household i).openingEntry }

/-- A book joins the store at its young end and the reserve flags are handed over (R45, R46, R150). -/
def State.openBook (s : State) (len boundary step : Nat) : State :=
  (s.withStore
      { s.store with books := s.store.books ++ [s.newBook len boundary step], carried := 0, fresh := false }).withReserve
    { s.reserve with flags := s.reserve.state.flags }

/-- A boundary event whose step joins the carried span; SPAN is set (R49). -/
def State.skipBoundary (s : State) (step : Nat) : State :=
  (s.withStore { s.store with carried := s.store.carried + step }).notify .span

/-- The book store's part in a boundary event (R46, R48, R49). -/
def State.boundaryAtStore (s : State) (len boundary step : Nat) : State :=
  if s.service ≠ .service then s
  else if s.supply.warning then s.skipBoundary step
  else
    let t := s.withStore { s.store with books := closeByGrace s.grace boundary s.store.books }
    if t.store.books.length < Config.maxBooks then t.openBook len boundary step else t.skipBoundary step

/-! ## Marks -/

/-- A feeder added to a book's MARK reported field; the book is marked when both have reported (R47). -/
def Book.reportMark (b : Book) (f : Feeder) : Book :=
  let a := b.markA || f = .A
  let c := b.markB || f = .B
  { b with markA := a, markB := c, marked := b.marked || (a && c) }

/-- A feeder's report that it has sent the MARK of a boundary (R47), and the test for COMPLETE (R50). -/
def State.reportMark (s : State) (f : Feeder) (boundary : Nat) : State :=
  (s.mapBook boundary fun b => b.reportMark f).testComplete boundary

/-! ## Intake -/

/-- The entry that a delivery files (R53). -/
def Delivery.entry (d : Delivery) : Entry :=
  match d.snap with
  | some snap => .received snap
  | none => .notHeld

/-- A late delivery: discarded and counted (R54). -/
def State.lateDelivery (s : State) : State :=
  s.withStore { s.store with late := bump Config.countCeiling s.store.late }

/-- What becomes of a delivery at its grant (R53, R54, R55): discarded uncounted in WARNING, filed into a PENDING entry of
an OPEN book, late for any other book; a delivery for an entry already filled changes nothing (log 11). A filing that leaves
a marked book no uncovered PENDING entry closes it there and then (R50), so a SUBSET taken after it comes too late (R64,
log 38). -/
def State.intake (s : State) (d : Delivery) : State :=
  if s.supply.warning then s
  else
    match s.bookOf d.boundary with
    | none => s.lateDelivery
    | some b =>
      if !b.isOpen then s.lateDelivery
      else if b.pendingAt d.slot && s.service = .service then
        (s.mapBook d.boundary fun b => { b with entries := b.entries.set d.slot d.entry }).testComplete d.boundary
      else s

/-! ## The substitution table -/

/-- The entry of a slot and boundary in the table (R57). -/
def State.subAt (s : State) (i : Slot) (boundary : Nat) : Option Sub :=
  s.store.subs.find? fun e => e.slot = i && e.boundary = boundary

/-- The substitution entry that fires for a slot's entry in a book (R61). -/
def State.firing (s : State) (b : Book) (i : Slot) : Option Sub :=
  if b.concerns i then s.store.subs.find? fun e => e.enabled && e.boundary = b.boundary && e.slot = i else none

/-- A book's entries after firing (R61). -/
def State.fire (s : State) (b : Book) : Vector Entry 96 :=
  tabulate 96 fun i =>
    match s.firing b i with
    | some e => .substituted e.imp e.exp
    | none => b.entries[i]

/-- A substitution entry that the posting of a book removes without effect and with SUBST_DROPPED: enabled, and below the
book's boundary or for a slot EXCLUDED in the book (R62). -/
def Sub.droppedBy (e : Sub) (b : Book) : Bool :=
  e.enabled && (e.boundary < b.boundary || (e.boundary = b.boundary && !b.concerns e.slot))

/-- The substitution entries removed at the posting of a book, and SUBST_DROPPED once for each without effect (R62). -/
def State.removeSubsAtPosting (s : State) (b : Book) : State :=
  (s.withStore { s.store with subs := s.store.subs.filter fun e => b.boundary < e.boundary }).notifyTimes .substDropped
    (s.store.subs.countP fun e => e.droppedBy b)

/-- Every substitution entry of a slot removed, and SUBST_DROPPED once for each that was enabled (R63). -/
def State.removeSubsOf (s : State) (i : Slot) : State :=
  (s.withStore { s.store with subs := s.store.subs.filter fun e => e.slot ≠ i }).notifyTimes .substDropped
    (s.store.subs.countP fun e => e.enabled && e.slot = i)

/-! ## Vacating -/

/-- An exchange for a slot whose household becomes VACANT (R123, R124, R130). -/
def Exchange.orphan (x : Exchange) (i : Slot) : Exchange := if x.slot = i then { x with vacated := true } else x

/-- The exchange in flight of a pass changed. -/
def Pass.mapExchange (p : Pass) (f : Exchange → Exchange) : Pass :=
  match p.phase with
  | .supply x => { p with phase := .supply (f x) }
  | .snapshot x => { p with phase := .snapshot (f x) }
  | .mark => p
  | .guard => p

/-- A feeder's exchange in flight learns that a slot's household has become VACANT. -/
def State.orphanExchange (s : State) (f : Feeder) (i : Slot) : State :=
  s.withEngine f { s.engine f with pass := (s.engine f).pass.map fun p => p.mapExchange fun x => x.orphan i }

/-- A slot becomes VACANT by a withdrawal: its record takes R20's VACANT column, its queue entry leaves (R32, R129), its
substitution entries are removed (R63), and exchanges in flight for it are left without their household. -/
def State.vacate (s : State) (i : Slot) : State :=
  let t := (s.withHousehold i (s.household i).vacated).removeSubsOf i
  (((t.unqueue .A i).unqueue .B i).orphanExchange .A i).orphanExchange .B i

end Sys2Proof.Machine
end

