-- ==== Sys2Proof/Machine/Passes.lean ====
section
/-! DEFINITION. The feeder engines (chapter 6): building, beginning, abandoning and ending passes, exchanges with their
tries and outcomes, link health, and the frame each engine drives. -/

namespace Sys2Proof.Machine

/-! ## Building a pass -/

/-- The snapshot item of a slot in an OPEN book for a feeder: its entry is PENDING and uncovered and its household is bound
to the feeder (R115). -/
def State.snapItem (s : State) (f : Feeder) (b : Book) (i : Slot) : Option SnapItem :=
  match (s.household i).settings with
  | some c =>
    if c.feeder = f && b.pendingAt i && !s.covers b.boundary i then
      some { boundary := b.boundary, slot := i, addr := c.addr }
    else none
  | none => none

/-- The snapshot list of a feeder: book by book, oldest first, within a book in slot order (R115). -/
def State.snapList (s : State) (f : Feeder) : List SnapItem :=
  (s.store.books.filter Book.isOpen).flatMap fun b => allSlots.filterMap fun i => s.snapItem f b i

/-- A household that the re-queuing offers: non-VACANT, bound to the feeder, wanted and confirmed differing, without an
entry (R129). -/
def State.requeues (s : State) (f : Feeder) (q : List QueueEntry) (i : Slot) : Bool :=
  let h := s.household i
  match h.settings with
  | some c => h.present && c.feeder = f && h.confirmed ≠ some h.wanted && !inQueue q i
  | none => false

/-- The queue after the offers of a pass build, in slot order, and whether one was refused (R129). -/
def State.requeue (s : State) (f : Feeder) (q : List QueueEntry) : List QueueEntry × Bool :=
  allSlots.foldl
    (fun acc i =>
      if s.requeues f acc.1 i then
        match offerTo acc.1 i (s.household i).wanted with
        | .queued q => (q, acc.2)
        | .full => (acc.1, true)
      else acc)
    (q, false)

/-- A pass that begins: phase MARK (R116). -/
def PassPlan.begin (p : PassPlan) : Pass := { plan := p, phase := .mark, stopping := false }

/-- The engine takes up a new pass: at once when it has none, or when the one in flight waits out its guard; else the new
pass waits for the frame or exchange in flight, in place of one that waited before (R115, R119). -/
def Engine.take (e : Engine) (plan : PassPlan) : Engine :=
  match e.pass with
  | none => { e with pass := some plan.begin, next := none }
  | some p =>
    match p.phase with
    | .guard => { e with pass := some plan.begin, next := none }
    | .mark => { e with next := some plan }
    | .supply _ => { e with next := some plan }
    | .snapshot _ => { e with next := some plan }

/-- A pass built for a boundary event on one feeder, with its re-queuing; none is built in WARNING (R115, R120, R129). -/
def State.buildPass (s : State) (f : Feeder) (boundary : Nat) (instant : DateTime) : State :=
  if s.supply.warning then s
  else
    let r := s.requeue f (s.engine f).queue
    let e := { s.engine f with queue := r.1 }
    let t := s.withEngine f (e.take { boundary := boundary, instant := instant, items := s.snapList f })
    if r.2 then t.notify .queueOverflow else t

/-! ## Taking the next item -/

/-- A supply exchange for a queue entry would be withdrawn before its first try: its commanded state differs from relay
wanted, or the slot is VACANT (R130). -/
def State.withdraws (s : State) (q : QueueEntry) : Bool :=
  !(s.household q.slot).present || q.command ≠ (s.household q.slot).wanted

/-- The queue without the head entries whose exchanges are withdrawn before their first try (R130). -/
def State.liveQueue (s : State) (q : List QueueEntry) : List QueueEntry := q.dropWhile s.withdraws

/-- An item passes the checks made before its exchange begins (R118). -/
def State.itemStands (s : State) (f : Feeder) (it : SnapItem) : Bool :=
  (match s.bookOf it.boundary with
    | some b => b.isOpen && b.pendingAt it.slot
    | none => false) &&
    !s.covers it.boundary it.slot && s.boundTo f it.addr it.slot

/-- The items left without those skipped ahead of the first that passes its checks (R118). -/
def State.liveItems (s : State) (f : Feeder) (items : List SnapItem) : List SnapItem :=
  items.dropWhile fun it => !s.itemStands f it

/-- An exchange that begins, with the tries and timeout in effect (R121, R135). -/
def Engine.exchange (e : Engine) (ask : Ask) (slot : Slot) (addr : Nat) : Exchange :=
  { ask := ask, slot := slot, addr := addr, triesLeft := e.retries, timeout := e.timeout, stage := .sending,
    vacated := false }

/-- A household's meter address, 0 where there is none. -/
def State.addressOf (s : State) (i : Slot) : Nat :=
  match (s.household i).settings with
  | some c => c.addr
  | none => 0

/-- The next snapshot item of a pass is asked for, or the pass ends (R118). -/
def State.nextSnapshot (s : State) (f : Feeder) (p : Pass) : State :=
  let e := s.engine f
  match s.liveItems f p.plan.items with
  | it :: rest =>
    s.withEngine f
      { e with
        pass := some
          { p with
            plan := { p.plan with items := rest }
            phase := .snapshot (e.exchange (.snapshot it.boundary) it.slot it.addr) } }
  | [] => s.withEngine f { e with pass := none }

/-- The next supply command of a pass is sent, or the pass goes on to its snapshots (R117, R130). -/
def State.nextSupply (s : State) (f : Feeder) (p : Pass) : State :=
  let e := s.engine f
  match s.liveQueue e.queue with
  | q :: rest =>
    s.withEngine f
      { e with
        queue := rest
        pass := some { p with phase := .supply (e.exchange (.supply q.command) q.slot (s.addressOf q.slot)) } }
  | [] => (s.withEngine f { e with queue := [] }).nextSnapshot f p

/-- A pass after the frame or exchange in flight has ended: abandoned for the pass that waits (R119), ended by a warning or
by link health (R120, R125, R126), or going on as given. -/
def State.afterWork (s : State) (f : Feeder) (p : Pass) (goOn : State → Pass → State) : State :=
  match (s.engine f).next with
  | some plan => s.withEngine f { s.engine f with pass := some plan.begin, next := none }
  | none => if p.stopping then s.withEngine f { s.engine f with pass := none } else goOn s p

/-- A pass after an exchange of its phase SUPPLY or SNAPSHOT has ended. The next exchange begins in the same event, and its
frame then waits for the idle line, so no state lies between two exchanges (R117, R118, R119, log 39). -/
def State.afterExchange (s : State) (f : Feeder) (p : Pass) : State :=
  s.afterWork f p fun s p =>
    match p.phase with
    | .supply _ => s.nextSupply f p
    | _ => s.nextSnapshot f p

/-! ## Ends of exchanges -/

/-- The counts and link state of an engine at an answered exchange (R121, R125, R126). -/
def Engine.countAnswer (e : Engine) : Engine :=
  { e with
    answered := bump Config.countCeiling e.answered
    fails := 0
    link := if e.link = .down then .up else e.link }

/-- The failure moves the link from UP to DOWN (R125). -/
def Engine.goesDown (e : Engine) : Bool := e.link = .up && e.fails + 1 = Config.failsToDown

/-- The counts and link state of an engine at a failed exchange (R121, R125, R127). -/
def Engine.countFailure (e : Engine) : Engine :=
  { e with
    failed := bump Config.countCeiling e.failed
    fails := bump Config.shortCountCeiling e.fails
    link := if e.goesDown then .down else e.link }

/-- A household's relay confirmed written by the feeder controller, not during a supply warning (R120, R123, R131). -/
def State.confirm (s : State) (i : Slot) (r : Option Relay) : State :=
  if s.supply.warning then s else s.withHousehold i { s.household i with confirmed := r }

/-- A failed exchange: counts and link health, the feeder's notice at DOWN, relay confirmed UNKNOWN after a supply exchange,
and the pass ended when the link is DOWN (R121, R125, R126, R131). -/
def State.failExchange (s : State) (f : Feeder) (p : Pass) (x : Exchange) : State :=
  let e := s.engine f
  let t := s.withEngine f e.countFailure
  let t := if e.goesDown then t.notify (feederNotice f) else t
  let t :=
    match x.ask with
    | .supply _ => if x.vacated then t else t.confirm x.slot none
    | .snapshot _ => t
  t.afterExchange f { p with stopping := p.stopping || (t.engine f).link = .down }

/-- A supply exchange is withdrawn before a try: its commanded state differs from relay wanted, or its household has become
VACANT (R130). A snapshot exchange is not withdrawn (R123). -/
def State.withdrawsNow (s : State) (x : Exchange) : Bool :=
  match x.ask with
  | .supply r => x.vacated || r ≠ (s.household x.slot).wanted
  | .snapshot _ => false

/-- The pass with its exchange in flight replaced. -/
def Pass.withExchange (p : Pass) (x : Exchange) : Pass := p.mapExchange fun _ => x

/-- The wait of a try has run out (R121): the exchange fails on its last try, is withdrawn, or sends the next try. A probe
withdrawn after a try was neither answered nor failed, and the pass of a link in DOWN ends with it (R126, log 32). -/
def State.tryOver (s : State) (f : Feeder) (p : Pass) (x : Exchange) : State :=
  if x.triesLeft = 0 then s.failExchange f p x
  else if s.withdrawsNow x then s.afterExchange f { p with stopping := p.stopping || (s.engine f).link = .down }
  else
    s.withEngine f
      { s.engine f with
        pass := some (p.withExchange { x with triesLeft := x.triesLeft - 1, stage := .resending }) }

/-- The exchange in flight of a pass (R111). -/
def Pass.exchange (p : Pass) : Option Exchange :=
  match p.phase with
  | .supply x => some x
  | .snapshot x => some x
  | .mark => none
  | .guard => none

/-- The exchange in flight of an engine, with its pass. -/
def Engine.inFlight (e : Engine) : Option (Pass × Exchange) :=
  match e.pass with
  | some p => p.exchange.map fun x => (p, x)
  | none => none

/-! ## Replies -/

/-- A reply matches an exchange: it comes from the exchange's meter, and its kind, and for a snapshot its tag, answer the
request (R122). -/
def Exchange.answers (x : Exchange) (addr : Nat) (r : MeterReply) : Bool :=
  x.addr = addr &&
    match x.ask, r with
    | .snapshot b, .snap tag _ => tag = boundaryTag b
    | .snapshot b, .notHeld tag => tag = boundaryTag b
    | .supply _, .supplied _ => true
    | _, _ => false

/-- A delivery handed to the book store, where it waits for the array; none during a supply warning (R120, R123, R185). -/
def State.deliver (s : State) (f : Feeder) (x : Exchange) (b : Nat) (snap : Option Snapshot) : State :=
  if s.supply.warning then s
  else
    s.withStore
      { s.store with
        deliveries := s.store.deliveries ++ [{ feeder := f, slot := x.slot, boundary := b, snap := snap }] }

/-- What an answer writes beside the counts (R123, R131, log 13, log 27). -/
def State.takeAnswer (s : State) (f : Feeder) (x : Exchange) (r : MeterReply) : State :=
  match x.ask, r with
  | .snapshot b, .snap _ snap => (s.deliver f x b (some snap)).confirm x.slot (some snap.relay)
  | .snapshot b, .notHeld _ => s.deliver f x b none
  | .supply command, .supplied reported =>
    let t := s.confirm x.slot (some reported)
    if reported = command then t else t.notify .relayUnconfirmed
  | _, _ => s

/-- An answered exchange (R121, R122, R125). -/
def State.answerExchange (s : State) (f : Feeder) (p : Pass) (x : Exchange) (r : MeterReply) : State :=
  ((s.withEngine f (s.engine f).countAnswer).takeAnswer f x r).afterExchange f p

/-- A frame that ends without an answer leaves the exchange waiting; when the wait has run out meanwhile, the try is over
(R121). -/
def State.stillWaiting (s : State) (f : Feeder) : State :=
  match (s.engine f).inFlight with
  | some (p, x) => if x.stage = .overrun then s.tryOver f p x else s
  | none => s

/-- The bad-frame count of a feeder raised (R114). -/
def State.badFrame (s : State) (f : Feeder) : State :=
  s.withEngine f { s.engine f with bad := bump Config.countCeiling (s.engine f).bad }

/-- The stray count of a feeder raised (R124). -/
def State.stray (s : State) (f : Feeder) : State :=
  s.withEngine f { s.engine f with strays := bump Config.countCeiling (s.engine f).strays }

/-- A request frame is due or being sent (R121). -/
def TryStage.sends : TryStage → Bool
  | .sending => true
  | .resending => true
  | .waiting => false
  | .overrun => false

/-- An exchange takes a reply: it matches, the household is still there, and the first try has been sent (R122, R123,
log 12). -/
def Exchange.takes (x : Exchange) (addr : Nat) (r : MeterReply) : Bool :=
  x.stage ≠ .sending && x.answers addr r && !x.vacated

/-- A good reply offered to the exchange in flight: the first that it takes ends it; any other is a stray (R122, R123,
R124). -/
def State.offerReply (s : State) (f : Feeder) (addr : Nat) (r : MeterReply) : State :=
  match (s.engine f).inFlight with
  | some (p, x) => if x.takes addr r then s.answerExchange f p x r else (s.stray f).stillWaiting f
  | none => s.stray f

/-- The engine has a frame to send, a MARK or a request: it drives the link with it once the line has been idle for 3 ms, and
until its last byte (R112, R116, R121, log 15). -/
def Engine.frameDue (e : Engine) : Bool :=
  match e.pass with
  | none => false
  | some p =>
    match p.phase with
    | .mark => true
    | .guard => false
    | .supply x => x.stage.sends
    | .snapshot x => x.stage.sends

/-- The frame that an engine has to send, with FDA_DE or FDB_DE high while it drives it (R112, R113). -/
def Engine.frame (e : Engine) : Option (List Byte) :=
  if !e.frameDue then none
  else
    match e.pass with
    | none => none
    | some p =>
      match p.phase with
      | .mark => some (markFrame p.plan.boundary p.plan.instant)
      | .guard => none
      | .supply x => some (exchangeFrame x)
      | .snapshot x => some (exchangeFrame x)
where
  /-- The request frame of an exchange, the same for every try (R121). -/
  exchangeFrame (x : Exchange) : List Byte :=
    match x.ask with
    | .snapshot b => snapRequestFrame x.addr b
    | .supply r => supplyFrame x.addr r

/-- A frame received on a feeder (R114); nothing is received while the engine drives the frame it has to send (R112,
log 15). -/
def State.receiveFrame (s : State) (l : FeederLine) (bytes : List Byte) : State :=
  let f := l.feeder
  if (s.engine f).frameDue && l.driven then s
  else
    match hear bytes with
    | .bad => (s.badFrame f).stillWaiting f
    | .stray => (s.stray f).stillWaiting f
    | .reply addr r => s.offerReply f addr r

/-- A gap that ends a frame short, or the run of bytes after an unknown kind, as one bad frame; none is taken while the
engine drives (R112, R114, log 15). -/
def State.idleGap (s : State) (l : FeederLine) : State :=
  let f := l.feeder
  if (s.engine f).frameDue && l.driven then s else (s.badFrame f).stillWaiting f

/-! ## Other events of a pass -/

/-- A MARK's last byte sent: the feeder is reported, and the pass enters GUARD unless it is abandoned or stopped (R116,
R119, R120). -/
def State.markSent (s : State) (f : Feeder) : State :=
  match (s.engine f).pass with
  | none => s
  | some p =>
    match p.phase with
    | .mark =>
      (s.reportMark f p.plan.boundary).afterWork f p fun s p =>
        s.withEngine f { s.engine f with pass := some { p with phase := .guard } }
    | .guard => s
    | .supply _ => s
    | .snapshot _ => s

/-- The guard wait's end (R117). -/
def State.guardEnd (s : State) (f : Feeder) : State :=
  match (s.engine f).pass with
  | none => s
  | some p =>
    match p.phase with
    | .guard => s.nextSupply f p
    | .mark => s
    | .supply _ => s
    | .snapshot _ => s

/-- A request's last byte sent: the try's wait starts (R121). -/
def State.requestSent (s : State) (f : Feeder) : State :=
  match (s.engine f).inFlight with
  | some (p, x) =>
    if x.stage.sends then
      s.withEngine f { s.engine f with pass := some (p.withExchange { x with stage := .waiting }) }
    else s
  | none => s

/-- The wait of a try runs out; a frame whose first byte has arrived is received whole and judged first (R121, log 14). -/
def State.responseTimeout (s : State) (f : Feeder) (receiving : Bool) : State :=
  match (s.engine f).inFlight with
  | some (p, x) =>
    if x.stage ≠ .waiting then s
    else if receiving then
      s.withEngine f { s.engine f with pass := some (p.withExchange { x with stage := .overrun }) }
    else s.tryOver f p x
  | none => s

/-- An engine when the supply monitor enters WARNING: a pass that has not begun is discarded, one in GUARD ends, one with a
frame or exchange in flight ends after it (R120). -/
def Engine.warn (e : Engine) : Engine :=
  match e.pass with
  | none => { e with next := none }
  | some p =>
    match p.phase with
    | .guard => { e with pass := none, next := none }
    | .mark => { e with pass := some { p with stopping := true }, next := none }
    | .supply _ => { e with pass := some { p with stopping := true }, next := none }
    | .snapshot _ => { e with pass := some { p with stopping := true }, next := none }

/-- The phase that FEEDER reports (R111, R133). -/
def Engine.phaseKw (e : Engine) : Kw :=
  match e.pass with
  | none => .IDLE
  | some p =>
    match p.phase with
    | .mark => .MARK
    | .guard => .GUARD
    | .supply _ => .SUPPLY
    | .snapshot _ => .SNAPSHOT

/-- An exchange addressed to a meter is in flight on a feeder (R26). -/
def State.exchangeTo (s : State) (f : Feeder) (addr : Nat) : Bool :=
  match (s.engine f).inFlight with
  | some (_, x) => x.addr = addr
  | none => false

end Sys2Proof.Machine
end

