-- ==== Sys2Proof/Machine/Boundary.lean ====
section
/-! DEFINITION. Boundary events (R5) and the calendar's steps that may give one (R1, R6, R11). -/

namespace Sys2Proof.Machine

/-- A boundary event for b: b_last and the held state (R5), the book store (R46, R49), the retry (R107), then a pass on each
feeder built from the books as the event leaves them (R115). -/
def State.boundaryEvent (s : State) (len b : Nat) : State :=
  let step := b - s.calendar.bLast
  let t := s.withCalendar { s.calendar with bLast := b, held := false }
  let t := (t.boundaryAtStore len b step).retry
  (t.buildPass .A b (boundaryInstant len b)).buildPass .B b (boundaryInstant len b)

/-- The calendar becomes INVALID: it stops at a date-time, an alignment in flight ends, CLOCK_INVALID is set (R2, R10). -/
def State.invalidate (s : State) (t : DateTime) : State :=
  (s.withCalendar { s.calendar with now := t, valid := false, aligning := false }).notify .clockInvalid

/-- The check of a changed date-time: at the instant of b_last + 1 that boundary event occurs, with step 1 (R6). While the
part is in reset or in start-up no boundary event is given (R1, R205). -/
def State.checkBoundary (s : State) : State :=
  match s.intervalLength with
  | none => s
  | some len =>
    if s.running && isInstantOf len (s.calendar.bLast + 1) s.calendar.now then
      s.boundaryEvent len (s.calendar.bLast + 1)
    else s

/-- The catch-up boundary event at the end of a start-up (R6). -/
def State.catchUp (s : State) : State :=
  match s.intervalLength with
  | none => s
  | some len =>
    if s.calendar.valid && s.calendar.bLast < boundaryAt len s.calendar.now then
      s.boundaryEvent len (boundaryAt len s.calendar.now)
    else s

/-- The alignment's completion, which replaces the calendar's next step (R11). -/
def State.completeAlignment (s : State) : State :=
  match s.calendar.now.align with
  | some t => (s.withCalendar { s.calendar with now := t, aligning := false }).checkBoundary
  | none => s.invalidate lastMoment

/-- One step of the calendar (R1, R2): none while INVALID, the alignment's completion while one is in flight (R11,
log 25). -/
def State.calendarStep (s : State) : State :=
  if !s.calendar.valid then s
  else if s.calendar.aligning then s.completeAlignment
  else
    match s.calendar.now.tick with
    | some t => (s.withCalendar { s.calendar with now := t }).checkBoundary
    | none => s.invalidate s.calendar.now

/-- What the calendar does when the program of word 2 completes with a value (R3). -/
def State.lengthProgrammed (s : State) (value : Nat) : State :=
  match lengthOf value with
  | none => s
  | some len =>
    s.withCalendar
      { s.calendar with
        bLast := if s.calendar.valid then boundaryAt len s.calendar.now else 0
        held := false }

end Sys2Proof.Machine
end

