-- ==== Sys2Proof/Machine/Settle.lean ====
section
/-! DEFINITION. The settlement engine (chapter 4): taking a book, deriving each household's settled energy, netting and
matching, prices and levy, and the posting attempt with its checks and effects. -/

namespace Sys2Proof.Machine

/-! ## Taking a book (section 4.1) -/

/-- The oldest held book, when it is DUE, with its close cause (R51, R68). -/
def State.oldestDue (s : State) : Option (Book × Cause) :=
  match s.store.books with
  | b :: _ =>
    match b.state with
    | .due c => some (b, c)
    | _ => none
  | [] => none

/-- The start conditions of R68 hold together, with this book and cause. -/
def State.startable (s : State) : Option (Book × Cause) :=
  if s.settlement.computation.isNone && s.settlement.deferral = .none && s.service = .service && !s.supply.warning then
    s.oldestDue
  else none

/-- What the computation reads of a slot at its start (R69). -/
def State.slotInput (s : State) (entries : Vector Entry 96) (i : Slot) : SlotInput :=
  let h := s.household i
  { entry := entries[i]
    member := h.member
    cap := match h.settings with
      | some c => c.cap
      | none => 0
    bases := h.bases }

/-- The engine takes a book: it fires substitutions, becomes SETTLING, and the computation fixes its inputs (R61, R69). -/
def State.takeBook (s : State) (b : Book) (c : Cause) : State :=
  let entries := s.fire b
  (s.mapBook b.boundary fun k => { k with state := .settling c, entries := entries }).withSettlement
    { s.settlement with
      computation := some
        { boundary := b.boundary
          span := b.span
          prices := b.prices
          flags := b.flags
          tolerance := s.tolerance
          slots := tabulate 96 fun i => s.slotInput entries i } }

/-- SETTLING_START: the oldest DUE book is taken when the start conditions hold, and nothing happens otherwise (R68, R69). -/
def State.startSettling (s : State) : State :=
  match s.startable with
  | some (b, c) => s.takeBook b c
  | none => s

/-- A computation in flight discarded: its book is DUE again with its close cause and its SUBSTITUTED entries (R42, R71). -/
def BookState.undo : BookState → BookState
  | .settling c => .due c
  | b => b

/-- Every SETTLING book DUE again and the engine IDLE with its deferral cause NONE (R67, R71). -/
def State.discardComputation (s : State) : State :=
  (s.withStore { s.store with books := s.store.books.map fun b => { b with state := b.state.undo } }).withSettlement
    { computation := none, deferral := .none }

/-! ## Deriving settled energy (section 4.2) -/

/-- What happens to a consecutive-miss count (R34). -/
inductive MissChange
  | keep | zero | rise
  deriving DecidableEq, Repr

/-- What a slot settles: its energy, its line's flags, the baselines that its derivation requires when they move, and what
becomes of its miss count (R72). -/
structure Derived where
  imp : Nat
  exp : Nat
  flags : List LineFlag
  bases : Option Bases
  misses : MissChange
  deriving DecidableEq, Repr

/-- The judgement of one direction by the catch-up rule (R75, R76). -/
inductive Judged
  | forward (settled : Nat) (base : Word32)
  | capped (settled : Nat) (base : Word32)
  | ahead
  | regression
  deriving DecidableEq, Repr

/-- The effective cap of a household in a book (R74). -/
def effectiveCap (cap span : Nat) : Nat := min (cap * span) Config.maxSettled

/-- One direction judged against its baseline (R75, R76). -/
def judge (capE tolerance : Nat) (base cum : Word32) : Judged :=
  let d := (cum - base).toNat
  if d < 2147483648 then
    if d ≤ capE then .forward d cum else .capped capE (base + BitVec.ofNat 32 capE)
  else if 4294967296 - d ≤ tolerance then .ahead
  else .regression

/-- The energy that a judged direction settles (R75, R76). -/
def Judged.settled : Judged → Nat
  | .forward n _ => n
  | .capped n _ => n
  | .ahead => 0
  | .regression => 0

/-- The baseline after a judged direction (R75, R76). -/
def Judged.baseAfter (old : Word32) : Judged → Word32
  | .forward _ b => b
  | .capped _ b => b
  | .ahead => old
  | .regression => old

/-- The catch-up rule: each direction on its own, a regression in either voiding both (R75, R76). CAPPED stands before AHEAD
(DESIGN CHOICE, log 52). -/
def catchUpRule (capE tolerance : Nat) (b : Bases) (snap : Snapshot) : Derived :=
  let i := judge capE tolerance b.imp snap.imp
  let e := judge capE tolerance b.exp snap.exp
  if i = .regression ∨ e = .regression then
    { imp := 0, exp := 0, flags := [.regression], bases := none, misses := .zero }
  else
    let isCapped : Judged → Bool := fun j => match j with
      | .capped _ _ => true
      | _ => false
    { imp := i.settled
      exp := e.settled
      flags := (if isCapped i || isCapped e then [.capped] else []) ++
        (if i = .ahead ∨ e = .ahead then [.ahead] else [])
      bases := some { imp := i.baseAfter b.imp, exp := e.baseAfter b.exp }
      misses := .zero }

/-- The baseline rule (R73). -/
def baselineRule (snap : Snapshot) : Derived :=
  { imp := 0, exp := 0, flags := [.base], bases := some { imp := snap.imp, exp := snap.exp }, misses := .keep }

/-- The substitution rule (R77). -/
def substitutionRule (b : Bases) (imp exp : Nat) : Derived :=
  { imp := imp, exp := exp, flags := [.subst]
    bases := some { imp := b.imp + BitVec.ofNat 32 imp, exp := b.exp + BitVec.ofNat 32 exp }, misses := .zero }

/-- The miss rule, with the flag of the entry's state (R78). -/
def missRule (f : LineFlag) : Derived := { imp := 0, exp := 0, flags := [f], bases := none, misses := .rise }

/-- The derivation that applies to a slot, chosen from its entry, member state and baselines at the start (R72). -/
def derive (span tolerance : Nat) (x : SlotInput) : Option Derived :=
  if x.member = .fault then none
  else
    match x.entry, x.bases with
    | .received snap, none => some (baselineRule snap)
    | .received snap, some b => some (catchUpRule (effectiveCap x.cap span) tolerance b snap)
    | .substituted i e, some b => some (substitutionRule b i e)
    | .missing, some _ => some (missRule .missing)
    | .notHeld, some _ => some (missRule .notHeld)
    | _, _ => none

/-- A derivation gives its slot a line (R79). -/
def Derived.hasLine (d : Derived) : Bool := d.imp ≠ 0 || d.exp ≠ 0 || d.flags ≠ []

/-! ## Netting and matching (section 4.3) -/

/-- A slot's demand (R80). -/
def demandOf : Option Derived → Nat
  | some d => d.imp - d.exp
  | none => 0

/-- A slot's supply (R80). -/
def supplyOf : Option Derived → Nat
  | some d => d.exp - d.imp
  | none => 0

/-- The sum over every slot. -/
def total (x : Vector Nat 96) : Nat := x.toList.sum

/-- A long-side member's first share (R82). -/
def firstShare (m t x : Nat) : Nat := m * x / t

/-- A long-side member's remainder (R82). -/
def remainderOf (m t x : Nat) : Nat := m * x % t

/-- The shortfall: the sum of the remainders divided by the long side's total (R82). -/
def shortfall (m t : Nat) (x : Vector Nat 96) : Nat := (x.toList.map (remainderOf m t)).sum / t

/-- Member j is taken before member i: the larger remainder, and of equal remainders the lower slot (R83). -/
def takenBefore (m t : Nat) (x : Vector Nat 96) (i j : Slot) : Bool :=
  remainderOf m t x[i] < remainderOf m t x[j] ||
    (remainderOf m t x[i] = remainderOf m t x[j] && j.val < i.val)

/-- The number of members taken before a member (R83). -/
def rank (m t : Nat) (x : Vector Nat 96) (i : Slot) : Nat := allSlots.countP (takenBefore m t x i)

/-- A long-side member's matched energy: its first share, and one Wh of the shortfall for the k members taken first (R82,
R83). -/
def longShare (m t : Nat) (x : Vector Nat 96) (i : Slot) : Nat :=
  firstShare m t x[i] + if rank m t x i < shortfall m t x then 1 else 0

/-- A member's matched energy on a side of total t: its whole amount on the short side, its share on the long side (R81). -/
def matchedOf (m t : Nat) (x : Vector Nat 96) (i : Slot) : Nat := if t = m then x[i] else longShare m t x i

/-! ## Prices and money (section 4.4) -/

/-- The price of plant residuals (R85). -/
def plantPrice (p : PriceSet) (f : ReserveFlags) : Nat := if f.scarce then p.plantScarcity else p.plant

/-- The price of feed residuals (R85). -/
def feedPrice (p : PriceSet) (f : ReserveFlags) : Nat := if f.surplus then p.feedSurplus else p.feed

/-- What the computation gives for one slot (R80 to R87). -/
structure SlotResult where
  slot : Slot
  derived : Option Derived
  demand : Nat
  supply : Nat
  matched : Nat
  residual : Nat
  debit : Int
  credit : Int
  levy : Int
  fundPart : Int
  deriving DecidableEq, Repr

/-- The result of a slot from its amounts: a buyer's debit (R86), a seller's levy and credit (R87), and its part of the fund
change (R88). -/
def slotResult (p : PriceSet) (f : ReserveFlags) (i : Slot) (d : Option Derived) (matched : Nat) : SlotResult :=
  let demand := demandOf d
  let supply := supplyOf d
  let residual := demand + supply - matched
  let value : Int := matched * p.community
  if 0 < demand then
    let plantMoney : Int := residual * plantPrice p f
    { slot := i, derived := d, demand := demand, supply := supply, matched := matched, residual := residual
      debit := value + plantMoney, credit := 0, levy := 0, fundPart := plantMoney }
  else if 0 < supply then
    let levy : Int := value * p.levy / 1000
    let feedMoney : Int := residual * feedPrice p f
    { slot := i, derived := d, demand := demand, supply := supply, matched := matched, residual := residual
      debit := 0, credit := value - levy + feedMoney, levy := levy, fundPart := levy - feedMoney }
  else
    { slot := i, derived := d, demand := 0, supply := 0, matched := 0, residual := 0
      debit := 0, credit := 0, levy := 0, fundPart := 0 }

/-- The derivation of every slot of a computation (R72). -/
def Computation.derivations (c : Computation) : Vector (Option Derived) 96 :=
  tabulate 96 fun i => derive c.span c.tolerance c.slots[i]

/-- The demands and supplies of every slot (R80). -/
def demands (ds : Vector (Option Derived) 96) : Vector Nat 96 := tabulate 96 fun i => demandOf ds[i]
def supplies (ds : Vector (Option Derived) 96) : Vector Nat 96 := tabulate 96 fun i => supplyOf ds[i]

/-- Matched energy M of a book (R80). -/
def matchedTotal (ds : Vector (Option Derived) 96) : Nat := min (total (demands ds)) (total (supplies ds))

/-- The matched energy of a slot: as a buyer, as a seller, or none (R81). -/
def slotMatched (ds : Vector (Option Derived) 96) (i : Slot) : Nat :=
  if 0 < demandOf ds[i] then matchedOf (matchedTotal ds) (total (demands ds)) (demands ds) i
  else if 0 < supplyOf ds[i] then matchedOf (matchedTotal ds) (total (supplies ds)) (supplies ds) i
  else 0

/-- The results of every slot of a computation, in slot order (log 35). -/
def Computation.results (c : Computation) : List SlotResult :=
  let ds := c.derivations
  allSlots.map fun i => slotResult c.prices c.flags i ds[i] (slotMatched ds i)

/-- The book's fund change (R88). -/
def fundChange (rs : List SlotResult) : Int := (rs.map SlotResult.fundPart).sum

/-! ## The posting (section 4.5) -/

/-- A slot's live balance with its credit and debit (R89, R90). -/
def State.balanceAfter (s : State) (r : SlotResult) : Int := (s.household r.slot).balance + r.credit - r.debit

/-- Some held book other than that of a boundary has a non-EXCLUDED entry for the slot (R90). -/
def State.heldElsewhere (s : State) (boundary : Nat) (i : Slot) : Bool :=
  s.store.books.any fun b => b.boundary ≠ boundary && b.concerns i

/-- The posting of a book vacates a slot (R32, R90). -/
def State.postingVacates (s : State) (b : Book) (r : SlotResult) : Bool :=
  (s.household r.slot).member = .leaving && b.concerns r.slot && !s.heldElsewhere b.boundary r.slot &&
    s.balanceAfter r = 0

/-- A slot's flags by its derivation. -/
def SlotResult.flags (r : SlotResult) : List LineFlag :=
  match r.derived with
  | some d => d.flags
  | none => []

/-- A slot's derivation gives it a line (R79). -/
def SlotResult.hasLine (r : SlotResult) : Bool :=
  match r.derived with
  | some d => d.hasLine
  | none => false

/-- The meter status a line carries: a RECEIVED entry's, absent for any other (R79). -/
def Entry.status : Entry → Option MeterStatus
  | .received snap => some snap.status
  | _ => none

/-- The line of a slot (R91, R100); zeros where there is no derivation (log 34). VACATED stands after the derivation's flags
(DESIGN CHOICE, log 52). -/
def State.lineOf (s : State) (b : Book) (r : SlotResult) : SettledLine :=
  { slot := r.slot
    flags := r.flags ++ (if s.postingVacates b r then [.vacated] else [])
    imp := match r.derived with
      | some d => d.imp
      | none => 0
    exp := match r.derived with
      | some d => d.exp
      | none => 0
    demand := r.demand
    supply := r.supply
    matched := r.matched
    residual := r.residual
    debit := r.debit
    credit := r.credit
    levy := r.levy
    balanceAfter := s.balanceAfter r
    status := b.entries[r.slot].status }

/-- The results that have a line, in slot order (R79, R89). -/
def State.listed (s : State) (b : Book) (rs : List SlotResult) : List SlotResult :=
  rs.filter fun r => r.hasLine || s.postingVacates b r

/-- The header of a book's SETTLED record (R91, R99). -/
def State.headerOf (s : State) (b : Book) (ds : Vector (Option Derived) 96) (change : Int) : SettledHeader :=
  let d := total (demands ds)
  let sup := total (supplies ds)
  let m := min d sup
  { boundary := b.boundary
    span := b.span
    cause := b.cause.getD .forced
    instant := boundaryInstant (s.intervalLength.getD 0) b.boundary
    setIx := b.setIx
    prices := b.prices
    flags := b.flags
    demand := d
    supply := sup
    matched := m
    plant := d - m
    feed := sup - m
    fundChange := change
    fundAfter := s.fund + change }

/-- The member state after a line's flags, judged on the state held at the posting (R33). -/
def MemberState.afterFlags (m : MemberState) (flags : List LineFlag) : MemberState :=
  if .regression ∈ flags then
    match m with
    | .active => .fault
    | .suspended => .fault
    | _ => m
  else if .base ∈ flags then
    match m with
    | .enrolled => .active
    | _ => m
  else m

/-- The consecutive-miss count after a change (R34). -/
def missesAfter (n : Nat) : MissChange → Nat
  | .keep => n
  | .zero => 0
  | .rise => bump Config.shortCountCeiling n

/-- The miss count has risen to a multiple of 3 (R34). -/
def silent (n : Nat) (c : MissChange) : Bool :=
  c = .rise && n < Config.shortCountCeiling && (n + 1) % 3 = 0

/-- A household after the posting of its slot's result, with or without a line (R33, R34, R90, log 18). -/
def Household.settle (h : Household) (r : SlotResult) : Household :=
  match r.derived with
  | none => h
  | some d =>
    { h with
      balance := h.balance + r.credit - r.debit
      bases := match d.bases with
        | some b => if d.hasLine then some b else h.bases
        | none => h.bases
      misses := missesAfter h.misses d.misses
      member := h.member.afterFlags d.flags }

/-- The posting's changes for one slot: its record, HOUSEHOLD_FAULT for a REGRESSION line, METER_SILENT for a count risen to
a multiple of 3 (R33, R34). -/
def State.settleSlot (s : State) (r : SlotResult) : State :=
  let h := s.household r.slot
  let t := s.withHousehold r.slot (h.settle r)
  let t := if .regression ∈ r.flags then t.notify .householdFault else t
  match r.derived with
  | some d => if silent h.misses d.misses then t.notify .meterSilent else t
  | none => t

/-- A successful posting (R90, R91): the slots' results, the fund, the book's removal, the substitution table, the vacated
slots, the record, the SETTLED notice, and then the evaluations of the households with a line. -/
def State.post (s : State) (b : Book) (c : Computation) : State :=
  let rs := c.results
  let ls := s.listed b rs
  let change := fundChange rs
  let body := RecordBody.settled (s.headerOf b c.derivations change) (ls.map (s.lineOf b))
  let gone := (rs.filter (s.postingVacates b)).map SlotResult.slot
  let t := rs.foldl State.settleSlot s
  let t := t.withFund (t.fund + change)
  let t := t.withStore { t.store with books := t.store.books.filter fun k => k.boundary ≠ b.boundary }
  let t := t.removeSubsAtPosting b
  let t := gone.foldl State.vacate t
  let t := (t.record body).notify .settled
  let t := t.withSettlement { computation := none, deferral := .none }
  (ls.map SlotResult.slot).foldl State.evaluate t

/-- A failed posting attempt: the book is DUE again, the engine IDLE with the cause, and the cause's notice is set (R92). -/
def State.failPosting (s : State) (b : Book) (d : Deferral) (n : Notice) : State :=
  ((s.mapBook b.boundary fun k => { k with state := k.state.undo }).withSettlement
    { computation := none, deferral := d }).notify n

/-- The balance limit check of a posting (R89). -/
def State.withinLimits (s : State) (ls : List SlotResult) (change : Int) : Bool :=
  (ls.all fun r => withinLimit (s.balanceAfter r)) && withinLimit (s.fund + change)

/-- POSTING_ATTEMPT: the computation ends and its posting is attempted, journal room first, then the balance limit; with no
computation in flight nothing happens (R88, R89, R92). -/
def State.attemptPosting (s : State) : State :=
  match s.settlement.computation with
  | none => s
  | some c =>
    match s.bookOf c.boundary with
    | none => s.withSettlement { s.settlement with computation := none }
    | some b =>
      let ls := s.listed b c.results
      if !s.journal.hasRoom 1 ls.length then s.failPosting b .journalFull .journalFull
      else if !s.withinLimits ls (fundChange c.results) then s.failPosting b .balanceLimit .balanceLimit
      else s.post b c

end Sys2Proof.Machine
end

