-- ==== Sys2Proof/Machine/Arbiter.lean ====
section
/-! DEFINITION. The store arbiter (R185): who waits for the nonvolatile array, and the requester that a free array is granted
to. Each access is one command, taken whole at its grant (log 6). -/

namespace Sys2Proof.Machine

/-- The requesters of the nonvolatile array, in the order of their priorities (R185). -/
inductive Requester
  | engine
  | intake
  | hostLine
  | display
  deriving DecidableEq, Repr

/-- A request reaches the nonvolatile array: it writes it, or reads an item kept there (R182, R185). The rules name CHRREAD,
NOTICES, NOTACK and FDRFORCE as requests that do not. CLKALIGN, IDENT, RESREAD without CFG and FEEDER with QUEUE read and
change only items that the array does not hold (log 37). -/
def reachesArray (r : Req) (args : List Tok) : Bool :=
  match r with
  | .CLKALIGN => false
  | .IDENT => false
  | .NOTICES => false
  | .NOTACK => false
  | .FDRFORCE => false
  | .CHRREAD => false
  | .RESREAD => args ≠ []
  | .FEEDER => args.getLast? ≠ some (.kw .QUEUE)
  | _ => true

/-- The line in service waits for its grant: it has been taken, is not yet served, and reaches the array (R182, R185). -/
def InService.waits (l : InService) : Bool :=
  l.stage = .taken &&
    match l.line with
    | .request r args => reachesArray r args
    | _ => false

/-- A requester waits for the array (R68, R69, R89, R182, R185): a book to take, or the posting of a computation that has
ended; a delivery; the request in service; a page fetch. `ended` says that the computation in flight has ended, which the
command POSTING_ATTEMPT brings with its grant. -/
def State.waits (s : State) (ended : Bool) : Requester → Bool
  | .engine => s.startable.isSome || ended && s.settlement.computation.isSome
  | .intake => s.store.deliveries ≠ []
  | .hostLine => s.host.inService.any InService.waits
  | .display => s.display.fetch.isSome

/-- The requester that a free array is granted to: of those that wait, the one of highest priority (R185). DEDUCED (log 47): a
charter program in progress does not hold the array. The access of CHRPROG and CHRLOCK ends with the event of its grant, since
the charter store lies outside the array (R193), and a page latch may be granted it before the program's completion. -/
def State.arbiterNext (s : State) (ended : Bool) : Option Requester :=
  [Requester.engine, .intake, .hostLine, .display].find? (s.waits ended)

/-- An access of a requester, made when the array is granted to it and not before (R185). -/
def State.atGrant (s : State) (r : Requester) (ended : Bool) (access : State → State) : State :=
  if s.arbiterNext ended = some r then access s else s

/-- A requester waits for the array at the end of a start-up. The settlement engine, with a book that was DUE before, does not
wait until it has examined its start conditions, which is one of the events of R206 (R68). -/
def State.waitsNow (s : State) (examined : Bool) (r : Requester) : Bool := (examined || r ≠ .engine) && s.waits false r

/-- A request can be served now: it makes no request of the arbiter, or neither the settlement engine nor the snapshot intake
waits ahead of it (R185). -/
def State.mayServe (s : State) (r : Req) (args : List Tok) : Bool :=
  !reachesArray r args || !(s.waits false .engine || s.waits false .intake)

end Sys2Proof.Machine
end

