-- ==== Sys2Proof/Machine/Watch.lean ====
section
/-! DEFINITION. The reserve watch (chapter 7): accepting plant frames, the stale timer, samples and state changes, and what
each change gives its neighbours. -/

namespace Sys2Proof.Machine

/-- The three counters and the divisor position at 0 (R136, R146, R153). -/
def Reserve.clearCounters (r : Reserve) : Reserve := { r with scarcity := 0, surplus := 0, leaving := 0, position := 0 }

/-- A change of the live state by a sample: the three counters are 0 (R142, R143, R144), the state's flag joins the
accumulator (R149), RESERVE is set (R148), and a change into or out of SCARCE is reported to the limiter, which evaluates
every AUTO household (R147, R160). -/
def State.changeCondition (s : State) (old new : Condition) : State :=
  let w := WatchState.live new
  let t := (s.withReserve
    { s.reserve with
      state := w, scarcity := 0, surplus := 0, leaving := 0, flags := s.reserve.flags.join w.flags }).notify .reserve
  if old = .scarce ∨ new = .scarce then t.evaluateAuto else t

/-- A counter after a sample (R142, R143, R144). -/
def counted (n : Nat) (counts : Bool) : Nat := if counts then n + 1 else 0

/-- A sample judged in NORMAL (R142). -/
def State.sampleNormal (s : State) (v : PlantValues) : State :=
  let c := s.reserve.settings
  let scarcity := counted s.reserve.scarcity (v.charge < c.socLow)
  let surplus := counted s.reserve.surplus (c.fHigh ≤ v.frequency)
  if c.count ≤ scarcity then s.changeCondition .normal .scarce
  else if c.count ≤ surplus then s.changeCondition .normal .surplus
  else s.withReserve { s.reserve with scarcity := scarcity, surplus := surplus }

/-- A sample judged in SCARCE (R143) or SURPLUS (R144) on the leaving counter. -/
def State.sampleLeaving (s : State) (old : Condition) (counts : Bool) : State :=
  let leaving := counted s.reserve.leaving counts
  if s.reserve.settings.count ≤ leaving then s.changeCondition old .normal
  else s.withReserve { s.reserve with leaving := leaving }

/-- A sample judged according to the state (R141). -/
def State.sample (s : State) (c : Condition) (v : PlantValues) : State :=
  match c with
  | .normal => s.sampleNormal v
  | .scarce => s.sampleLeaving .scarce (s.reserve.settings.socLow + s.reserve.settings.socHyst ≤ v.charge)
  | .surplus => s.sampleLeaving .surplus (v.frequency < s.reserve.settings.fHigh - s.reserve.settings.fHyst)

/-- What every accepted frame changes (R139). -/
def Reserve.accept (r : Reserve) (fr : PlantFrame) : Reserve :=
  { r with
    accepted := bump Config.countCeiling r.accepted
    previous := some fr.seq
    last := some fr.values
    timer := some Config.staleSeconds }

/-- An accepted frame: it ends STALE (R146), or moves the divisor position and may be a sample (R141). -/
def State.acceptFrame (s : State) (fr : PlantFrame) : State :=
  let r := s.reserve.accept fr
  match r.state with
  | .stale held => (s.withReserve { r.clearCounters with state := .live held }).notify .reserve
  | .live c =>
    if r.position + 1 < r.settings.divisor then s.withReserve { r with position := r.position + 1 }
    else (s.withReserve { r with position := 0 }).sample c fr.values

/-- A plant frame's values are inside the bounds of acceptance (R139). -/
def Reserve.inRange (r : Reserve) (v : PlantValues) : Bool :=
  v.charge ≤ Config.maxCharge && r.settings.fMin ≤ v.frequency && v.frequency ≤ r.settings.fMax

/-- A complete plant frame judged (R137, R139). -/
def State.plantFrame (s : State) (bytes : List Byte) : State :=
  let r := s.reserve
  match plantFrameOf bytes with
  | none => s.withReserve { r with bad := bump Config.countCeiling r.bad }
  | some fr =>
    if r.previous = some fr.seq then s.withReserve { r with repeats := bump Config.countCeiling r.repeats }
    else if !r.inRange fr.values then s.withReserve { r with outOfRange := bump Config.countCeiling r.outOfRange }
    else s.acceptFrame fr

/-- A gap that ends a plant frame short, or the run of bytes after a wrong frame code, as one bad frame (R137). -/
def State.plantGap (s : State) : State :=
  s.withReserve { s.reserve with bad := bump Config.countCeiling s.reserve.bad }

/-- The stale timer runs out: STALE with the state it left held, the three counters 0, the divisor position kept, STALE_SEEN
added, RESERVE set; with the timer stopped nothing happens (R140, R145, R148, R149). -/
def State.goStale (s : State) : State :=
  match s.reserve.state with
  | .stale _ => s
  | .live c =>
    (s.withReserve
      { s.reserve with
        state := .stale c, scarcity := 0, surplus := 0, leaving := 0, timer := none
        flags := { s.reserve.flags with stale := true } }).notify .reserve

/-- The reserve watch after a reset: everything but its settings starts anew (R136). -/
def Reserve.restart (r : Reserve) : Reserve := { Reserve.fresh with settings := r.settings }

end Sys2Proof.Machine
end

