-- ==== Sys2Proof/Machine/Screen.lean ====
section
/-! DEFINITION. The kiosk display controller (chapter 9): the page list, latching, dwells, blanking, warnings, and the
segment lines it drives. -/

namespace Sys2Proof.Machine

/-! ## Content -/

/-- No character and no mark. -/
def blankGlyphs : Vector Glyph 8 := Vector.replicate 8 .blank
def noMarks : Marks := { minus := false, overflow := false, opened := false, stale := false }

/-- The last decimal digit of a number as a character. -/
def digit (n : Nat) : Glyph := .digit (Fin.ofNat 10 n)

/-- A digit, or blank where the condition of a leading zero holds. -/
def digitUnless (leading : Bool) (n : Nat) : Glyph := if leading then .blank else digit n

/-- A latched page: the page shown, none for NONE, with its characters and marks (R171). -/
structure Content where
  page : Option Page
  glyphs : Vector Glyph 8
  marks : Marks
  deriving DecidableEq, Repr

/-- The NONE page (R170, R174). -/
def Content.none : Content := { page := Option.none, glyphs := blankGlyphs, marks := noMarks }

/-- The balance's magnitude in hundredths of a credit, truncated toward zero (R172). -/
def hundredths (balance : Int) : Nat := balance.natAbs / 10000

/-- The characters of a household page (R172). -/
def householdGlyphs (i : Slot) (v : Nat) : Vector Glyph 8 :=
  let n := slotNumber i
  if v ≤ 99999 then
    #v[digit (n / 10), digit n, .blank, digitUnless (v < 10000) (v / 10000), digitUnless (v < 1000) (v / 1000),
      digit (v / 100), digit (v / 10), digit v]
  else #v[digit (n / 10), digit n, .blank, digit 9, digit 9, digit 9, digit 9, digit 9]

/-- A household page as it is latched (R172). -/
def State.householdPage (s : State) (i : Slot) : Content :=
  let h := s.household i
  let v := hundredths h.balance
  { page := some (.household i)
    glyphs := householdGlyphs i v
    marks := { minus := h.balance < 0, overflow := 99999 < v, opened := h.confirmed = some .opened, stale := false } }

/-- The letter of an effective reserve state (R173). -/
def Condition.glyph : Condition → Glyph
  | .normal => .n
  | .scarce => .L
  | .surplus => .H

/-- The reserve page as it is latched (R173). -/
def State.reservePage (s : State) : Content :=
  let letter := s.reserve.state.effective.glyph
  { page := some .reserve
    glyphs := match s.reserve.last with
      | some v =>
        #v[.blank, digitUnless (v.charge < 1000) (v.charge / 1000), digitUnless (v.charge < 100) (v.charge / 100),
          digitUnless (v.charge < 10) (v.charge / 10), digit v.charge, .blank, .blank, letter]
      | Option.none => #v[.blank, .dash, .dash, .dash, .dash, .blank, .blank, letter]
    marks := { noMarks with stale := s.reserve.state.isStale } }

/-- The clock page as it is latched (R173). -/
def State.clockPage (s : State) : Content :=
  let t := s.calendar.now
  { page := some .clock
    glyphs :=
      if s.calendar.valid then
        #v[.blank, .blank, .blank, .blank, digit (t.hour / 10), digit t.hour, digit (t.minute / 10), digit t.minute]
      else #v[.blank, .blank, .blank, .blank, .dash, .dash, .dash, .dash]
    marks := noMarks }

/-- A page's content at its latch; a held household page whose slot is VACANT is a NONE page (R171, R174). -/
def State.content (s : State) : Page → Content
  | .household i => if (s.household i).present then s.householdPage i else Content.none
  | .reserve => s.reservePage
  | .clock => s.clockPage

/-! ## The page list (R170) -/

/-- A household is on the page list (R170). -/
def State.onList (s : State) (i : Slot) : Bool :=
  match (s.household i).settings with
  | some c => (s.household i).present && c.shown
  | none => false

/-- The pages of the list after its household pages (R170). -/
def Display.tail (d : Display) : List Page :=
  (if d.reserveOn then [.reserve] else []) ++ (if d.clockOn then [.clock] else [])

/-- The page list as it stands (R170). -/
def State.pageList (s : State) : List Page := (allSlots.filter s.onList).map Page.household ++ s.display.tail

/-- The page that a choice takes from the list as it stands, or the held page; none when the list is empty (R170, R174). -/
def State.choose (s : State) : PageChoice → Option Page
  | .held => some s.display.heldPage
  | .first => s.pageList.head?
  | .after .clock => s.pageList.head?
  | .after .reserve => if s.display.clockOn then some .clock else s.pageList.head?
  | .after (.household i) =>
    match allSlots.find? fun j => i.val < j.val && s.onList j with
    | some j => some (.household j)
    | none =>
      match s.display.tail with
      | p :: _ => some p
      | [] => s.pageList.head?

/-! ## Page starts, latches and dwells -/

/-- A dark display: nothing latched, no page, no count, no fetch. -/
def Display.dark (d : Display) (a : Activity) : Display :=
  { d with
    activity := a, current := none, glyphs := blankGlyphs, marks := noMarks, framesLeft := 0, fetch := none }

/-- A page start in the mode held: its fetch waits for the array, and the glass goes on showing what it shows (R171, R185,
log 20, log 21); in mode OFF the activity is OFF (R174). -/
def Display.startPage (d : Display) (choice : PageChoice) : Display :=
  let lit := if d.activity = .showing then { d with framesLeft := 0 } else d.dark .showing
  match d.mode with
  | .off => d.dark .off
  | .hold => { lit with fetch := some .held }
  | .scroll => { lit with fetch := some choice }

/-- PAGE_LATCH: at its grant the fetch chooses the page and latches its whole content, and the frames-left count begins
(R171, R185). The page gets the dwell in effect at the grant, also when a DISPCFG changed it after the page start (DESIGN
CHOICE, log 48: R174 and R185 leave open which of the two dwells it is). -/
def State.latchPage (s : State) : State :=
  let d := s.display
  match d.fetch with
  | none => s
  | some choice =>
    let c := match s.choose choice with
      | some p => s.content p
      | none => Content.none
    s.withDisplay
      { d with
        activity := .showing
        current := c.page
        glyphs := c.glyphs
        marks := c.marks
        framesLeft := d.dwell * Config.framesPerDwell
        fetch := none }

/-- The choice that follows the page shown (R170, R174). -/
def Display.follow (d : Display) : PageChoice :=
  match d.current with
  | some p => .after p
  | none => .first

/-- The end of a dwell: the next page starts according to the mode (R174); nothing happens unless a page's dwell runs. -/
def Display.endDwell (d : Display) : Display :=
  if d.activity = .showing && d.fetch.isNone then d.startPage d.follow else d

/-- The end of a blank dwell: the new settings show (R177). -/
def Display.endBlank (d : Display) : Display := if d.activity = .blanking then d.startPage .first else d

/-- The end of a display frame: the count of a page or of a blank dwell falls by 1, and at 0 the dwell ends (R174, R177). -/
def Display.endFrame (d : Display) : Display :=
  if d.framesLeft = 0 || d.fetch.isSome then d
  else if 1 < d.framesLeft then { d with framesLeft := d.framesLeft - 1 }
  else if d.activity = .blanking then d.endBlank
  else d.endDwell

/-- A blank dwell begins, in frames of the rate and under the dwell held (R177). -/
def Display.startBlank (d : Display) : Display :=
  { d.dark .blanking with framesLeft := d.dwell * Config.framesPerDwell }

/-- The choice to resume with after a warning: after the page shown or last chosen, or the first page when the warning comes
during BLANKING or a NONE page (R178). While a page start waits for its grant, it is that start's own choice (log 42). -/
def Display.resumption (d : Display) : PageChoice :=
  if d.activity = .showing then
    match d.fetch with
    | some choice => choice
    | none => d.follow
  else .first

/-- The display when the supply monitor enters WARNING (R178). -/
def Display.warn (d : Display) : Display := { d.dark .warning with resume := d.resumption }

/-- The display when the monitor returns to GOOD (R178). -/
def Display.recover (d : Display) : Display := d.startPage d.resume

/-- The display settings' defaults (R167). -/
def Display.wipe (d : Display) : Display :=
  { d with mode := .scroll, rate := 64, dwell := 8, reserveOn := true, clockOn := true, heldPage := .clock }

/-! ## The lines the controller drives (R168, R169) -/

/-- The segments of a position (R168). -/
inductive Segment
  | a | b | c | d | e | f | g
  deriving DecidableEq, Repr

/-- The segments lit for a digit (R169). -/
def digitSegments (n : Fin 10) : List Segment :=
  match n with
  | 0 => [.a, .b, .c, .d, .e, .f]
  | 1 => [.b, .c]
  | 2 => [.a, .b, .d, .e, .g]
  | 3 => [.a, .b, .c, .d, .g]
  | 4 => [.b, .c, .f, .g]
  | 5 => [.a, .c, .d, .f, .g]
  | 6 => [.a, .c, .d, .e, .f, .g]
  | 7 => [.a, .b, .c]
  | 8 => [.a, .b, .c, .d, .e, .f, .g]
  | 9 => [.a, .b, .c, .d, .f, .g]

/-- The segments lit for a character (R169). -/
def Glyph.segments : Glyph → List Segment
  | .digit k => digitSegments k
  | .dash => [.g]
  | .n => [.c, .e, .g]
  | .L => [.d, .e, .f]
  | .H => [.b, .c, .e, .f, .g]
  | .blank => []

/-- What is driven in one phase of a frame (R168): the common line 1..4 and its level, the level of the lit segment lines,
the segments lit on KSEG1..KSEG7, and whether the mark line KSEG8 is lit. -/
structure PhaseDrive where
  common : Nat
  commonHigh : Bool
  litHigh : Bool
  segments : List Segment
  mark : Bool
  deriving DecidableEq, Repr

/-- The mark that KSEG8 lights in a phase; phases 5..8 light none (R168). -/
def Marks.inPhase (m : Marks) (phase : Fin 8) : Bool :=
  match phase with
  | 0 => m.minus
  | 1 => m.overflow
  | 2 => m.opened
  | 3 => m.stale
  | _ => false

/-- The lines in a phase 1..8 (here 0..7) of a frame: none driven unless a page is shown and the part runs (R167, R168,
R205). -/
def State.phaseDrive (s : State) (phase : Fin 8) : Option PhaseDrive :=
  if s.running && s.display.activity = .showing then
    some
      { common := phase.val / 2 + 1
        commonHigh := phase.val % 2 = 1
        litHigh := phase.val % 2 = 0
        segments := s.display.glyphs[phase].segments
        mark := s.display.marks.inPhase phase }
  else none

end Sys2Proof.Machine
end

