-- ==== Sys2Proof/Machine/CalendarRequests.lean ====
section
/-! DEFINITION. Serving the calendar's and the tariff schedule's requests (R7, R8, R10, R12, R14, R17), and the checks that
the requests of every block begin with. -/

namespace Sys2Proof.Machine

/-! ## Checks that many blocks share -/

/-- Every request that the state UNCOMMISSIONED does not serve answers NO STATE there (R200). -/
def State.ifCommissioned (s : State) (k : Served) : Served := if s.service = .uncommissioned then refuse .STATE else k

/-- A request that changes nonvolatile state answers NO HELD in WARNING, after the check of the service state (R7, R23, R56,
R203). -/
def State.ifWritable (s : State) (k : Served) : Served :=
  s.ifCommissioned (if s.supply.warning then refuse .HELD else k)

/-! ## Requests -/

/-- The date and time fields of a reply (R12). -/
def DateTime.fields (t : DateTime) : List Field := [.date t.year t.month t.day, .time t.hour t.minute t.second]

/-- The date-time that six numbers name, none outside its ranges (R8). -/
def dateTimeOf (y mo d h mi sec : Int) : Option DateTime :=
  match natIn 2000 2099 y, natIn 1 12 mo, natIn 1 31 d, natIn 0 23 h, natIn 0 59 mi, natIn 0 59 sec with
  | some y, some mo, some d, some h, some mi, some sec =>
    let t : DateTime := { year := y, month := mo, day := d, hour := h, minute := mi, second := sec }
    if validDateTime t then some t else none
  | _, _, _, _, _, _ => none

/-- The calendar set to a date-time, VALID and running (R8). -/
def State.setClock (s : State) (t : DateTime) : State := s.withCalendar { s.calendar with now := t, valid := true }

/-- An accepted CLKSET: a boundary event at once, the held state, or neither without an interval length (R8, R9). -/
def State.acceptClock (s : State) (t : DateTime) : Served :=
  let u := s.setClock t
  match s.intervalLength with
  | none => .done u (okLine (t.fields ++ [.kw .NOLEN]))
  | some len =>
    let c := boundaryAt len t
    if s.calendar.bLast < c then
      .done (u.boundaryEvent len c)
        (okLine (t.fields ++ [.kw .EVENT, .nat c, .nat (c - s.calendar.bLast)]))
    else
      .done ((u.withCalendar { u.calendar with held := true }).notify .clockHeld)
        (okLine (t.fields ++ [.kw .HOLD, .nat s.calendar.bLast]))

/-- CLKSET (R7, R8). -/
def serveClkset (args : List Tok) (s : State) : Served :=
  match args with
  | [.num y, .num mo, .num d, .num h, .num mi, .num sec] =>
    s.ifWritable <|
      if s.calendar.aligning then refuse .BUSY
      else
        match dateTimeOf y mo d h mi sec with
        | some t => s.acceptClock t
        | none => refuse .RANGE
  | _ => refuse .SYNTAX

/-- CLKALIGN (R7, R10). -/
def serveClkalign (args : List Tok) (s : State) : Served :=
  match args with
  | [] =>
    s.ifWritable <|
      if s.calendar.aligning then refuse .BUSY
      else if !s.calendar.valid then refuse .STATE
      else .done (s.withCalendar { s.calendar with aligning := true }) (okLine [.kw .ALIGN])
  | _ => refuse .SYNTAX

/-- CLKREAD (R12). -/
def serveClkread (args : List Tok) (s : State) : Served :=
  match args with
  | [] =>
    let c := s.calendar
    .done s
      (okLine (c.now.fields ++
        [.day c.now.weekday, .kw (if c.valid then .VALID else .INVALID), .nat (s.intervalLength.getD 0), .nat c.bLast,
          .kw (if c.held then .HOLD else .NOHOLD), .kw (if c.aligning then .ALIGN else .IDLE)]))
  | _ => refuse .SYNTAX

/-- The number of a band entry. -/
def bandOf (n : Int) : Option BandIx := (natIn 0 15 n).map (Fin.ofNat 16)

/-- The number of a price set. -/
def setOf (n : Int) : Option SetIx := (natIn 0 3 n).map (Fin.ofNat 4)

/-- The schedule with one band entry replaced. -/
def State.setBand (s : State) (e : BandIx) (b : Band) : State :=
  s.withTariff { s.tariff with bands := s.tariff.bands.set e b }

/-- BANDSET in its form with ON (R14). -/
def bandOn (e start ix : Int) (ds : List Weekday) (s : State) : Served :=
  match bandOf e, natIn 0 1439 start, setOf ix with
  | some e, some m, some p => .done (s.setBand e { used := true, weekdays := ds, start := m, setIx := p }) (okLine [])
  | _, _, _ => refuse .RANGE

/-- BANDSET in its form with OFF, keeping the other fields (R14). -/
def bandOff (e : Int) (s : State) : Served :=
  match bandOf e with
  | some e => .done (s.setBand e { s.tariff.bands[e] with used := false }) (okLine [])
  | none => refuse .RANGE

/-- BANDSET (R7, R14). -/
def serveBandset (args : List Tok) (s : State) : Served :=
  match args with
  | [.num e, .kw .ON, days, .num start, .num ix] =>
    match weekdaysOf days with
    | some ds => s.ifWritable (bandOn e start ix ds s)
    | none => refuse .SYNTAX
  | [.num e, .kw .OFF] => s.ifWritable (bandOff e s)
  | _ => refuse .SYNTAX

/-- The weekday set as BANDREAD lists it, in the order MON to SUN, the empty set as the word BANDSET takes for it (R14), the
full set day by day (log 33). -/
def weekdayField (ds : List Weekday) : Field := if ds = [] then .kw .NONE else .days ds

/-- A band entry in the form BANDSET takes (R14): its number, ON and its three fields, or its number and OFF. -/
def State.bandLine (s : State) (e : BandIx) : ReplyLine :=
  let b := s.tariff.bands[e]
  if b.used then [.nat e.val, .kw .ON, weekdayField b.weekdays, .nat b.start, .nat b.setIx.val]
  else [.nat e.val, .kw .OFF]

/-- BANDREAD (R7, R14). -/
def serveBandread (args : List Tok) (s : State) : Served :=
  match args with
  | [.num e] =>
    match bandOf e with
    | some e => .done s (okLine (s.bandLine e))
    | none => refuse .RANGE
  | [.kw .ALL] => .done s (okLines [] ((List.finRange 16).map s.bandLine))
  | _ => refuse .SYNTAX

/-- The ordering that every price set held satisfies (R15). -/
def PriceSet.ordered (p : PriceSet) : Bool :=
  p.feedSurplus ≤ p.feed && p.feed ≤ p.community && p.community ≤ p.plant && p.plant ≤ p.plantScarcity

/-- A price set's bounds under a levy ceiling (R15, R17). -/
def PriceSet.acceptable (p : PriceSet) (ceiling : Nat) : Bool := p.ordered && p.levy ≤ ceiling

/-- The price set that six numbers name, none outside the ranges of R15. -/
def priceSetOf (pc pf pfs pp pps levy : Int) : Option PriceSet :=
  match natIn 0 Config.maxPrice pc, natIn 0 Config.maxPrice pf, natIn 0 Config.maxPrice pfs, natIn 0 Config.maxPrice pp,
      natIn 0 Config.maxPrice pps, natIn 0 Config.maxLevy levy with
  | some pc, some pf, some pfs, some pp, some pps, some levy =>
    some { community := pc, feed := pf, feedSurplus := pfs, plant := pp, plantScarcity := pps, levy := levy }
  | _, _, _, _, _, _ => none

/-- PRICESET (R7, R17). -/
def servePriceset (args : List Tok) (s : State) : Served :=
  match args with
  | [.num ix, .num pc, .num pf, .num pfs, .num pp, .num pps, .num levy] =>
    s.ifWritable <|
      match setOf ix, priceSetOf pc pf pfs pp pps levy with
      | some i, some p =>
        if p.acceptable s.levyCeiling then
          .done (s.withTariff { s.tariff with sets := s.tariff.sets.set i p }) (okLine [])
        else refuse .RANGE
      | _, _ => refuse .RANGE
  | _ => refuse .SYNTAX

/-- A price set in the order PRICESET takes, without the index (R17). -/
def PriceSet.fields (p : PriceSet) : List Field :=
  [.nat p.community, .nat p.feed, .nat p.feedSurplus, .nat p.plant, .nat p.plantScarcity, .nat p.levy]

/-- A price set's line, index first (R17). -/
def State.priceLine (s : State) (i : SetIx) : ReplyLine := .nat i.val :: (s.tariff.sets[i]).fields

/-- PRICEREAD (R7, R17). -/
def servePriceread (args : List Tok) (s : State) : Served :=
  match args with
  | [.num ix] =>
    match setOf ix with
    | some i => .done s (okLine (s.priceLine i))
    | none => refuse .RANGE
  | [.kw .ALL] => .done s (okLines [] ((List.finRange 4).map s.priceLine))
  | _ => refuse .SYNTAX

end Sys2Proof.Machine
end

