-- ==== Sys2Proof/Machine/HouseholdRequests.lean ====
section
/-! DEFINITION. Serving the requests of the household table (R24 to R32, R38 to R40), with the checks of R23 in their order. -/

namespace Sys2Proof.Machine

/-! ## Reading households -/

/-- A household's line, an absent field shown as a dash; a VACANT slot shows its state alone (R27). -/
def State.householdLine (s : State) (i : Slot) : ReplyLine :=
  let h := s.household i
  let base : Option Bases → List Field := fun b =>
    match b with
    | some b => [.nat b.imp.toNat, .nat b.exp.toNat]
    | none => [.dash, .dash]
  let tail : List Field := [.num h.balance, .nat h.misses, .kw h.wanted.kw, .kw (confirmedKw h.confirmed)]
  if h.member = .vacant then [.nat (slotNumber i), .kw .VACANT]
  else
    [.nat (slotNumber i), .kw h.member.kw] ++
      (match h.settings with
        | some c =>
          [.kw (feederKw c.feeder), .nat c.addr, .nat c.cap, .num c.floor, .kw c.policy.kw,
            .kw (if c.shown then .YES else .NO)]
        | none => [.dash, .dash, .dash, .dash, .dash, .dash]) ++
      base h.bases ++ tail

/-- The non-VACANT slots, in slot order. -/
def State.members (s : State) : List Slot := allSlots.filter fun i => (s.household i).present

/-- HHREAD (R23, R27). -/
def serveHhread (args : List Tok) (s : State) : Served :=
  match args with
  | [.num n] =>
    s.ifCommissioned <|
      match slotOf n with
      | some i => .done s (okLine (s.householdLine i))
      | none => refuse .RANGE
  | [.kw .ALL] => s.ifCommissioned (.done s (okLines [] (s.members.map s.householdLine)))
  | _ => refuse .SYNTAX

/-! ## Checks that these requests share -/

/-- A request on one slot after its syntax: the service state, the supply monitor, then the slot's number (R23, orders 2 to
4). -/
def State.onSlot (s : State) (n : Int) (k : Slot → Served) : Served :=
  s.ifWritable <|
    match slotOf n with
    | some i => k i
    | none => refuse .RANGE

/-- A MEMBER record written and a one-record reply: the state's name and the record's number; ROOM when the journal has no
room for it (R23, R24, R28 to R31, R101). -/
def State.memberRecord (s : State) (i : Slot) (a : MemberAction) (m : MemberState) (change : State → State) : Served :=
  if s.journal.hasRoom 1 1 then
    .done ((change s).record (.member i a m)) (okLine [.kw m.kw, .nat s.journal.nextNumber])
  else refuse .ROOM

/-! ## Enrolment (R24) -/

/-- The record of a household just enrolled (R24). -/
def enrolled (c : Settings) : Household :=
  { member := .enrolled, settings := some c, bases := none, balance := 0, misses := 0, wanted := .closed,
    confirmed := none }

/-- A meter address that a binding may take: 1..247 and not held by another household on the feeder (R24, R26). -/
def State.addressFree (s : State) (i : Slot) (f : Feeder) (addr : Int) : Option Nat :=
  match natIn 1 247 addr with
  | some a => if s.addressTaken f a i then none else some a
  | none => none

/-- A credit floor in range (R24, R25). -/
def State.floorOk (s : State) (floor : Int) : Bool := s.lowestFloor ≤ floor && floor ≤ 0

/-- The settings that HHENROL gives, none when a value is out of range (R23, order 8). -/
def State.enrolment (s : State) (i : Slot) (f : Feeder) (addr cap floor : Int) (p : Policy) (shown : Bool) :
    Option Settings :=
  match s.addressFree i f addr, natIn 1 s.capCeiling cap with
  | some a, some c =>
    if s.floorOk floor then some { feeder := f, addr := a, cap := c, floor := floor, policy := p, shown := shown }
    else none
  | _, _ => none

/-- HHENROL (R23, R24). -/
def serveHhenrol (args : List Tok) (s : State) : Served :=
  match args with
  | [.num n, f, .num addr, .num cap, .num floor, p, shown] =>
    match feederOf f, policyOf p, yesNoOf shown with
    | some f, some p, some shown =>
      s.onSlot n fun i =>
        if (s.household i).present then refuse .STATE
        else if s.householdLimit ≤ s.memberCount then refuse .ROOM
        else
          match s.enrolment i f addr cap floor p shown with
          | some c => s.memberRecord i .enrol .enrolled fun t => t.withHousehold i (enrolled c)
          | none => refuse .RANGE
    | _, _, _ => refuse .SYNTAX
  | _ => refuse .SYNTAX

/-! ## Editing (R25, R26) -/

/-- The value of one pair of HHEDIT (R25). -/
inductive EditValue
  | num (n : Int)
  | policy (p : Policy)
  | shown (b : Bool)
  | feeder (f : Feeder)
  deriving DecidableEq, Repr

/-- One pair of HHEDIT (R25, R26). -/
def readEdit (k : Kw) (v : Tok) : Option EditValue :=
  match k with
  | .CAP => (numberOf v).map EditValue.num
  | .FLOOR => (numberOf v).map EditValue.num
  | .POLICY => (policyOf v).map EditValue.policy
  | .SHOW => (yesNoOf v).map EditValue.shown
  | .FEEDER => (feederOf v).map EditValue.feeder
  | .ADDR => (numberOf v).map EditValue.num
  | _ => none

/-- One pair written into the settings, none when its number is out of its range (R25, R26). -/
def State.editOne (s : State) (c : Settings) : Kw × EditValue → Option Settings
  | (.CAP, .num n) => (natIn 1 s.capCeiling n).map fun cap => { c with cap := cap }
  | (.FLOOR, .num n) => if s.floorOk n then some { c with floor := n } else none
  | (.ADDR, .num n) => (natIn 1 247 n).map fun a => { c with addr := a }
  | (_, .num _) => none
  | (_, .policy p) => some { c with policy := p }
  | (_, .shown b) => some { c with shown := b }
  | (_, .feeder f) => some { c with feeder := f }

/-- Every pair written, none when a value is out of range (R25). -/
def State.editAll (s : State) (c : Settings) (ps : List (Kw × EditValue)) : Option Settings := ps.foldlM s.editOne c

/-- A binding pair is given (R26). -/
def bindingPair (ps : List (Kw × EditValue)) : Bool := (given ps .FEEDER).isSome || (given ps .ADDR).isSome

/-- The household's meter binding changes (R26). -/
def Settings.moved (old new : Settings) : Bool := old.feeder ≠ new.feeder || old.addr ≠ new.addr

/-- HHEDIT is engaged: a CAP pair while the SETTLING book has an entry, a binding pair while an exchange to the household's
meter is in flight (R25, R26). -/
def State.editBusy (s : State) (i : Slot) (c : Settings) (ps : List (Kw × EditValue)) : Bool :=
  ((given ps .CAP).isSome && s.settlingFor i) || (bindingPair ps && s.exchangeTo c.feeder c.addr)

/-- The settings written, with what a changed binding brings: confirmed UNKNOWN, the entry of the old feeder's queue
removed (R26). All of it comes before what a policy pair of the same request brings (`State.afterEdit`, log 46). -/
def State.writeSettings (s : State) (i : Slot) (old new : Settings) : State :=
  let h := s.household i
  if old.moved new then
    (s.withHousehold i { h with settings := some new, confirmed := none }).unqueue old.feeder i
  else s.withHousehold i { h with settings := some new }

/-- What the limiter does after the pairs of an HHEDIT are written (R25, R160, R161). DESIGN CHOICE (log 46): a request that
changes the binding and writes HOLD_CLOSED while wanted is OPEN has written its binding and removed the old feeder's entry by
now (R26), so the CLOSE of R161 is offered to the queue of the new feeder. -/
def State.afterEdit (s : State) (i : Slot) (ps : List (Kw × EditValue)) : State :=
  let t := if given ps .POLICY = some (.policy .holdClosed) then s.holdClosed i else s
  if (given ps .FLOOR).isSome || (given ps .POLICY).isSome then t.evaluate i else t

/-- HHEDIT (R23, R25, R26). -/
def serveHhedit (args : List Tok) (s : State) : Served :=
  match args with
  | .num n :: rest =>
    match pairs readEdit rest with
    | none => refuse .SYNTAX
    | some ps =>
      s.onSlot n fun i =>
        match (s.household i).settings with
        | none => refuse .STATE
        | some c =>
          if s.editBusy i c ps then refuse .BUSY
          else
            match s.editAll c ps with
            | none => refuse .RANGE
            | some d =>
              if bindingPair ps && s.addressTaken d.feeder d.addr i then refuse .RANGE
              else .done ((s.writeSettings i c d).afterEdit i ps) (okLine [])
  | _ => refuse .SYNTAX

/-! ## Suspension, fault, rebasing, withdrawal (R28 to R31) -/

/-- A request whose only word is a slot. -/
def State.onlySlot (s : State) (args : List Tok) (k : Slot → Served) : Served :=
  match args with
  | [.num n] => s.onSlot n k
  | _ => refuse .SYNTAX

/-- A record moved to a member state with its other fields kept. -/
def State.setMember (s : State) (i : Slot) (m : MemberState) : State :=
  s.withHousehold i { s.household i with member := m }

/-- HHSUSPEND (R28). -/
def serveHhsuspend (args : List Tok) (s : State) : Served :=
  s.onlySlot args fun i =>
    if (s.household i).member = .enrolled ∨ (s.household i).member = .active then
      s.memberRecord i .suspend .suspended fun t => t.setMember i .suspended
    else refuse .STATE

/-- A record ENROLLED again without baselines, its miss count 0 (R29, R30). -/
def State.enrolAgain (s : State) (i : Slot) : State :=
  s.withHousehold i { s.household i with member := .enrolled, bases := none, misses := 0 }

/-- HHRESUME (R29). -/
def serveHhresume (args : List Tok) (s : State) : Served :=
  s.onlySlot args fun i =>
    if (s.household i).member ≠ .suspended then refuse .STATE
    else if s.settlingFor i then refuse .BUSY
    else s.memberRecord i .resume .enrolled fun t => t.enrolAgain i

/-- HHREBASE (R30). -/
def serveHhrebase (args : List Tok) (s : State) : Served :=
  s.onlySlot args fun i =>
    if (s.household i).member ≠ .fault then refuse .STATE
    else if s.settlingFor i then refuse .BUSY
    else s.memberRecord i .rebase .enrolled fun t => t.enrolAgain i

/-- The slot can be vacated once its balance is 0: no held book has a non-EXCLUDED entry for it (R31, R32). -/
def State.clearOfBooks (s : State) (i : Slot) : Bool := !s.heldFor i

/-- HHWITHDRAW (R31). -/
def serveHhwithdraw (args : List Tok) (s : State) : Served :=
  s.onlySlot args fun i =>
    let h := s.household i
    if h.member = .vacant ∨ h.member = .leaving then refuse .STATE
    else if s.clearOfBooks i && h.balance = 0 then s.memberRecord i .withdraw .vacant fun t => t.vacate i
    else s.memberRecord i .withdraw .leaving fun t => t.setMember i .leaving

/-! ## Accounts (R38 to R40) -/

/-- An amount added to a household's balance and to the injection total (R36, R38). -/
def State.credit (s : State) (i : Slot) (amount : Int) : State :=
  (s.withHousehold i { s.household i with balance := (s.household i).balance + amount }).withInjection
    (s.injection + amount)

/-- The account change would vacate the slot: LEAVING, at balance 0, no held book with an entry (R32). -/
def State.accountVacates (s : State) (i : Slot) (after : Int) : Bool :=
  (s.household i).member = .leaving && s.clearOfBooks i && after = 0

/-- An accepted TOPUP or ADJUST: the amount, the ACCOUNT record, then the vacating with its MEMBER record or the evaluation,
and the retry (R32, R38, R39, R107). -/
def State.account (s : State) (i : Slot) (cause : AccountCause) (amount : Int) : Served :=
  let after := (s.household i).balance + amount
  let t := (s.credit i amount).record (.account i cause amount after)
  if s.accountVacates i after then
    if s.journal.hasRoom 2 2 then
      .done ((t.vacate i).record (.member i .withdraw .vacant)).retry
        (okLine [.num after, .nat s.journal.nextNumber, .kw .VACANT])
    else refuse .ROOM
  else if s.journal.hasRoom 1 1 then .done (t.evaluate i).retry (okLine [.num after, .nat s.journal.nextNumber])
  else refuse .ROOM

/-- A slot and an amount: the checks of TOPUP and ADJUST in their order, the amount judged by one of the two (R23, R38,
R39). -/
def State.accountRequest (s : State) (args : List Tok) (cause : AccountCause) (amountOk : Int → Bool) : Served :=
  match args with
  | [.num n, .num amount] =>
    s.onSlot n fun i =>
      if !(s.household i).present then refuse .STATE
      else if !amountOk amount || !withinLimit ((s.household i).balance + amount) then refuse .RANGE
      else s.account i cause amount
  | _ => refuse .SYNTAX

/-- An amount of TOPUP in range (R38). -/
def topupAmount (n : Int) : Bool := 1 ≤ n && n ≤ Config.amountLimit

/-- An amount of ADJUST or FUND in range (R39, R40). -/
def signedAmount (n : Int) : Bool := n ≠ 0 && n.natAbs ≤ Config.amountLimit.toNat

/-- TOPUP (R38). -/
def serveTopup (args : List Tok) (s : State) : Served := s.accountRequest args .topup topupAmount

/-- ADJUST (R39). -/
def serveAdjust (args : List Tok) (s : State) : Served := s.accountRequest args .adjust signedAmount

/-- An accepted FUND (R40). -/
def State.addFund (s : State) (amount : Int) : State :=
  (((s.withFund (s.fund + amount)).withInjection (s.injection + amount)).record (.fund amount (s.fund + amount))).retry

/-- FUND (R23, R40). -/
def serveFund (args : List Tok) (s : State) : Served :=
  match args with
  | [.num amount] =>
    s.ifWritable <|
      if !signedAmount amount || !withinLimit (s.fund + amount) then refuse .RANGE
      else if s.journal.hasRoom 1 1 then
        .done (s.addFund amount) (okLine [.num (s.fund + amount), .nat s.journal.nextNumber])
      else refuse .ROOM
  | _ => refuse .SYNTAX

/-- FUNDREAD (R23, R40). -/
def serveFundread (args : List Tok) (s : State) : Served :=
  match args with
  | [] => s.ifCommissioned (.done s (okLine [.num s.fund, .num s.injection, .num s.balanceSum]))
  | _ => refuse .SYNTAX

end Sys2Proof.Machine
end

