-- ==== Sys2Proof/Machine/BookRequests.lean ====
section
/-! DEFINITION. Serving the book store's requests (R52, R58 to R60, R65, R66), with the checks of R56 in their order. -/

namespace Sys2Proof.Machine

/-! ## Reading books -/

/-- A book's state by name (R43). -/
def BookState.kw : BookState → Kw
  | .opened => .OPEN
  | .due _ => .DUE
  | .settling _ => .SETTLING

/-- An entry's state by name (R44). -/
def Entry.kw : Entry → Kw
  | .excluded => .EXCLUDED
  | .pending => .PENDING
  | .received _ => .RECEIVED
  | .notHeld => .NOT_HELD
  | .missing => .MISSING
  | .substituted _ _ => .SUBSTITUTED

/-- A book's close cause as a field (R65, R66). -/
def Book.causeField (b : Book) : Field :=
  match b.cause with
  | some c => .kw c.kw
  | none => .dash

/-- A book's marked field as a word (R65, R66). -/
def Book.markedField (b : Book) : Field := .kw (if b.marked then .MARKED else .UNMARKED)

/-- The number of a book's entries in the state of a name (R65). -/
def Book.countOf (b : Book) (k : Kw) : Nat := b.countEntries fun e => e.kw = k

/-- The number of a book's PENDING entries that are covered (R65). -/
def State.coveredPending (s : State) (b : Book) : Nat :=
  allSlots.countP fun i => b.pendingAt i && s.covers b.boundary i

/-- A book's line in BOOKS (R65). -/
def State.bookLine (s : State) (b : Book) : ReplyLine :=
  [.nat b.boundary, .nat b.span, .kw b.state.kw, b.causeField, .nat b.setIx.val, b.markedField] ++
    ([Kw.PENDING, .RECEIVED, .NOT_HELD, .MISSING, .SUBSTITUTED, .EXCLUDED].map fun k => Field.nat (b.countOf k)) ++
    [.nat (s.coveredPending b)]

/-- BOOKS (R56, R65). -/
def serveBooks (args : List Tok) (s : State) : Served :=
  match args with
  | [] =>
    s.ifCommissioned
      (.done s
        (okLines [.nat s.store.books.length, .nat s.store.carried, .nat s.store.late] (s.store.books.map s.bookLine)))
  | _ => refuse .SYNTAX

/-- The fields of an entry that a line shows (R66). -/
def Entry.fields : Entry → List Field
  | .received snap =>
    [.nat snap.imp.toNat, .nat snap.exp.toNat, .kw snap.status.kw, .kw snap.relay.kw]
  | .substituted i e => [.nat i, .nat e, .dash, .dash]
  | .excluded => [.dash, .dash, .dash, .dash]
  | .pending => [.dash, .dash, .dash, .dash]
  | .notHeld => [.dash, .dash, .dash, .dash]
  | .missing => [.dash, .dash, .dash, .dash]

/-- An entry that BOOKREAD shows as COVERED: one of an OPEN book (R44), or one still PENDING in a book that closed with it
covered (R50, R65, log 36). -/
def State.coveredEntry (s : State) (b : Book) (i : Slot) : Bool :=
  (b.isOpen || b.pendingAt i) && s.covers b.boundary i

/-- An entry's line (R66). -/
def State.entryLine (s : State) (b : Book) (i : Slot) : ReplyLine :=
  [.nat (slotNumber i), .kw b.entries[i].kw] ++ b.entries[i].fields ++
    [if s.coveredEntry b i then .kw .COVERED else .dash]

/-- A book's own fields in BOOKREAD (R66). -/
def Book.fields (b : Book) : List Field :=
  [.nat b.boundary, .nat b.span, .kw b.state.kw, b.causeField, .nat b.setIx.val] ++ b.prices.fields ++
    [namesOr (.kw .NONE) b.flags.names, b.markedField]

/-- The slots with a non-EXCLUDED entry in a book, in slot order (R66). -/
def Book.concerned (b : Book) : List Slot := allSlots.filter b.concerns

/-- The held book that a number names (R42). -/
def State.bookNamed (s : State) (n : Int) : Option Book := if n < 0 then none else s.bookOf n.toNat

/-- BOOKREAD (R56, R66); of its two refusals RANGE is judged first (log 19). -/
def serveBookread (args : List Tok) (s : State) : Served :=
  match args with
  | [.num n] =>
    s.ifCommissioned <|
      match s.bookNamed n with
      | some b => .done s (okLines b.fields (b.concerned.map (s.entryLine b)))
      | none => refuse .ABSENT
  | [.num n, .num h] =>
    s.ifCommissioned <|
      match slotOf h with
      | none => refuse .RANGE
      | some i =>
        match s.bookNamed n with
        | some b => .done s (okLine (s.entryLine b i))
        | none => refuse .ABSENT
  | _ => refuse .SYNTAX

/-! ## CLOSENOW (R52) -/

/-- CLOSENOW (R52, R56). -/
def serveClosenow (args : List Tok) (s : State) : Served :=
  match args with
  | [] =>
    s.ifWritable <|
      match s.store.books.find? Book.isOpen with
      | some b =>
        .done (s.mapBook b.boundary fun k => k.closeMissing .forced)
          (okLine [.nat b.boundary, .nat (b.countOf .PENDING)])
      | none => refuse .STATE
  | _ => refuse .SYNTAX

/-! ## Substitutions (R56, R58 to R60) -/

/-- A boundary that a substitution may not name any more: of a held DUE or SETTLING book, below the oldest held book's, or
given and without a held book (R56, order 6). -/
def State.tooLate (s : State) (boundary : Nat) : Bool :=
  match s.bookOf boundary with
  | some b => !b.isOpen
  | none =>
    boundary ≤ s.calendar.bLast ||
      match s.store.books with
      | b :: _ => boundary < b.boundary
      | [] => false

/-- A slot and a boundary of a substitution request after the checks of the service state, the supply monitor and the ranges
(R56, orders 2 to 4). -/
def State.onSubstitution (s : State) (n boundary : Int) (k : Slot → Nat → Served) : Served :=
  s.ifWritable <|
    match slotOf n, natIn 1 (s.calendar.bLast + Config.substitutionReach) boundary with
    | some i, some b => k i b
    | _, _ => refuse .RANGE

/-- The substitution table with the entry of a slot and boundary changed. -/
def State.mapSub (s : State) (i : Slot) (boundary : Nat) (f : Sub → Sub) : State :=
  s.withStore
    { s.store with subs := s.store.subs.map fun e => if e.slot = i ∧ e.boundary = boundary then f e else e }

/-- An accepted SUBSET: replaced or added, then the test for COMPLETE (R50, R58). -/
def State.writeSub (s : State) (i : Slot) (boundary imp exp : Nat) : Served :=
  match s.subAt i boundary with
  | some _ =>
    .done ((s.mapSub i boundary fun e => { e with imp := imp, exp := exp, enabled := true }).testComplete boundary)
      (okLine [.kw .REPLACED, .nat s.store.subs.length])
  | none =>
    if Config.maxSubs ≤ s.store.subs.length then refuse .ROOM
    else
      .done
        ((s.withStore
            { s.store with
              subs := s.store.subs ++
                [{ slot := i, boundary := boundary, imp := imp, exp := exp, enabled := true }] }).testComplete boundary)
        (okLine [.kw .NEW, .nat (s.store.subs.length + 1)])

/-- SUBSET (R56, R58). A substitute below 0 answers NO RANGE at order 8, where one above the cap does (log 40). -/
def serveSubset (args : List Tok) (s : State) : Served :=
  match args with
  | [.num n, .num boundary, .num imp, .num exp] =>
    s.onSubstitution n boundary fun i b =>
      match (s.household i).settings with
      | none => refuse .STATE
      | some c =>
        if s.tooLate b then refuse .LATE
        else
          match natIn 0 c.cap imp, natIn 0 c.cap exp with
          | some imp, some exp => s.writeSub i b imp exp
          | _, _ => refuse .RANGE
  | _ => refuse .SYNTAX

/-- A request on a held substitution entry (R56, orders 6 and 7). -/
def State.onSub (s : State) (args : List Tok) (k : Slot → Nat → Served) : Served :=
  match args with
  | [.num n, .num boundary] =>
    s.onSubstitution n boundary fun i b =>
      if s.tooLate b then refuse .LATE
      else
        match s.subAt i b with
        | some _ => k i b
        | none => refuse .ABSENT
  | _ => refuse .SYNTAX

/-- SUBOFF (R56, R59). -/
def serveSuboff (args : List Tok) (s : State) : Served :=
  s.onSub args fun i b => .done (s.mapSub i b fun e => { e with enabled := false }) (okLine [])

/-- The substitution table without the entry of a slot and boundary (R60). -/
def State.clearSub (s : State) (i : Slot) (boundary : Nat) : State :=
  s.withStore { s.store with subs := s.store.subs.filter fun e => !(e.slot = i && e.boundary = boundary) }

/-- SUBCLR (R56, R60). -/
def serveSubclr (args : List Tok) (s : State) : Served :=
  s.onSub args fun i b => .done (s.clearSub i b) (okLine [.nat (s.clearSub i b).store.subs.length])

/-- The order of SUBREAD: boundary ascending, then slot ascending (R59). -/
def Sub.before (a b : Sub) : Bool := a.boundary < b.boundary || (a.boundary = b.boundary && a.slot.val ≤ b.slot.val)

/-- An entry inserted at its place in a sorted list. -/
def insertSub (e : Sub) : List Sub → List Sub
  | [] => [e]
  | k :: rest => if e.before k then e :: k :: rest else k :: insertSub e rest

/-- The entries sorted for SUBREAD (R59). -/
def sortedSubs (l : List Sub) : List Sub := l.foldr insertSub []

/-- An entry's line in SUBREAD (R59). -/
def Sub.line (e : Sub) : ReplyLine :=
  [.nat (slotNumber e.slot), .nat e.boundary, .nat e.imp, .nat e.exp, onOff e.enabled]

/-- SUBREAD (R56, R59). -/
def serveSubread (args : List Tok) (s : State) : Served :=
  match args with
  | [] => s.ifCommissioned (.done s (okLines [] ((sortedSubs s.store.subs).map Sub.line)))
  | _ => refuse .SYNTAX

end Sys2Proof.Machine
end

