-- ==== Sys2Proof/Machine/JournalRequests.lean ====
section
/-! DEFINITION. Serving the journal's requests (R103 to R105), with the checks of R102 in their order. -/

namespace Sys2Proof.Machine

/-! ## JREAD (R103) -/

/-- The header fields of a SETTLED record after its number and kind, the line count last (R99, R103). -/
def SettledHeader.fields (h : SettledHeader) (count : Nat) : List Field :=
  [.nat h.boundary, .nat h.span, .kw h.cause.kw] ++ h.instant.fields ++ [.nat h.setIx.val] ++ h.prices.fields ++
    [namesOr .dash h.flags.names, .nat h.demand, .nat h.supply, .nat h.matched, .nat h.plant, .nat h.feed,
      .num h.fundChange, .num h.fundAfter, .nat count]

/-- A SETTLED record's line (R100, R103). -/
def SettledLine.fields (l : SettledLine) : ReplyLine :=
  [.nat (slotNumber l.slot), namesOr .dash (l.flags.map LineFlag.kw), .nat l.imp, .nat l.exp, .nat l.demand,
    .nat l.supply, .nat l.matched, .nat l.residual, .num l.debit, .num l.credit, .num l.levy, .num l.balanceAfter,
    match l.status with
      | some m => .kw m.kw
      | none => .dash]

/-- A record's kind by name (R96). -/
def RecordBody.kw : RecordBody → Kw
  | .settled _ _ => .SETTLED
  | .account _ _ _ _ => .ACCOUNT
  | .fund _ _ => .FUND
  | .member _ _ _ => .MEMBER

/-- A record's header fields after its kind (R103). -/
def RecordBody.headerFields : RecordBody → List Field
  | .settled h lines => h.fields lines.length
  | .account _ _ _ _ => [.nat 1]
  | .fund _ _ => [.nat 1]
  | .member _ _ _ => [.nat 1]

/-- A record's lines (R100, R101). -/
def RecordBody.lines : RecordBody → List ReplyLine
  | .settled _ lines => lines.map SettledLine.fields
  | .account i c amount after => [[.nat (slotNumber i), .kw c.kw, .num amount, .num after]]
  | .fund amount after => [[.num amount, .num after]]
  | .member i a m => [[.nat (slotNumber i), .kw a.kw, .kw m.kw]]

/-- A record as JREAD returns it (R103). -/
def JournalRecord.reply (r : JournalRecord) : Reply :=
  okLines ([.nat r.seq, .kw r.body.kw] ++ r.body.headerFields) r.body.lines

/-- The record of a sequence number. -/
def Journal.find (j : Journal) (seq : Nat) : Option JournalRecord := j.records.find? fun r => r.seq = seq

/-- A record found, or ABSENT (R102, R103). -/
def State.readRecord (s : State) (r : Option JournalRecord) : Served :=
  match r with
  | some r => .done s r.reply
  | none => refuse .ABSENT

/-- JREAD (R102, R103). -/
def serveJread (args : List Tok) (s : State) : Served :=
  match args with
  | [.num n] =>
    s.ifCommissioned <|
      match natIn 0 Config.maxSequence n with
      | some q => s.readRecord (s.journal.find q)
      | none => refuse .RANGE
  | [.kw .OLDEST] => s.ifCommissioned (s.readRecord s.journal.records.head?)
  | _ => refuse .SYNTAX

/-! ## JRELEASE and JSTAT (R104, R105) -/

/-- The newest held sequence number (R105). -/
def Journal.newest (j : Journal) : Option Nat := j.records.getLast?.map JournalRecord.seq

/-- The oldest held sequence number (R105). -/
def Journal.oldest (j : Journal) : Option Nat := j.records.head?.map JournalRecord.seq

/-- The journal without the records numbered n or less; the next sequence number stays (R97, R104). -/
def Journal.release (j : Journal) (n : Nat) : Journal := { j with records := j.records.filter fun r => n < r.seq }

/-- A number above the newest held sequence number (R102). -/
def Journal.beyond (j : Journal) (n : Nat) : Bool :=
  match j.newest with
  | some q => q < n
  | none => false

/-- JRELEASE, which is a retry event (R102, R104, R107). -/
def serveJrelease (args : List Tok) (s : State) : Served :=
  match args with
  | [.num n] =>
    s.ifWritable <|
      match natIn 0 Config.maxSequence n with
      | some q =>
        if s.journal.beyond q then refuse .RANGE
        else
          let j := s.journal.release q
          .done (s.withJournal j).retry
            (okLine [.nat (s.journal.records.length - j.records.length), .nat j.records.length, .nat j.lineCount])
      | none => refuse .RANGE
  | _ => refuse .SYNTAX

/-- A number that may be absent (R105). -/
def Field.natOr (absent : Field) : Option Nat → Field
  | some n => .nat n
  | none => absent

/-- JSTAT (R102, R105). -/
def serveJstat (args : List Tok) (s : State) : Served :=
  match args with
  | [] =>
    let j := s.journal
    s.ifCommissioned
      (.done s
        (okLine
          [Field.natOr .dash j.oldest, Field.natOr .dash j.newest, .nat j.records.length, .nat j.lineCount,
            Field.natOr (.kw .EXHAUSTED) j.nextSeq, .kw s.settlement.deferral.kw]))
  | _ => refuse .SYNTAX

end Sys2Proof.Machine
end

