-- ==== Sys2Proof/Machine/FeederRequests.lean ====
section
/-! DEFINITION. Serving the feeder controller's requests (R133 to R135), with the checks of R132 in their order. -/

namespace Sys2Proof.Machine

/-- A feeder's fields (R133). -/
def State.feederLine (s : State) (f : Feeder) : ReplyLine :=
  let e := s.engine f
  [.kw (feederKw f), .kw e.link.kw, .nat e.fails, .nat e.timeout, .nat e.retries, .kw e.phaseKw, .nat e.queue.length,
    .nat e.answered, .nat e.failed, .nat e.strays, .nat e.bad]

/-- A queue entry's line (R133). -/
def QueueEntry.line (q : QueueEntry) : ReplyLine := [.nat (slotNumber q.slot), .kw q.command.commandKw]

/-- FEEDER (R132, R133). -/
def serveFeeder (args : List Tok) (s : State) : Served :=
  match args with
  | [.kw .ALL] => s.ifCommissioned (.done s (okLines [] [s.feederLine .A, s.feederLine .B]))
  | [f] =>
    match feederOf f with
    | some f => s.ifCommissioned (.done s (okLine (s.feederLine f)))
    | none => refuse .SYNTAX
  | [f, .kw .QUEUE] =>
    match feederOf f with
    | some f =>
      let q := (s.engine f).queue
      s.ifCommissioned (.done s (okLines [.nat q.length] (q.map QueueEntry.line)))
    | none => refuse .SYNTAX
  | _ => refuse .SYNTAX

/-- The engine forced, or back to UP with its count at 0 (R134). -/
def Engine.force (e : Engine) (on : Bool) : Engine :=
  if on then { e with link := .forced } else { e with link := .up, fails := 0 }

/-- FDRFORCE, which changes nothing of the nonvolatile array (R132, R134). -/
def serveFdrforce (args : List Tok) (s : State) : Served :=
  match args with
  | [f, on] =>
    match feederOf f, onOffOf on with
    | some f, some on =>
      s.ifCommissioned
        (.done (s.withEngine f ((s.engine f).force on)) (okLine [.kw ((s.engine f).force on).link.kw]))
    | _, _ => refuse .SYNTAX
  | _ => refuse .SYNTAX

/-- FDRTIMING: an exchange in flight keeps the settings it began with (R132, R135). -/
def serveFdrtiming (args : List Tok) (s : State) : Served :=
  match args with
  | [f, .num timeout, .num retries] =>
    match feederOf f with
    | some f =>
      s.ifWritable <|
        match natIn Config.minTimeout Config.maxTimeout timeout, natIn 0 Config.maxRetries retries with
        | some t, some r => .done (s.withEngine f { s.engine f with timeout := t, retries := r }) (okLine [])
        | _, _ => refuse .RANGE
    | none => refuse .SYNTAX
  | _ => refuse .SYNTAX

end Sys2Proof.Machine
end

