-- ==== Sys2Proof/Machine/WatchRequests.lean ====
section
/-! DEFINITION. Serving the reserve watch's requests (R153, R154). -/

namespace Sys2Proof.Machine

/-! ## RESCFG (R152, R153) -/

/-- One pair of RESCFG: a keyword of R152 and a number (R153). -/
def readReserve (k : Kw) (v : Tok) : Option Int :=
  if k ∈ [Kw.SOCLOW, .SOCHYST, .FHIGH, .FHYST, .FMIN, .FMAX, .DIV, .COUNT] then numberOf v else none

/-- The number given with a keyword inside its range, the value held when the keyword is not named, none outside its range
(R152, R153). -/
def settingOf (ps : List (Kw × Int)) (k : Kw) (lo hi held : Nat) : Option Nat :=
  match given ps k with
  | some n => natIn lo hi n
  | none => some held

/-- The settings as they would stand after a RESCFG, none when a value is outside its range (R152, R153). -/
def ReserveSettings.edit (c : ReserveSettings) (ps : List (Kw × Int)) : Option ReserveSettings :=
  match settingOf ps .SOCLOW 0 1000 c.socLow, settingOf ps .SOCHYST 0 1000 c.socHyst, settingOf ps .FHIGH 0 65535 c.fHigh,
      settingOf ps .FHYST 1 65535 c.fHyst, settingOf ps .FMIN 0 65535 c.fMin, settingOf ps .FMAX 0 65535 c.fMax,
      settingOf ps .DIV 1 8 c.divisor, settingOf ps .COUNT 1 8 c.count with
  | some sl, some sh, some fh, some fy, some fn, some fx, some d, some k =>
    some { socLow := sl, socHyst := sh, fHigh := fh, fHyst := fy, fMin := fn, fMax := fx, divisor := d, count := k }
  | _, _, _, _, _, _, _, _ => none

/-- The constraints that every held set of settings satisfies, with a divisor of the list (R152). -/
def ReserveSettings.legal (c : ReserveSettings) : Bool :=
  c.socLow + c.socHyst ≤ Config.maxCharge && c.fMin + c.fHyst < c.fHigh && c.fHigh ≤ c.fMax &&
    c.divisor ∈ [1, 2, 4, 8]

/-- RESCFG: the settings, with the three counters and the divisor position at 0 (R153). -/
def serveRescfg (args : List Tok) (s : State) : Served :=
  match pairs readReserve args with
  | none => refuse .SYNTAX
  | some ps =>
    s.ifWritable <|
      match s.reserve.settings.edit ps with
      | some c =>
        if c.legal then .done (s.withReserve { s.reserve.clearCounters with settings := c }) (okLine [])
        else refuse .RANGE
      | none => refuse .RANGE

/-! ## RESREAD (R154) -/

/-- The held state, a dash outside STALE (R154). -/
def WatchState.heldField : WatchState → Field
  | .stale c => .kw c.kw
  | .live _ => .dash

/-- The last accepted values (R154). -/
def Reserve.lastFields (r : Reserve) : List Field :=
  match r.last with
  | some v => [.nat v.charge, .nat v.frequency, .num v.power]
  | none => [.dash, .dash, .dash]

/-- The reserve watch as RESREAD reports it (R154). -/
def Reserve.fields (r : Reserve) : List Field :=
  [.kw r.state.kw, r.state.heldField, .kw r.state.effective.kw, Field.natOr .dash r.previous] ++ r.lastFields ++
    [.nat r.scarcity, .nat r.surplus, .nat r.leaving, .nat r.position, namesOr (.kw .NONE) r.flags.names,
      .nat r.accepted, .nat r.bad, .nat r.repeats, .nat r.outOfRange]

/-- The settings as keyword and value pairs (R154). -/
def ReserveSettings.fields (c : ReserveSettings) : List Field :=
  [.kw .SOCLOW, .nat c.socLow, .kw .SOCHYST, .nat c.socHyst, .kw .FHIGH, .nat c.fHigh, .kw .FHYST, .nat c.fHyst,
    .kw .FMIN, .nat c.fMin, .kw .FMAX, .nat c.fMax, .kw .DIV, .nat c.divisor, .kw .COUNT, .nat c.count]

/-- RESREAD (R154). A malformed line answers NO SYNTAX in UNCOMMISSIONED too (log 41). -/
def serveResread (args : List Tok) (s : State) : Served :=
  match args with
  | [] => s.ifCommissioned (.done s (okLine s.reserve.fields))
  | [.kw .CFG] => s.ifCommissioned (.done s (okLine s.reserve.settings.fields))
  | _ => refuse .SYNTAX

end Sys2Proof.Machine
end

