-- ==== Sys2Proof/Machine/LimiterRequests.lean ====
section
/-! DEFINITION. Serving the supply limiter's requests (R165, R166), with the checks of R164 in their order. -/

namespace Sys2Proof.Machine

/-- The word for the outcome of a household's offer to its queue (R165). -/
def State.offerWord (s : State) (f : Feeder) (i : Slot) (r : Relay) : Kw :=
  match offerTo (s.engine f).queue i r with
  | .queued _ => .QUEUED
  | .full => .FULL

/-- RELAY (R164, R165). -/
def serveRelay (args : List Tok) (s : State) : Served :=
  match args with
  | [.num n, r] =>
    match relayOf r with
    | some r =>
      s.onSlot n fun i =>
        match (s.household i).settings with
        | some c =>
          if c.policy = .manual then
            .done (s.want i c r)
              (okLine [.kw r.kw, .kw (confirmedKw (s.household i).confirmed), .kw (s.offerWord c.feeder i r)])
          else refuse .STATE
        | none => refuse .STATE
    | none => refuse .SYNTAX
  | _ => refuse .SYNTAX

/-- RLYCFG (R164, R166). -/
def serveRlycfg (args : List Tok) (s : State) : Served :=
  match args with
  | [] => s.ifCommissioned (.done s (okLine [.kw .MARGIN, .nat s.margin]))
  | [.kw .MARGIN, .num n] =>
    s.ifWritable <|
      match natIn 0 Config.maxMargin n with
      | some m => .done (s.withMargin m).evaluateAuto (okLine [])
      | none => refuse .RANGE
  | _ => refuse .SYNTAX

end Sys2Proof.Machine
end

