-- ==== Sys2Proof/Machine/DisplayRequests.lean ====
section
/-! DEFINITION. Serving the display's requests (R177, R179), with the checks of R175 in their order. -/

namespace Sys2Proof.Machine

/-! ## DISPCFG -/

/-- The page that a PAGE pair names (R175). -/
inductive PageName
  | slot (n : Int)
  | reserve
  | clock
  deriving DecidableEq, Repr

/-- The value of one pair of DISPCFG (R175). -/
inductive DisplayValue
  | num (n : Int)
  | mode (m : Mode)
  | enable (b : Bool)
  | page (p : PageName)
  deriving DecidableEq, Repr

/-- The page word of a PAGE pair (R175). -/
def pageOf : Tok → Option PageName
  | .num n => some (.slot n)
  | .kw .RESERVE => some .reserve
  | .kw .CLOCK => some .clock
  | _ => none

/-- One pair of DISPCFG (R175). -/
def readDisplay (k : Kw) (v : Tok) : Option DisplayValue :=
  match k with
  | .MODE => (modeOf v).map DisplayValue.mode
  | .RATE => (numberOf v).map DisplayValue.num
  | .DWELL => (numberOf v).map DisplayValue.num
  | .RESERVE => (onOffOf v).map DisplayValue.enable
  | .CLOCK => (onOffOf v).map DisplayValue.enable
  | .PAGE => (pageOf v).map DisplayValue.page
  | _ => none

/-- One pair written, none when its value is outside its range (R175, order 4). -/
def Display.editOne (d : Display) : Kw × DisplayValue → Option Display
  | (_, .mode m) => some { d with mode := m }
  | (.RATE, .num n) => if n = 32 ∨ n = 64 then some { d with rate := n.toNat } else none
  | (.DWELL, .num n) => (natIn 1 255 n).map fun w => { d with dwell := w }
  | (_, .num _) => none
  | (.RESERVE, .enable b) => some { d with reserveOn := b }
  | (.CLOCK, .enable b) => some { d with clockOn := b }
  | (_, .enable _) => none
  | (_, .page .reserve) => some { d with heldPage := .reserve }
  | (_, .page .clock) => some { d with heldPage := .clock }
  | (_, .page (.slot n)) => (slotOf n).map fun i => { d with heldPage := .household i }

/-- Every pair written (R177). -/
def Display.editAll (d : Display) (ps : List (Kw × DisplayValue)) : Option Display := ps.foldlM Display.editOne d

/-- A PAGE pair names a VACANT slot (R175, order 5). -/
def State.pageVacant (s : State) (ps : List (Kw × DisplayValue)) : Bool :=
  match given ps .PAGE with
  | some (.page (.slot n)) =>
    match slotOf n with
    | some i => !(s.household i).present
    | none => false
  | _ => false

/-- What an accepted DISPCFG makes of the display: a changed mode or rate blanks it (R177). -/
def Display.accept (old new : Display) : Display :=
  if old.mode ≠ new.mode ∨ old.rate ≠ new.rate then new.startBlank else new

/-- DISPCFG (R175, R177). -/
def serveDispcfg (args : List Tok) (s : State) : Served :=
  match pairs readDisplay args with
  | none => refuse .SYNTAX
  | some ps =>
    s.ifWritable <|
      match s.display.editAll ps with
      | none => refuse .RANGE
      | some d =>
        if s.pageVacant ps then refuse .STATE else .done (s.withDisplay (s.display.accept d)) (okLine [])

/-! ## DISPREAD -/

/-- The marks lit, by name. Their order is the order of their phases in R168's table (DESIGN CHOICE, log 50: R179 gives the
names no order). -/
def Marks.names (m : Marks) : List Kw :=
  (if m.minus then [.MINUS] else []) ++ (if m.overflow then [.OVER] else []) ++ (if m.opened then [.OPEN] else []) ++
    (if m.stale then [.STALE] else [])

/-- The current page, the characters and the marks, each a dash unless the activity is SHOWING (R179). -/
def Display.shownFields (d : Display) : Field × Field × Field :=
  if d.activity = .showing then
    (match d.current with
      | some p => p.field
      | none => .kw .NONE, .glyphs d.glyphs.toList, namesOr (.kw .NONE) d.marks.names)
  else (.dash, .dash, .dash)

/-- The frames left, a dash in OFF and WARNING (R179). -/
def Display.framesField (d : Display) : Field :=
  if d.activity = .showing ∨ d.activity = .blanking then .nat d.framesLeft else .dash

/-- The display as DISPREAD reports it (R179). -/
def Display.fields (d : Display) : List Field :=
  let shown := d.shownFields
  [.kw d.mode.kw, .nat d.rate, .nat d.dwell, onOff d.reserveOn, onOff d.clockOn, d.heldPage.field, .kw d.activity.kw,
    shown.1, d.framesField, shown.2.1, shown.2.2]

/-- DISPREAD (R175, R179). -/
def serveDispread (args : List Tok) (s : State) : Served :=
  match args with
  | [] => s.ifCommissioned (.done s (okLine s.display.fields))
  | _ => refuse .SYNTAX

end Sys2Proof.Machine
end

