-- ==== Sys2Proof/Machine/NoticeRequests.lean ====
section
/-! DEFINITION. Serving the host line's own requests: IDENT, STATUS and the notices (R186, R187, R189 to R191). -/

namespace Sys2Proof.Machine

/-! ## IDENT and STATUS -/

/-- The cooperative number, absent outside 1..65534 (R186). -/
def State.cooperative (s : State) : Field :=
  if 1 ≤ s.charterWord 0 ∧ s.charterWord 0 ≤ 65534 then .nat (s.charterWord 0) else .dash

/-- IDENT (R186). -/
def serveIdent (args : List Tok) (s : State) : Served :=
  match args with
  | [] =>
    .done s
      (okLine
        [.kw .SEZGAT, .kw .S296, .nat 1, s.cooperative, .kw (if s.locked then .LOCKED else .UNLOCKED),
          .nat (baudOf s.host.rate)])
  | _ => refuse .SYNTAX

/-- The number of notice flags set (R187). -/
def Notices.flagsSet (ns : Notices) : Nat := ns.cells.toList.countP NoticeCell.flag

/-- STATUS (R187). -/
def serveStatus (args : List Tok) (s : State) : Served :=
  match args with
  | [] =>
    .done s
      (okLine
        [.kw s.service.kw, .kw (if s.supply.warning then .WARNING else .GOOD),
          .kw (if s.calendar.valid then .VALID else .INVALID),
          .kw (if s.settlement.computation.isSome then .COMPUTING else .IDLE), .kw s.settlement.deferral.kw,
          .nat s.store.books.length, .nat s.journal.records.length, .kw s.feederA.link.kw, .kw s.feederB.link.kw,
          .kw s.reserve.state.kw, .nat s.notices.flagsSet, onOff s.notices.attn, .nat s.host.discarded])
  | _ => refuse .SYNTAX

/-! ## NOTICES, NOTACK, NOTMASK -/

/-- The name and count pairs of the notices whose flag is set, or NONE (R189, R190). -/
def Notices.setFields (ns : Notices) : List Field :=
  match noticeOrder.filter fun n => (ns.cell n).flag with
  | [] => [.kw .NONE]
  | set => set.flatMap fun n => [Field.kw n.kw, .nat (ns.cell n).count]

/-- A notice's line in NOTICES ALL (R189). -/
def Notices.line (ns : Notices) (n : Notice) : ReplyLine :=
  let c := ns.cell n
  [.kw n.kw, .kw (if c.flag then .SET else .CLEAR), .nat c.count, onOff c.mask]

/-- NOTICES (R189). -/
def serveNotices (args : List Tok) (s : State) : Served :=
  match args with
  | [] => .done s (okLine s.notices.setFields)
  | [.kw .ALL] => .done s (okLines [] (noticeOrder.map s.notices.line))
  | _ => refuse .SYNTAX

/-- One pair of NOTACK (R190). -/
def readAck (k : Kw) (v : Tok) : Option Int := if (noticeOf k).isSome then numberOf v else none

/-- A notice judged by a NOTACK: its flag is cleared when the count named equals its count (R190). -/
def NoticeCell.judge (c : NoticeCell) (named : Option Int) : NoticeCell :=
  if named = some (c.count : Int) then { c with flag := false } else c

/-- Every notice changed by a function of its name. -/
def Notices.mapCells (ns : Notices) (f : Notice → NoticeCell → NoticeCell) : Notices :=
  { ns with cells := tabulate 16 fun i =>
      match noticeOrder[i.val]? with
      | some n => f n ns.cells[i]
      | none => ns.cells[i] }

/-- Every named notice judged in one event, and ATTN following (R190, R192). -/
def State.acknowledge (s : State) (ps : List (Kw × Int)) : State :=
  (s.withNotices (s.notices.mapCells fun n c => c.judge (given ps n.kw))).driveAttn

/-- NOTACK, served in every service state and during a warning (R190). One that deserves both refusals answers NO SYNTAX
(DESIGN CHOICE, log 49: R190 gives the two no order). -/
def serveNotack (args : List Tok) (s : State) : Served :=
  match pairs readAck args with
  | none => refuse .SYNTAX
  | some ps =>
    if ps.all fun p => (natIn 0 255 p.2).isSome then
      .done (s.acknowledge ps) (okLine (s.acknowledge ps).notices.setFields)
    else refuse .RANGE

/-- One pair of NOTMASK: a notice name or ALL, and ON or OFF (R191). -/
def readMask (k : Kw) (v : Tok) : Option Bool := if k = .ALL ∨ (noticeOf k).isSome then onOffOf v else none

/-- A notice's mask after a NOTMASK: ALL applies first, then the notice's own pair (R191). -/
def maskAfter (ps : List (Kw × Bool)) (n : Notice) (held : Bool) : Bool :=
  (given ps n.kw).getD ((given ps .ALL).getD held)

/-- The masks written, and ATTN following (R191, R192). -/
def State.writeMasks (s : State) (ps : List (Kw × Bool)) : State :=
  (s.withNotices (s.notices.mapCells fun n c => { c with mask := maskAfter ps n c.mask })).driveAttn

/-- NOTMASK (R191). The word ALL given twice answers NO SYNTAX, as a name given twice does (log 45). -/
def serveNotmask (args : List Tok) (s : State) : Served :=
  match args with
  | [] =>
    s.ifCommissioned
      (.done s (okLine (noticeOrder.flatMap fun n => [Field.kw n.kw, onOff (s.notices.cell n).mask])))
  | _ :: _ =>
    match pairs readMask args with
    | some ps => s.ifWritable (.done (s.writeMasks ps) (okLine []))
    | none => refuse .SYNTAX

end Sys2Proof.Machine
end

