-- ==== Sys2Proof/Machine/CharterRequests.lean ====
section
/-! DEFINITION. Serving the charter's requests (R195, R196, R198) and WIPE (R201). -/

namespace Sys2Proof.Machine

/-! ## CHRREAD (R195) -/

/-- The number of a charter word up to a bound. -/
def charterIxOf (hi : Nat) (n : Int) : Option CharterIx := (natIn 0 hi n).map (Fin.ofNat 32)

/-- A charter word's number and value (R195). -/
def State.charterLine (s : State) (w : CharterIx) : ReplyLine := [.nat w.val, .nat (s.charterWord w)]

/-- CHRREAD, served in every service state and during a warning (R195). -/
def serveChrread (args : List Tok) (s : State) : Served :=
  match args with
  | [.num n] =>
    match charterIxOf 31 n with
    | some w => .done s (okLine (s.charterLine w))
    | none => refuse .RANGE
  | [.kw .ALL] => .done s (okLines [] ((List.finRange 32).map s.charterLine))
  | _ => refuse .SYNTAX

/-! ## CHRPROG (R196) -/

/-- Programming can reach a value: its 1 bits are all 1 bits of the value before (R193). -/
def programmable (before after : Word16) : Bool := after &&& before = after

/-- Some present household's settings satisfy a condition. -/
def State.someSettings (s : State) (p : Settings → Bool) : Bool :=
  s.table.toList.any fun h =>
    match h.settings with
    | some c => h.present && p c
    | none => false

/-- A program of a word that would break a value held: the household limit, the largest cap, the lowest floor, the largest
levy (R16, R21). -/
def State.guards (s : State) (w : CharterIx) (value : Nat) : Bool :=
  if w = 1 then limitOf value < s.memberCount
  else if w = 4 then s.someSettings fun c => capCeilingOf value < c.cap
  else if w = 5 then value ≤ Config.maxLevy && s.tariff.sets.toList.any fun p => value < p.levy
  else if w = 6 then s.someSettings fun c => c.floor < lowestFloorOf value
  else false

/-- The checks of CHRPROG and CHRLOCK after their syntax (R196, orders 2 to 4; R198). -/
def State.ifProgrammable (s : State) (k : Served) : Served :=
  if s.locked then refuse .LOCKED
  else if s.service ≠ .commissioning then refuse .STATE
  else if s.supply.warning then refuse .HELD
  else k

/-- A program begins; its line stays in service (R196). -/
def State.program (s : State) (p : Program) : State := s.withCharter { s.charter with program := some p }

/-- CHRPROG (R196). -/
def serveChrprog (args : List Tok) (s : State) : Served :=
  match args with
  | [.num n, .num value] =>
    s.ifProgrammable <|
      match charterIxOf 30 n, natIn 0 65535 value with
      | some w, some v =>
        if programmable s.charter.words[w] (BitVec.ofNat 16 v) && !s.guards w v then
          .programming (s.program (.word w (BitVec.ofNat 16 v)))
        else refuse .RANGE
      | _, _ => refuse .RANGE
  | _ => refuse .SYNTAX

/-! ## CHRLOCK (R198) -/

/-- A charter word's value is in the range checked at the lock (R193). -/
def lockRange (w : CharterIx) (n : Nat) : Bool :=
  match w with
  | 0 => 1 ≤ n && n ≤ 65534
  | 1 => 1 ≤ n && n ≤ 96
  | 2 => legalLength n
  | 3 => n ≤ 3
  | 4 => 1 ≤ n && n ≤ 65535
  | 5 => n ≤ Config.maxLevy
  | 6 => n ≤ 65534
  | 7 => n ≤ 65534
  | _ => true

/-- The first of words 0 to 7 outside its range (R198). -/
def State.lockFault (s : State) : Option CharterIx :=
  [0, 1, 2, 3, 4, 5, 6, 7].find? fun w => !lockRange w (s.charterWord w)

/-- CHRLOCK (R198). -/
def serveChrlock (args : List Tok) (s : State) : Served :=
  match args with
  | [] =>
    s.ifProgrammable <|
      match s.lockFault with
      | some w => .refused [[.kw .NO, .kw .RANGE, .nat w.val]]
      | none => .programming (s.program .lock)
  | _ => refuse .SYNTAX

/-! ## WIPE (R201) -/

/-- A feeder engine after WIPE: its timing at the defaults, its queue empty, an exchange in flight without its household;
link state and counts are kept (R201). -/
def Engine.wipe (e : Engine) : Engine :=
  { e with
    queue := []
    timeout := Config.defaultTimeout
    retries := Config.defaultRetries
    pass := e.pass.map fun p => p.mapExchange fun x => { x with vacated := true } }

/-- The store after WIPE; a delivery that waits for the array still waits (R201, R185). -/
def BookStore.wipe (k : BookStore) : BookStore := { BookStore.empty with deliveries := k.deliveries }

/-- The reserve watch after WIPE: settings at the defaults, counters and divisor position 0 (R201). -/
def Reserve.wipe (r : Reserve) : Reserve := { r.clearCounters with settings := ReserveSettings.default }

/-- Every notice's mask ON (R191, R201). -/
def Notices.unmasked (ns : Notices) : Notices := ns.mapCells fun _ c => { c with mask := true }

/-- The accounts, books and journal after WIPE (R201). -/
def State.wipeAccounts (s : State) : State :=
  (((((s.withTable (Vector.replicate 96 Household.wiped)).withFund 0).withInjection 0).withStore
    s.store.wipe).withSettlement { s.settlement with deferral := .none }).withJournal { records := [], nextSeq := some 1 }

/-- The tariffs and settings after WIPE, with the first page starting (R173, R201). -/
def State.wipeSettings (s : State) : State :=
  ((((((s.withTariff Tariff.default).withFeederA s.feederA.wipe).withFeederB s.feederB.wipe).withReserve
    s.reserve.wipe).withMargin Config.defaultMargin).withDisplay (s.display.wipe.startPage .first)).withNotices
    s.notices.unmasked

/-- All of WIPE in one event (R201). -/
def State.wipe (s : State) : State := s.wipeAccounts.wipeSettings.driveAttn

/-- WIPE (R201). -/
def serveWipe (args : List Tok) (s : State) : Served :=
  match args with
  | [] =>
    if s.service ≠ .commissioning then refuse .STATE
    else if s.supply.warning then refuse .HELD
    else .done s.wipe (okLine [])
  | _ => refuse .SYNTAX

end Sys2Proof.Machine
end

