-- ==== Sys2Proof/Machine/HostLine.lean ====
section
/-! DEFINITION. The host line (chapter 10): the owning block of each request, taking a line into service with the checks it
fails at once, the grant that serves it, and the places of the lines that come while one is in service. -/

namespace Sys2Proof.Machine

/-- The owning block's service of a request (R183): its checks in their order, then its effect and its reply. -/
def serveRequest (r : Req) (args : List Tok) (s : State) : Served :=
  match r with
  | .CLKREAD => serveClkread args s
  | .CLKSET => serveClkset args s
  | .CLKALIGN => serveClkalign args s
  | .BANDSET => serveBandset args s
  | .BANDREAD => serveBandread args s
  | .PRICESET => servePriceset args s
  | .PRICEREAD => servePriceread args s
  | .HHENROL => serveHhenrol args s
  | .HHEDIT => serveHhedit args s
  | .HHREAD => serveHhread args s
  | .HHSUSPEND => serveHhsuspend args s
  | .HHRESUME => serveHhresume args s
  | .HHREBASE => serveHhrebase args s
  | .HHWITHDRAW => serveHhwithdraw args s
  | .TOPUP => serveTopup args s
  | .ADJUST => serveAdjust args s
  | .FUND => serveFund args s
  | .FUNDREAD => serveFundread args s
  | .BOOKS => serveBooks args s
  | .BOOKREAD => serveBookread args s
  | .CLOSENOW => serveClosenow args s
  | .SUBSET => serveSubset args s
  | .SUBOFF => serveSuboff args s
  | .SUBCLR => serveSubclr args s
  | .SUBREAD => serveSubread args s
  | .JREAD => serveJread args s
  | .JRELEASE => serveJrelease args s
  | .JSTAT => serveJstat args s
  | .FEEDER => serveFeeder args s
  | .FDRFORCE => serveFdrforce args s
  | .FDRTIMING => serveFdrtiming args s
  | .RESREAD => serveResread args s
  | .RESCFG => serveRescfg args s
  | .RELAY => serveRelay args s
  | .RLYCFG => serveRlycfg args s
  | .DISPCFG => serveDispcfg args s
  | .DISPREAD => serveDispread args s
  | .IDENT => serveIdent args s
  | .STATUS => serveStatus args s
  | .NOTICES => serveNotices args s
  | .NOTACK => serveNotack args s
  | .NOTMASK => serveNotmask args s
  | .CHRREAD => serveChrread args s
  | .CHRPROG => serveChrprog args s
  | .CHRLOCK => serveChrlock args s
  | .WIPE => serveWipe args s

/-! ## The line in service -/

/-- A line in service at a stage (R182). -/
def State.hold (s : State) (line : Line) (stage : Stage) : State :=
  s.withHost { s.host with inService := some { line := line, stage := stage } }

/-- The event that serves a line: its effect, and its reply begins, or the wait for a charter program (R182, R196). -/
def State.finish (s : State) (line : Line) : Served → State
  | .refused reply => s.hold line (.replying reply)
  | .done t reply => t.hold line (.replying reply)
  | .programming t => t.hold line .programming

/-- A request taken into service: refused at once when its checks already fail, else waiting for the event that serves it
(R185, log 26). -/
def State.takeServed (s : State) (line : Line) : Served → State
  | .refused reply => s.hold line (.replying reply)
  | .done _ _ => s.hold line .taken
  | .programming _ => s.hold line .taken

/-- A line taken into service (R182), after the host line's own checks (R183). -/
def State.takeLine (s : State) (line : Line) : State :=
  match line with
  | .long => s.hold line (.replying [[.kw .NO, .kw .LONG]])
  | .bad => s.hold line (.replying [[.kw .NO, .kw .SYNTAX]])
  | .unknown => s.hold line (.replying [[.kw .NO, .kw .UNKNOWN]])
  | .request r args => s.takeServed line (serveRequest r args s)

/-! ## The serving order -/

/-- A complete line offered while one is in service: it takes the waiting place, or it is discarded and counted (R182). -/
def State.queueLine (s : State) (line : Line) : State :=
  match s.host.waiting with
  | none => s.withHost { s.host with waiting := some line }
  | some _ => s.withHost { s.host with discarded := bump Config.countCeiling s.host.discarded }

/-- A complete line while the part starts up is held, the first to be taken into service when start-up ends (R206). -/
def State.holdLine (s : State) (line : Line) : State :=
  match s.host.inService with
  | none => s.hold line .held
  | some _ => s.queueLine line

/-- A complete line offered to the serving order (R182); in reset and without supply nothing is received (R205). -/
def State.offerLine (s : State) (line : Line) : State :=
  match s.power.phase with
  | .running =>
    match s.host.inService with
    | none => s.takeLine line
    | some _ => s.queueLine line
  | .starting => s.holdLine line
  | .off => s
  | .offHeld => s
  | .resetHeld => s

/-- A request command (log 4). When its line is in service and not yet served, it is the event that serves it. With no line
in service, its line goes into service and is served in the one event. Either needs that nothing of higher priority waits for
the array, when the request reaches it; else the line waits, or is refused at once (R185, log 6). With another line in service
its line is offered to the serving order. -/
def State.requestCommand (s : State) (r : Req) (args : List Tok) (served : Served) : State :=
  match s.power.phase with
  | .running =>
    match s.host.inService with
    | none =>
      if s.mayServe r args then s.finish (.request r args) served else s.takeServed (.request r args) served
    | some l =>
      if l = { line := .request r args, stage := .taken } then
        if s.mayServe r args then s.finish l.line served else s
      else s.queueLine (.request r args)
  | .starting => s.holdLine (.request r args)
  | .off => s
  | .offHeld => s
  | .resetHeld => s

/-- The line received during start-up goes into service (R206). -/
def State.takeHeldLine (s : State) : State :=
  match s.host.inService with
  | some { line := line, stage := .held } => s.takeLine line
  | _ => s

/-- The event that serves the request taken into service, unless a requester of higher priority waits for the array that it
reaches (R182, R185). -/
def State.serveTaken (s : State) (examined : Bool) : State :=
  match s.host.inService with
  | some { line := .request r args, stage := .taken } =>
    if reachesArray r args && (s.waitsNow examined .engine || s.waitsNow examined .intake) then s
    else s.finish (.request r args) (serveRequest r args s)
  | _ => s

/-- The last character of a reply sent: the line leaves service, and the waiting line goes into service (R182). -/
def State.replySent (s : State) : State :=
  match s.host.inService with
  | some { line := _, stage := .replying _ } =>
    let t := s.withHost { s.host with inService := none, waiting := none }
    match s.host.waiting with
    | some line => t.takeLine line
    | none => t
  | _ => s

/-- The reply of a line that waited for a charter program begins (R196, R198). -/
def State.answerProgram (s : State) (reply : Reply) : State :=
  match s.host.inService with
  | some { line := line, stage := .programming } => s.hold line (.replying reply)
  | _ => s

/-- The reply being sent on HTXD (R182, R184). -/
def State.reply (s : State) : Option Reply :=
  match s.host.inService with
  | some { line := _, stage := .replying reply } => some reply
  | _ => none

end Sys2Proof.Machine
end

