-- ==== Sys2Proof/Machine/Startup.lean ====
section
/-! DEFINITION. The supply monitor, the charter's program completions, resets and start-up (chapter 11), with what each
brings to the other blocks. -/

namespace Sys2Proof.Machine

/-! ## The supply monitor (R202 to R204) -/

/-- The monitor enters WARNING: PFAIL low, the passes stop, the display blanks, POWER_WARNING is set (R202, R203, R120,
R178). -/
def State.enterWarning (s : State) : State :=
  ((((s.withSupply { warning := true, lowRun := Config.lowRunLimit, goodRun := 0, pfail := false }).withFeederA
    s.feederA.warn).withFeederB s.feederB.warn).withDisplay s.display.warn).notify .powerWarning

/-- The monitor returns to GOOD: PFAIL high, the display starts a page (R204, R178). -/
def State.leaveWarning (s : State) : State :=
  (s.withSupply { warning := false, lowRun := 0, goodRun := Config.goodRunLimit, pfail := true }).withDisplay
    s.display.recover

/-- A sample of VDD below the threshold (R202). -/
def State.lowSample (s : State) : State :=
  let run := bump Config.lowRunLimit s.supply.lowRun
  if !s.supply.warning && run = Config.lowRunLimit then s.enterWarning
  else s.withSupply { s.supply with lowRun := run, goodRun := 0 }

/-- A sample of VDD at or above the threshold (R202). -/
def State.goodSample (s : State) : State :=
  let run := bump Config.goodRunLimit s.supply.goodRun
  if s.supply.warning && run = Config.goodRunLimit then s.leaveWarning
  else s.withSupply { s.supply with goodRun := run, lowRun := 0 }

/-! ## Resets (R205) -/

/-- A link engine in reset: its pass and its exchange end without an outcome (R111, R205). -/
def Engine.halt (e : Engine) : Engine := { e with pass := none, next := none }

/-- A reset takes effect: every exchange, pass, alignment and computation in flight ends without its outcome, the lines are
lost, no display line is driven, ATTN and PFAIL are low (R71, R111, R205, log 24). -/
def State.halt (s : State) (phase : PowerPhase) : State :=
  let t := ((s.withFeederA s.feederA.halt).withFeederB s.feederB.halt).discardComputation
  let t := t.withStore { t.store with deliveries := [] }
  let t := t.withCalendar { t.calendar with aligning := false }
  let t := t.withDisplay (t.display.dark .off)
  let t := t.withHost { t.host with inService := none, waiting := none }
  let t := t.withSupply { t.supply with pfail := false }
  (t.withPower { phase := phase, resetDue := none }).driveAttn

/-! ## Start-up (R206) -/

/-- The service state that the lock word and the MODE strap give (R199). -/
def State.resolvedService (s : State) (mode : ModeStrap) : Service :=
  if s.locked then .service
  else
    match mode with
    | .commission => .commissioning
    | .service => .uncommissioned

/-- A link engine after a reset: everything but its timing starts anew (R111). -/
def Engine.restart (e : Engine) : Engine := { Engine.fresh with timeout := e.timeout, retries := e.retries }

/-- Start-up begins: the straps are read and each block takes its values after the reset (R206). -/
def State.beginStartup (s : State) (mode : ModeStrap) (rate : Rate) : State :=
  let t := s.halt .starting
  let t := t.withService (s.resolvedService mode)
  let t := t.withHost { rate := rate, inService := none, waiting := none, discarded := 0 }
  let t := (t.withFeederA t.feederA.restart).withFeederB t.feederB.restart
  let t := t.withReserve t.reserve.restart
  let t := t.withStore { t.store with late := 0 }
  t.withNotices t.notices.cleared

/-- The calendar whose content VBAK did not hold (R2). -/
def Calendar.lost (c : Calendar) : Calendar := { c with now := firstMoment, valid := false, aligning := false }

/-- The calendar's validity judged at a power-on (R2). -/
def State.judgeCalendar (s : State) (vbakHeld : Bool) : State :=
  if vbakHeld then s else s.withCalendar s.calendar.lost

/-- A power-on (R2, R206): start-up begins, or, with the RESET pin held, the part waits in reset for its release (log 22). -/
def State.powerOn (s : State) (vbakHeld : Bool) (mode : ModeStrap) (rate : Rate) : State :=
  match s.power.phase with
  | .off => (s.beginStartup mode rate).judgeCalendar vbakHeld
  | .offHeld => (s.withPower { phase := .resetHeld, resetDue := none }).judgeCalendar vbakHeld
  | .resetHeld => s
  | .starting => s
  | .running => s

/-- The notices set at the end of a start-up (R188). -/
def State.noticesAtStart (s : State) : State :=
  let t := s.notify .restarted
  if s.calendar.valid then t else t.notify .clockInvalid

/-- The events that every end of start-up brings, in the order in which R206 lists them. -/
def startEventsDue : List StartEvent := [.notices, .catchUp, .evaluation, .pageStart, .firstLine]

/-- The events of an end of start-up as they are taken: those of the order given, each once, and then the due ones that it does
not name (log 8). -/
def startSequence (order : List StartEvent) : List StartEvent :=
  order.eraseDups ++ startEventsDue.filter fun e => e ∉ order

/-- One event of the end of a start-up, at its own block (R6, R160, R176, R182, R188, R206). The three accesses are those of
SETTLING_START, of PAGE_LATCH and of the first line's request, each made only at its grant (R185). `examined` says that the
engine's start conditions hold no book that it has not examined yet (R68). -/
def State.takeStartEvent (s : State) (examined : Bool) (e : StartEvent) : State :=
  match e with
  | .notices => s.noticesAtStart
  | .catchUp => s.catchUp
  | .settling => s.atGrant .engine false State.startSettling
  | .evaluation => s.evaluateAuto
  | .pageStart => s.withDisplay (s.display.startPage .first)
  | .latch =>
    if [Requester.engine, .intake, .hostLine].any (s.waitsNow examined) then s else s.latchPage
  | .firstLine => s.takeHeldLine
  | .service => s.serveTaken examined

/-- The events of the end of a start-up one after another. A book that was DUE before them is examined by the engine's own event,
and one that becomes startable among them by the event that makes it so (R68, R206). -/
def State.takeStartEvents (s : State) (events : List StartEvent) : State :=
  (events.foldl (fun p e => (p.1.takeStartEvent p.2 e, p.2 || e = .settling)) (s, s.startable.isNone)).1

/-- The end of start-up: the monitor is GOOD, the part runs, the notices are clear, and then its events are taken in the order
given (R188, R206, log 8). -/
def State.endStartup (s : State) (order : List StartEvent) : State :=
  let t := s.withSupply { warning := false, lowRun := 0, goodRun := 0, pfail := true }
  let t := (t.withPower { phase := .running, resetDue := none }).withNotices s.notices.cleared
  t.takeStartEvents (startSequence order)

/-! ## Charter programs (R196 to R198) -/

/-- A reset that waited for the charter program takes effect (R197, log 22). -/
def State.dueReset (s : State) : State :=
  match s.power.resetDue with
  | none => s
  | some .held => s.halt .resetHeld
  | some (.released mode rate) => s.beginStartup mode rate
  | some .powerLost => s.halt .off
  | some .powerLostHeld => s.halt .offHeld

/-- A word programmed, and the reaction of its owning block (R3, R196). -/
def State.programWord (s : State) (w : CharterIx) (value : Word16) : State :=
  let t := s.withCharter { words := s.charter.words.set w value, program := none }
  if w = 2 then t.lengthProgrammed value.toNat else t

/-- The charter locked, and SERVICE entered (R45, R198). -/
def State.programLock (s : State) : State :=
  ((s.withCharter { words := s.charter.words.set 31 0, program := none }).withService .service).withStore
    { s.store with carried := 0, fresh := true }

/-- CHARTER_PROGRAM_COMPLETION's event (R196, R197). -/
def State.completeProgram (s : State) : State :=
  match s.charter.program with
  | some (.word w value) =>
    ((s.programWord w value).answerProgram (okLine [.nat w.val, .nat value.toNat])).dueReset
  | _ => s

/-- LOCK_COMPLETION's event (R198). -/
def State.completeLock (s : State) : State :=
  match s.charter.program with
  | some .lock => (s.programLock.answerProgram (okLine [.kw .SERVICE])).dueReset
  | _ => s

/-! ## The RESET pin and the supply (R197, R205, R206) -/

/-- What is due after an assertion of the pin during a program (R197). -/
def dueAsserted : Option ResetDue → ResetDue
  | some .powerLost => .powerLostHeld
  | some .powerLostHeld => .powerLostHeld
  | some .held => .held
  | some (.released _ _) => .held
  | none => .held

/-- What is due after a release of the pin during a program, with the straps as they are read then (R197, R206). -/
def dueReleased (mode : ModeStrap) (rate : Rate) : Option ResetDue → Option ResetDue
  | some .held => some (.released mode rate)
  | some .powerLostHeld => some .powerLost
  | some .powerLost => some .powerLost
  | some (.released m r) => some (.released m r)
  | none => none

/-- What is due after a fall of the supply during a program (R197, R205). -/
def dueUnpowered : Option ResetDue → ResetDue
  | some .held => .powerLostHeld
  | some .powerLostHeld => .powerLostHeld
  | some .powerLost => .powerLost
  | some (.released _ _) => .powerLost
  | none => .powerLost

/-- The RESET pin asserted: at once, or at the end of a charter program in progress; without VDD its level is kept (R197,
R205, log 22). -/
def State.assertReset (s : State) : State :=
  match s.power.phase with
  | .running =>
    if s.charter.program.isSome then s.withPower { s.power with resetDue := some (dueAsserted s.power.resetDue) }
    else s.halt .resetHeld
  | .starting => s.halt .resetHeld
  | .resetHeld => s
  | .off => s.withPower { s.power with phase := .offHeld }
  | .offHeld => s

/-- The RESET pin released: start-up begins, or it will when the program in progress has ended or VDD is back (R197, R206,
log 22). -/
def State.releaseReset (s : State) (mode : ModeStrap) (rate : Rate) : State :=
  match s.power.phase with
  | .resetHeld => s.beginStartup mode rate
  | .running => s.withPower { s.power with resetDue := dueReleased mode rate s.power.resetDue }
  | .starting => s
  | .off => s
  | .offHeld => s.withPower { s.power with phase := .off }

/-- VDD falls below 2.50 V; the level of the RESET pin is kept (R202, R205, log 22). -/
def State.losePower (s : State) : State :=
  match s.power.phase with
  | .running =>
    if s.charter.program.isSome then s.withPower { s.power with resetDue := some (dueUnpowered s.power.resetDue) }
    else s.halt .off
  | .starting => s.halt .off
  | .resetHeld => s.halt .offHeld
  | .off => s
  | .offHeld => s

end Sys2Proof.Machine
end

