-- ==== Sys2Proof/Machine/EventCommands.lean ====
section
/-! DEFINITION. The meanings of the events: each is the event taken by the part. While the part is in reset or in start-up
only the calendar, the host line's receiver and the supply act (R205, R206). -/

namespace Sys2Proof.Machine

/-- The delivery that has waited longest is granted the array (R53, R185). -/
def State.grantDelivery (s : State) : State :=
  match s.store.deliveries with
  | d :: rest => (s.withStore { s.store with deliveries := rest }).intake d
  | [] => s

/-- CHARTER_PROGRAM_COMPLETION (R196, R197): the program of a word completes; with none in flight nothing happens (log 2).
-/
def execCharterProgramCompletion (s : State) : Host.Outcome State Fault Refusal :=
  .next (whileRunning State.completeProgram s)

/-- LOCK_COMPLETION (R198): the lock completes; with none in flight nothing happens (log 2). -/
def execLockCompletion (s : State) : Host.Outcome State Fault Refusal :=
  .next (whileRunning State.completeLock s)

/-- HOST_LINE_COMPLETE (R180 to R182): a terminator received after these characters; a line of spaces alone is ignored. -/
def execHostLineComplete (chars : List RxChar) (s : State) : Host.Outcome State Fault Refusal :=
  .next (
    match receiveLine chars with
    | some line => s.offerLine line
    | none => s)

/-- REPLY_SENT (R182): the last character of the reply of the line in service has been sent. -/
def execReplySent (s : State) : Host.Outcome State Fault Refusal :=
  .next (whileRunning State.replySent s)

/-- CALENDAR_STEP (R1): one second; it goes on in reset and without VDD while VBAK holds (R1, R205). -/
def execCalendarStep (s : State) : Host.Outcome State Fault Refusal :=
  .next (s.calendarStep)

/-- ALIGNMENT_COMPLETION (R11): the completion of the alignment in flight; with none in flight nothing happens (log 2). -/
def execAlignmentCompletion (s : State) : Host.Outcome State Fault Refusal :=
  .next (whileRunning (fun s => if s.calendar.valid && s.calendar.aligning then s.completeAlignment else s) s)

/-- MARK_SENT (R116): a MARK has been sent whole on a feeder. -/
def execMarkSent (f : Feeder) (s : State) : Host.Outcome State Fault Refusal :=
  .next (whileRunning (fun s => s.markSent f) s)

/-- GUARD_END (R117): the guard wait on a feeder ends. -/
def execGuardEnd (f : Feeder) (s : State) : Host.Outcome State Fault Refusal :=
  .next (whileRunning (fun s => s.guardEnd f) s)

/-- RESPONSE_TIMEOUT (R121): the wait of a try runs out, while a frame is being received or not (log 14). -/
def execResponseTimeout (f : Feeder) (receiving : Bool) (s : State) : Host.Outcome State Fault Refusal :=
  .next (whileRunning (fun s => s.responseTimeout f receiving) s)

/-- FEEDER_FRAME_RECEIVED (R114): a frame of the length of its kind has been received on a feeder, while the engine drives
its own frame or not (log 15). -/
def execFeederFrameReceived (l : FeederLine) (bytes : List Byte) (s : State) : Host.Outcome State Fault Refusal :=
  .next (whileRunning (fun s => s.receiveFrame l bytes) s)

/-- FEEDER_IDLE_GAP (R112): a gap ends a frame short, or the run of bytes after an unknown kind, while the engine drives its
own frame or not (log 15). -/
def execFeederIdleGap (l : FeederLine) (s : State) : Host.Outcome State Fault Refusal :=
  .next (whileRunning (fun s => s.idleGap l) s)

/-- SNAPSHOT_DELIVERY (R53 to R55, R185): the delivery that waits longest is granted the array, when nothing of higher
priority waits for it (log 6); with none nothing happens (log 2). -/
def execSnapshotDelivery (s : State) : Host.Outcome State Fault Refusal :=
  .next (whileRunning (fun s => s.atGrant .intake false State.grantDelivery) s)

/-- SETTLING_START (R68, R69, R185): the engine is granted the array and takes the oldest DUE book, when the start conditions
hold (log 9). -/
def execSettlingStart (s : State) : Host.Outcome State Fault Refusal :=
  .next (whileRunning (fun s => s.atGrant .engine false State.startSettling) s)

/-- POSTING_ATTEMPT (R89 to R93, R185): the computation in flight ends, the engine is granted the array ahead of every other
requester, and its posting is attempted. -/
def execPostingAttempt (s : State) : Host.Outcome State Fault Refusal :=
  .next (whileRunning (fun s => s.atGrant .engine true State.attemptPosting) s)

/-- PLANT_FRAME_RECEIVED (R137 to R139): a complete plant frame. -/
def execPlantFrameReceived (bytes : List Byte) (s : State) : Host.Outcome State Fault Refusal :=
  .next (whileRunning (fun s => s.plantFrame bytes) s)

/-- PLANT_IDLE_GAP (R137): a gap ends a plant frame short, or the run of bytes after a wrong frame code. -/
def execPlantIdleGap (s : State) : Host.Outcome State Fault Refusal :=
  .next (whileRunning State.plantGap s)

/-- STALE_TIMER_EXPIRY (R140, R145): the stale timer runs out. -/
def execStaleTimerExpiry (s : State) : Host.Outcome State Fault Refusal :=
  .next (whileRunning State.goStale s)

/-- DWELL_END (R174): the dwell of the page shown ends (log 17). -/
def execDwellEnd (s : State) : Host.Outcome State Fault Refusal :=
  .next (whileRunning (fun s => s.withDisplay s.display.endDwell) s)

/-- BLANK_DWELL_END (R177): the blank dwell ends (log 17). -/
def execBlankDwellEnd (s : State) : Host.Outcome State Fault Refusal :=
  .next (whileRunning (fun s => s.withDisplay s.display.endBlank) s)

/-- PAGE_LATCH (R171, R185): the page fetch that waits is granted the array, when nothing of higher priority waits for it
(log 6). -/
def execPageLatch (s : State) : Host.Outcome State Fault Refusal :=
  .next (whileRunning (fun s => s.atGrant .display false State.latchPage) s)

/-- SUPPLY_WARNING (R202, R203): the monitor enters WARNING; in WARNING nothing happens (log 17). -/
def execSupplyWarning (s : State) : Host.Outcome State Fault Refusal :=
  .next (whileRunning (fun s => if s.supply.warning then s else s.enterWarning) s)

/-- SUPPLY_GOOD (R202, R204): the monitor returns to GOOD; in GOOD nothing happens (log 17). -/
def execSupplyGood (s : State) : Host.Outcome State Fault Refusal :=
  .next (whileRunning (fun s => if s.supply.warning then s.leaveWarning else s) s)

/-- RESET_PIN_ASSERT (R205): an assertion of the RESET pin. -/
def execResetPinAssert (s : State) : Host.Outcome State Fault Refusal :=
  .next (s.assertReset)

/-- RESET_PIN_RELEASE (R206): the pin is released, with the straps as they are read. -/
def execResetPinRelease (mode : ModeStrap) (rate : Rate) (s : State) : Host.Outcome State Fault Refusal :=
  .next (s.releaseReset mode rate)

/-- POWER_LOSS (R202, R205): VDD falls below 2.50 V. -/
def execPowerLoss (s : State) : Host.Outcome State Fault Refusal :=
  .next (s.losePower)

/-- POWER_ON (R2, R206): VDD has risen; whether VBAK held the calendar, and the straps as they are read if start-up begins
now. -/
def execPowerOn (vbakHeld : Bool) (mode : ModeStrap) (rate : Rate) (s : State) : Host.Outcome State Fault Refusal :=
  .next (s.powerOn vbakHeld mode rate)

/-- STARTUP_END (R206): the end of start-up, its events in the order given (log 8). -/
def execStartupEnd (order : List StartEvent) (s : State) : Host.Outcome State Fault Refusal :=
  .next (if s.power.phase = .starting then s.endStartup order else s)

/-- VDD_SAMPLE (R202): one sample of VDD. -/
def execVddSample (low : Bool) (s : State) : Host.Outcome State Fault Refusal :=
  .next (whileRunning (fun s => if low then s.lowSample else s.goodSample) s)

/-- FRAME_END (R174, R177): a display frame ends. -/
def execFrameEnd (s : State) : Host.Outcome State Fault Refusal :=
  .next (whileRunning (fun s => s.withDisplay s.display.endFrame) s)

/-- REQUEST_SENT (R121): a request frame has been sent whole on a feeder. -/
def execRequestSent (f : Feeder) (s : State) : Host.Outcome State Fault Refusal :=
  .next (whileRunning (fun s => s.requestSent f) s)

end Sys2Proof.Machine
end

