-- ==== Sys2Proof/Machine/RequestCommands.lean ====
section
/-! DEFINITION. The meanings of the host's requests: each is the request's line being served by its owning block (log 4). -/

namespace Sys2Proof.Machine

/-- CLKREAD (R12). -/
def execClkread (args : List Tok) (s : State) : Host.Outcome State Fault Refusal :=
  .next (s.requestCommand .CLKREAD args (serveClkread args s))

/-- CLKSET (R8). -/
def execClkset (args : List Tok) (s : State) : Host.Outcome State Fault Refusal :=
  .next (s.requestCommand .CLKSET args (serveClkset args s))

/-- CLKALIGN (R10). -/
def execClkalign (args : List Tok) (s : State) : Host.Outcome State Fault Refusal :=
  .next (s.requestCommand .CLKALIGN args (serveClkalign args s))

/-- BANDSET (R14). -/
def execBandset (args : List Tok) (s : State) : Host.Outcome State Fault Refusal :=
  .next (s.requestCommand .BANDSET args (serveBandset args s))

/-- BANDREAD (R14). -/
def execBandread (args : List Tok) (s : State) : Host.Outcome State Fault Refusal :=
  .next (s.requestCommand .BANDREAD args (serveBandread args s))

/-- PRICESET (R17). -/
def execPriceset (args : List Tok) (s : State) : Host.Outcome State Fault Refusal :=
  .next (s.requestCommand .PRICESET args (servePriceset args s))

/-- PRICEREAD (R17). -/
def execPriceread (args : List Tok) (s : State) : Host.Outcome State Fault Refusal :=
  .next (s.requestCommand .PRICEREAD args (servePriceread args s))

/-- HHENROL (R24). -/
def execHhenrol (args : List Tok) (s : State) : Host.Outcome State Fault Refusal :=
  .next (s.requestCommand .HHENROL args (serveHhenrol args s))

/-- HHEDIT (R25). -/
def execHhedit (args : List Tok) (s : State) : Host.Outcome State Fault Refusal :=
  .next (s.requestCommand .HHEDIT args (serveHhedit args s))

/-- HHREAD (R27). -/
def execHhread (args : List Tok) (s : State) : Host.Outcome State Fault Refusal :=
  .next (s.requestCommand .HHREAD args (serveHhread args s))

/-- HHSUSPEND (R28). -/
def execHhsuspend (args : List Tok) (s : State) : Host.Outcome State Fault Refusal :=
  .next (s.requestCommand .HHSUSPEND args (serveHhsuspend args s))

/-- HHRESUME (R29). -/
def execHhresume (args : List Tok) (s : State) : Host.Outcome State Fault Refusal :=
  .next (s.requestCommand .HHRESUME args (serveHhresume args s))

/-- HHREBASE (R30). -/
def execHhrebase (args : List Tok) (s : State) : Host.Outcome State Fault Refusal :=
  .next (s.requestCommand .HHREBASE args (serveHhrebase args s))

/-- HHWITHDRAW (R31). -/
def execHhwithdraw (args : List Tok) (s : State) : Host.Outcome State Fault Refusal :=
  .next (s.requestCommand .HHWITHDRAW args (serveHhwithdraw args s))

/-- TOPUP (R38). -/
def execTopup (args : List Tok) (s : State) : Host.Outcome State Fault Refusal :=
  .next (s.requestCommand .TOPUP args (serveTopup args s))

/-- ADJUST (R39). -/
def execAdjust (args : List Tok) (s : State) : Host.Outcome State Fault Refusal :=
  .next (s.requestCommand .ADJUST args (serveAdjust args s))

/-- FUND (R40). -/
def execFund (args : List Tok) (s : State) : Host.Outcome State Fault Refusal :=
  .next (s.requestCommand .FUND args (serveFund args s))

/-- FUNDREAD (R40). -/
def execFundread (args : List Tok) (s : State) : Host.Outcome State Fault Refusal :=
  .next (s.requestCommand .FUNDREAD args (serveFundread args s))

/-- BOOKS (R65). -/
def execBooks (args : List Tok) (s : State) : Host.Outcome State Fault Refusal :=
  .next (s.requestCommand .BOOKS args (serveBooks args s))

/-- BOOKREAD (R66). -/
def execBookread (args : List Tok) (s : State) : Host.Outcome State Fault Refusal :=
  .next (s.requestCommand .BOOKREAD args (serveBookread args s))

/-- CLOSENOW (R52). -/
def execClosenow (args : List Tok) (s : State) : Host.Outcome State Fault Refusal :=
  .next (s.requestCommand .CLOSENOW args (serveClosenow args s))

/-- SUBSET (R58). -/
def execSubset (args : List Tok) (s : State) : Host.Outcome State Fault Refusal :=
  .next (s.requestCommand .SUBSET args (serveSubset args s))

/-- SUBOFF (R59). -/
def execSuboff (args : List Tok) (s : State) : Host.Outcome State Fault Refusal :=
  .next (s.requestCommand .SUBOFF args (serveSuboff args s))

/-- SUBCLR (R60). -/
def execSubclr (args : List Tok) (s : State) : Host.Outcome State Fault Refusal :=
  .next (s.requestCommand .SUBCLR args (serveSubclr args s))

/-- SUBREAD (R59). -/
def execSubread (args : List Tok) (s : State) : Host.Outcome State Fault Refusal :=
  .next (s.requestCommand .SUBREAD args (serveSubread args s))

/-- JREAD (R103). -/
def execJread (args : List Tok) (s : State) : Host.Outcome State Fault Refusal :=
  .next (s.requestCommand .JREAD args (serveJread args s))

/-- JRELEASE (R104). -/
def execJrelease (args : List Tok) (s : State) : Host.Outcome State Fault Refusal :=
  .next (s.requestCommand .JRELEASE args (serveJrelease args s))

/-- JSTAT (R105). -/
def execJstat (args : List Tok) (s : State) : Host.Outcome State Fault Refusal :=
  .next (s.requestCommand .JSTAT args (serveJstat args s))

/-- FEEDER (R133). -/
def execFeeder (args : List Tok) (s : State) : Host.Outcome State Fault Refusal :=
  .next (s.requestCommand .FEEDER args (serveFeeder args s))

/-- FDRFORCE (R134). -/
def execFdrforce (args : List Tok) (s : State) : Host.Outcome State Fault Refusal :=
  .next (s.requestCommand .FDRFORCE args (serveFdrforce args s))

/-- FDRTIMING (R135). -/
def execFdrtiming (args : List Tok) (s : State) : Host.Outcome State Fault Refusal :=
  .next (s.requestCommand .FDRTIMING args (serveFdrtiming args s))

/-- RESREAD (R154). -/
def execResread (args : List Tok) (s : State) : Host.Outcome State Fault Refusal :=
  .next (s.requestCommand .RESREAD args (serveResread args s))

/-- RESCFG (R153). -/
def execRescfg (args : List Tok) (s : State) : Host.Outcome State Fault Refusal :=
  .next (s.requestCommand .RESCFG args (serveRescfg args s))

/-- RELAY (R165). -/
def execRelay (args : List Tok) (s : State) : Host.Outcome State Fault Refusal :=
  .next (s.requestCommand .RELAY args (serveRelay args s))

/-- RLYCFG (R166). -/
def execRlycfg (args : List Tok) (s : State) : Host.Outcome State Fault Refusal :=
  .next (s.requestCommand .RLYCFG args (serveRlycfg args s))

/-- DISPCFG (R177). -/
def execDispcfg (args : List Tok) (s : State) : Host.Outcome State Fault Refusal :=
  .next (s.requestCommand .DISPCFG args (serveDispcfg args s))

/-- DISPREAD (R179). -/
def execDispread (args : List Tok) (s : State) : Host.Outcome State Fault Refusal :=
  .next (s.requestCommand .DISPREAD args (serveDispread args s))

/-- IDENT (R186). -/
def execIdent (args : List Tok) (s : State) : Host.Outcome State Fault Refusal :=
  .next (s.requestCommand .IDENT args (serveIdent args s))

/-- STATUS (R187). -/
def execStatus (args : List Tok) (s : State) : Host.Outcome State Fault Refusal :=
  .next (s.requestCommand .STATUS args (serveStatus args s))

/-- NOTICES (R189). -/
def execNotices (args : List Tok) (s : State) : Host.Outcome State Fault Refusal :=
  .next (s.requestCommand .NOTICES args (serveNotices args s))

/-- NOTACK (R190). -/
def execNotack (args : List Tok) (s : State) : Host.Outcome State Fault Refusal :=
  .next (s.requestCommand .NOTACK args (serveNotack args s))

/-- NOTMASK (R191). -/
def execNotmask (args : List Tok) (s : State) : Host.Outcome State Fault Refusal :=
  .next (s.requestCommand .NOTMASK args (serveNotmask args s))

/-- CHRREAD (R195). -/
def execChrread (args : List Tok) (s : State) : Host.Outcome State Fault Refusal :=
  .next (s.requestCommand .CHRREAD args (serveChrread args s))

/-- CHRPROG (R196). -/
def execChrprog (args : List Tok) (s : State) : Host.Outcome State Fault Refusal :=
  .next (s.requestCommand .CHRPROG args (serveChrprog args s))

/-- CHRLOCK (R198). -/
def execChrlock (args : List Tok) (s : State) : Host.Outcome State Fault Refusal :=
  .next (s.requestCommand .CHRLOCK args (serveChrlock args s))

/-- WIPE (R201). -/
def execWipe (args : List Tok) (s : State) : Host.Outcome State Fault Refusal :=
  .next (s.requestCommand .WIPE args (serveWipe args s))

end Sys2Proof.Machine
end

