-- ==== Sys2Proof/Machine/Dispatch.lean ====
section
/-! DEFINITION. One arm per command, each one direct call of its meaning. -/

namespace Sys2Proof.Machine

/-- The effect of a command on everything but the queue. -/
def exec (i : Instr) (s : State) : Host.Outcome State Fault Refusal :=
  match i with
  | .clkread args => Sys2Proof.Machine.execClkread args s
  | .clkset args => Sys2Proof.Machine.execClkset args s
  | .clkalign args => Sys2Proof.Machine.execClkalign args s
  | .bandset args => Sys2Proof.Machine.execBandset args s
  | .bandread args => Sys2Proof.Machine.execBandread args s
  | .priceset args => Sys2Proof.Machine.execPriceset args s
  | .priceread args => Sys2Proof.Machine.execPriceread args s
  | .hhenrol args => Sys2Proof.Machine.execHhenrol args s
  | .hhedit args => Sys2Proof.Machine.execHhedit args s
  | .hhread args => Sys2Proof.Machine.execHhread args s
  | .hhsuspend args => Sys2Proof.Machine.execHhsuspend args s
  | .hhresume args => Sys2Proof.Machine.execHhresume args s
  | .hhrebase args => Sys2Proof.Machine.execHhrebase args s
  | .hhwithdraw args => Sys2Proof.Machine.execHhwithdraw args s
  | .topup args => Sys2Proof.Machine.execTopup args s
  | .adjust args => Sys2Proof.Machine.execAdjust args s
  | .fund args => Sys2Proof.Machine.execFund args s
  | .fundread args => Sys2Proof.Machine.execFundread args s
  | .books args => Sys2Proof.Machine.execBooks args s
  | .bookread args => Sys2Proof.Machine.execBookread args s
  | .closenow args => Sys2Proof.Machine.execClosenow args s
  | .subset args => Sys2Proof.Machine.execSubset args s
  | .suboff args => Sys2Proof.Machine.execSuboff args s
  | .subclr args => Sys2Proof.Machine.execSubclr args s
  | .subread args => Sys2Proof.Machine.execSubread args s
  | .jread args => Sys2Proof.Machine.execJread args s
  | .jrelease args => Sys2Proof.Machine.execJrelease args s
  | .jstat args => Sys2Proof.Machine.execJstat args s
  | .feeder args => Sys2Proof.Machine.execFeeder args s
  | .fdrforce args => Sys2Proof.Machine.execFdrforce args s
  | .fdrtiming args => Sys2Proof.Machine.execFdrtiming args s
  | .resread args => Sys2Proof.Machine.execResread args s
  | .rescfg args => Sys2Proof.Machine.execRescfg args s
  | .relay args => Sys2Proof.Machine.execRelay args s
  | .rlycfg args => Sys2Proof.Machine.execRlycfg args s
  | .dispcfg args => Sys2Proof.Machine.execDispcfg args s
  | .dispread args => Sys2Proof.Machine.execDispread args s
  | .ident args => Sys2Proof.Machine.execIdent args s
  | .status args => Sys2Proof.Machine.execStatus args s
  | .notices args => Sys2Proof.Machine.execNotices args s
  | .notack args => Sys2Proof.Machine.execNotack args s
  | .notmask args => Sys2Proof.Machine.execNotmask args s
  | .chrread args => Sys2Proof.Machine.execChrread args s
  | .chrprog args => Sys2Proof.Machine.execChrprog args s
  | .chrlock args => Sys2Proof.Machine.execChrlock args s
  | .wipe args => Sys2Proof.Machine.execWipe args s
  | .charterProgramCompletion => Sys2Proof.Machine.execCharterProgramCompletion s
  | .lockCompletion => Sys2Proof.Machine.execLockCompletion s
  | .hostLineComplete chars => Sys2Proof.Machine.execHostLineComplete chars s
  | .replySent => Sys2Proof.Machine.execReplySent s
  | .calendarStep => Sys2Proof.Machine.execCalendarStep s
  | .alignmentCompletion => Sys2Proof.Machine.execAlignmentCompletion s
  | .markSent f => Sys2Proof.Machine.execMarkSent f s
  | .guardEnd f => Sys2Proof.Machine.execGuardEnd f s
  | .responseTimeout f receiving => Sys2Proof.Machine.execResponseTimeout f receiving s
  | .feederFrameReceived f bytes => Sys2Proof.Machine.execFeederFrameReceived f bytes s
  | .feederIdleGap f => Sys2Proof.Machine.execFeederIdleGap f s
  | .snapshotDelivery => Sys2Proof.Machine.execSnapshotDelivery s
  | .settlingStart => Sys2Proof.Machine.execSettlingStart s
  | .postingAttempt => Sys2Proof.Machine.execPostingAttempt s
  | .plantFrameReceived bytes => Sys2Proof.Machine.execPlantFrameReceived bytes s
  | .plantIdleGap => Sys2Proof.Machine.execPlantIdleGap s
  | .staleTimerExpiry => Sys2Proof.Machine.execStaleTimerExpiry s
  | .dwellEnd => Sys2Proof.Machine.execDwellEnd s
  | .blankDwellEnd => Sys2Proof.Machine.execBlankDwellEnd s
  | .pageLatch => Sys2Proof.Machine.execPageLatch s
  | .supplyWarning => Sys2Proof.Machine.execSupplyWarning s
  | .supplyGood => Sys2Proof.Machine.execSupplyGood s
  | .resetPinAssert => Sys2Proof.Machine.execResetPinAssert s
  | .resetPinRelease mode rate => Sys2Proof.Machine.execResetPinRelease mode rate s
  | .powerLoss => Sys2Proof.Machine.execPowerLoss s
  | .powerOn vbakHeld mode rate => Sys2Proof.Machine.execPowerOn vbakHeld mode rate s
  | .startupEnd order => Sys2Proof.Machine.execStartupEnd order s
  | .vddSample low => Sys2Proof.Machine.execVddSample low s
  | .frameEnd => Sys2Proof.Machine.execFrameEnd s
  | .requestSent f => Sys2Proof.Machine.execRequestSent f s

end Sys2Proof.Machine
end

