-- ==== Sys2Proof/WellFormed.lean ====
section
/-! DEFINITION. Which operands a command can have: a request whose line the host can write (R180, R181, R183), characters
that end no line (R180), frames that are whole (R112, R137), and an order of events that names none twice (R206). -/

namespace Sys2Proof

open Sys2Proof.Machine

/-- A character of a word as the receiver keeps it: printable, no space, no small letter (R180, R183). -/
def wordChar (c : Char) : Bool := 33 ≤ c.toNat && c.toNat ≤ 126 && capital c = c

/-- A word that the host can write: its text is read back as the same word (R180, R183). -/
def Tok.wellFormed (t : Tok) : Bool := tokText t ≠ [] && (tokText t).all wordChar && readWord (tokText t) = t

/-- A request's line fits in the line buffer, and each of its words can be written (R181, R183). -/
def requestWellFormed (r : Req) (args : List Tok) : Bool :=
  args.all Tok.wellFormed && (lineText r args).length ≤ Config.maxLineLength

/-- A character that ends a line (R180). A CR or LF whose stop bit is low is a bad character of the line and ends none
(log 43). -/
def RxChar.terminates (c : RxChar) : Bool := c.stopHigh && (c.code = 13 || c.code = 10)

/-- A frame of the length that its kind fixes, its second byte (R112, R114). -/
def feederFrameWhole (bytes : List Byte) : Bool :=
  match bytes with
  | _ :: kind :: _ => frameLength kind = some bytes.length
  | _ => false

/-- A plant frame is whole at 12 bytes, its first byte the frame code (R137). -/
def plantFrameWhole (bytes : List Byte) : Bool :=
  match bytes with
  | code :: _ => code = Config.plantCode && bytes.length = 12
  | [] => false

/-- The request that a command stands for, with its words. -/
def Instr.request : Instr → Option (Req × List Tok)
  | .clkread args => some (.CLKREAD, args)
  | .clkset args => some (.CLKSET, args)
  | .clkalign args => some (.CLKALIGN, args)
  | .bandset args => some (.BANDSET, args)
  | .bandread args => some (.BANDREAD, args)
  | .priceset args => some (.PRICESET, args)
  | .priceread args => some (.PRICEREAD, args)
  | .hhenrol args => some (.HHENROL, args)
  | .hhedit args => some (.HHEDIT, args)
  | .hhread args => some (.HHREAD, args)
  | .hhsuspend args => some (.HHSUSPEND, args)
  | .hhresume args => some (.HHRESUME, args)
  | .hhrebase args => some (.HHREBASE, args)
  | .hhwithdraw args => some (.HHWITHDRAW, args)
  | .topup args => some (.TOPUP, args)
  | .adjust args => some (.ADJUST, args)
  | .fund args => some (.FUND, args)
  | .fundread args => some (.FUNDREAD, args)
  | .books args => some (.BOOKS, args)
  | .bookread args => some (.BOOKREAD, args)
  | .closenow args => some (.CLOSENOW, args)
  | .subset args => some (.SUBSET, args)
  | .suboff args => some (.SUBOFF, args)
  | .subclr args => some (.SUBCLR, args)
  | .subread args => some (.SUBREAD, args)
  | .jread args => some (.JREAD, args)
  | .jrelease args => some (.JRELEASE, args)
  | .jstat args => some (.JSTAT, args)
  | .feeder args => some (.FEEDER, args)
  | .fdrforce args => some (.FDRFORCE, args)
  | .fdrtiming args => some (.FDRTIMING, args)
  | .resread args => some (.RESREAD, args)
  | .rescfg args => some (.RESCFG, args)
  | .relay args => some (.RELAY, args)
  | .rlycfg args => some (.RLYCFG, args)
  | .dispcfg args => some (.DISPCFG, args)
  | .dispread args => some (.DISPREAD, args)
  | .ident args => some (.IDENT, args)
  | .status args => some (.STATUS, args)
  | .notices args => some (.NOTICES, args)
  | .notack args => some (.NOTACK, args)
  | .notmask args => some (.NOTMASK, args)
  | .chrread args => some (.CHRREAD, args)
  | .chrprog args => some (.CHRPROG, args)
  | .chrlock args => some (.CHRLOCK, args)
  | .wipe args => some (.WIPE, args)
  | .charterProgramCompletion => none
  | .lockCompletion => none
  | .hostLineComplete _ => none
  | .replySent => none
  | .calendarStep => none
  | .alignmentCompletion => none
  | .markSent _ => none
  | .guardEnd _ => none
  | .responseTimeout _ _ => none
  | .feederFrameReceived _ _ => none
  | .feederIdleGap _ => none
  | .snapshotDelivery => none
  | .settlingStart => none
  | .postingAttempt => none
  | .plantFrameReceived _ => none
  | .plantIdleGap => none
  | .staleTimerExpiry => none
  | .dwellEnd => none
  | .blankDwellEnd => none
  | .pageLatch => none
  | .supplyWarning => none
  | .supplyGood => none
  | .resetPinAssert => none
  | .resetPinRelease _ _ => none
  | .powerLoss => none
  | .powerOn _ _ _ => none
  | .startupEnd _ => none
  | .vddSample _ => none
  | .frameEnd => none
  | .requestSent _ => none

/-- The command of a request with its words. -/
def instrOf (r : Req) (args : List Tok) : Instr :=
  match r with
  | .CLKREAD => .clkread args
  | .CLKSET => .clkset args
  | .CLKALIGN => .clkalign args
  | .BANDSET => .bandset args
  | .BANDREAD => .bandread args
  | .PRICESET => .priceset args
  | .PRICEREAD => .priceread args
  | .HHENROL => .hhenrol args
  | .HHEDIT => .hhedit args
  | .HHREAD => .hhread args
  | .HHSUSPEND => .hhsuspend args
  | .HHRESUME => .hhresume args
  | .HHREBASE => .hhrebase args
  | .HHWITHDRAW => .hhwithdraw args
  | .TOPUP => .topup args
  | .ADJUST => .adjust args
  | .FUND => .fund args
  | .FUNDREAD => .fundread args
  | .BOOKS => .books args
  | .BOOKREAD => .bookread args
  | .CLOSENOW => .closenow args
  | .SUBSET => .subset args
  | .SUBOFF => .suboff args
  | .SUBCLR => .subclr args
  | .SUBREAD => .subread args
  | .JREAD => .jread args
  | .JRELEASE => .jrelease args
  | .JSTAT => .jstat args
  | .FEEDER => .feeder args
  | .FDRFORCE => .fdrforce args
  | .FDRTIMING => .fdrtiming args
  | .RESREAD => .resread args
  | .RESCFG => .rescfg args
  | .RELAY => .relay args
  | .RLYCFG => .rlycfg args
  | .DISPCFG => .dispcfg args
  | .DISPREAD => .dispread args
  | .IDENT => .ident args
  | .STATUS => .status args
  | .NOTICES => .notices args
  | .NOTACK => .notack args
  | .NOTMASK => .notmask args
  | .CHRREAD => .chrread args
  | .CHRPROG => .chrprog args
  | .CHRLOCK => .chrlock args
  | .WIPE => .wipe args

/-- A command whose operands can arise. The machine is total: an ill-formed command has a meaning too. -/
def Instr.wellFormed (i : Instr) : Bool :=
  match i.request with
  | some (r, args) => requestWellFormed r args
  | none =>
    match i with
    | .hostLineComplete chars => !chars.any RxChar.terminates
    | .feederFrameReceived _ bytes => feederFrameWhole bytes
    | .plantFrameReceived bytes => plantFrameWhole bytes
    | .startupEnd order => decide order.Nodup
    | _ => true

end Sys2Proof
end

