-- ==== Sys2Proof/Safety.lean ====
section
/-! DEFINITION. What a sound state of the S296 is, block by block, in the terms that the statements use, when a request can
be served, and the forms that its words may have. -/

namespace Sys2Proof.Machine

/-! ## Serving a request -/

/-- The part runs, a request's line is the one to serve (no line is in service, or this one has been taken and is not yet
served), and nothing waits ahead of it for the array, when it reaches the array (R182, R185, log 4, log 6). -/
def State.serves (s : State) (r : Req) (args : List Tok) : Prop :=
  s.power.phase = .running ∧
    (s.host.inService = none ∨ s.host.inService = some { line := .request r args, stage := .taken }) ∧
    s.mayServe r args = true

/-- The state with a request's line in service and its reply being sent (R182). -/
def State.answering (s : State) (r : Req) (args : List Tok) (reply : Reply) : State :=
  { s with host := { s.host with inService := some { line := .request r args, stage := .replying reply } } }

/-- The state with a request's line in service and its reply waiting for a charter program (R196). -/
def State.awaiting (s : State) (r : Req) (args : List Tok) : State :=
  { s with host := { s.host with inService := some { line := .request r args, stage := .programming } } }

/-- The requests that the state UNCOMMISSIONED serves (R200). -/
def servedUncommissioned : List Req :=
  [.IDENT, .STATUS, .NOTICES, .NOTACK, .CHRREAD, .CLKREAD, .BANDREAD, .PRICEREAD]

/-- The requests that write nonvolatile state in every form (R7, R23, R56, R102, R132, R153, R164, R175, R196, R198, R201). -/
def writingRequests : List Req :=
  [.CLKSET, .CLKALIGN, .BANDSET, .PRICESET, .HHENROL, .HHEDIT, .HHSUSPEND, .HHRESUME, .HHREBASE, .HHWITHDRAW, .TOPUP,
    .ADJUST, .FUND, .CLOSENOW, .SUBSET, .SUBOFF, .SUBCLR, .JRELEASE, .FDRTIMING, .RESCFG, .RELAY, .DISPCFG, .CHRPROG,
    .CHRLOCK, .WIPE]

/-- The requests that write nonvolatile state: those above, RLYCFG and NOTMASK with words (R164, R191). -/
def writes (r : Req) (args : List Tok) : Bool :=
  r ∈ writingRequests || (decide (r = .RLYCFG ∨ r = .NOTMASK) && args ≠ [])

/-- The requests that only report (00, Requests at a glance). -/
def readingRequests : List Req :=
  [.CLKREAD, .BANDREAD, .PRICEREAD, .HHREAD, .FUNDREAD, .BOOKS, .BOOKREAD, .SUBREAD, .JREAD, .JSTAT, .FEEDER, .RESREAD,
    .DISPREAD, .IDENT, .STATUS, .NOTICES, .CHRREAD]

/-! ## The words of a request -/

/-- What a word of a request must be: a number, one of some keywords, either of the two, or a weekday set (R14, R183). -/
inductive WordForm
  | number
  | oneOf (ks : List Kw)
  | numberOr (ks : List Kw)
  | weekdays
  deriving DecidableEq, Repr

/-- A word has a form (R14, R183). -/
def WordForm.fits : WordForm → Tok → Bool
  | .number, .num _ => true
  | .oneOf ks, .kw k => k ∈ ks
  | .numberOr _, .num _ => true
  | .numberOr ks, .kw k => k ∈ ks
  | .weekdays, .days _ => true
  | .weekdays, .kw k => k = .ALL || k = .NONE
  | _, _ => false

/-- Words one by one in their forms, and no word more or less. -/
def fitsWords : List WordForm → List Tok → Bool
  | [], [] => true
  | f :: fs, t :: ts => f.fits t && fitsWords fs ts
  | _, _ => false

/-- The forms in which a request takes words of fixed places; none for those that take pairs (the rules of each request). -/
def wordForms : Req → List (List WordForm)
  | .BANDSET => [[.number, .oneOf [.ON], .weekdays, .number, .number], [.number, .oneOf [.OFF]]]
  | .CLKSET => [List.replicate 6 .number]
  | .PRICESET => [List.replicate 7 .number]
  | .SUBSET => [List.replicate 4 .number]
  | .HHENROL =>
    [[.number, .oneOf [.A, .B], .number, .number, .number, .oneOf [.AUTO, .HOLD_CLOSED, .MANUAL], .oneOf [.YES, .NO]]]
  | .BANDREAD | .PRICEREAD | .HHREAD | .CHRREAD => [[.number], [.oneOf [.ALL]]]
  | .HHSUSPEND | .HHRESUME | .HHREBASE | .HHWITHDRAW | .FUND | .JRELEASE => [[.number]]
  | .TOPUP | .ADJUST | .SUBOFF | .SUBCLR | .CHRPROG => [[.number, .number]]
  | .BOOKREAD => [[.number], [.number, .number]]
  | .JREAD => [[.number], [.oneOf [.OLDEST]]]
  | .FEEDER => [[.oneOf [.A, .B, .ALL]], [.oneOf [.A, .B], .oneOf [.QUEUE]]]
  | .FDRFORCE => [[.oneOf [.A, .B], .oneOf [.ON, .OFF]]]
  | .FDRTIMING => [[.oneOf [.A, .B], .number, .number]]
  | .RESREAD => [[], [.oneOf [.CFG]]]
  | .RELAY => [[.number, .oneOf [.OPEN, .CLOSED]]]
  | .RLYCFG => [[], [.oneOf [.MARGIN], .number]]
  | .NOTICES => [[], [.oneOf [.ALL]]]
  | .CLKREAD | .CLKALIGN | .FUNDREAD | .BOOKS | .CLOSENOW | .SUBREAD | .JSTAT | .DISPREAD | .IDENT | .STATUS | .NOTMASK
  | .CHRLOCK | .WIPE => [[]]
  | .HHEDIT | .RESCFG | .DISPCFG | .NOTACK => []

/-- The form of the value that a request takes with a keyword, for those that take pairs (R25, R153, R175, R190, R191). -/
def valueForm (r : Req) (k : Kw) : Option WordForm :=
  let named := noticeOrder.any fun n => n.kw = k
  match r with
  | .HHEDIT =>
    if k ∈ [.CAP, .FLOOR, .ADDR] then some .number
    else if k = .POLICY then some (.oneOf [.AUTO, .HOLD_CLOSED, .MANUAL])
    else if k = .SHOW then some (.oneOf [.YES, .NO])
    else if k = .FEEDER then some (.oneOf [.A, .B])
    else none
  | .RESCFG => if k ∈ [.SOCLOW, .SOCHYST, .FHIGH, .FHYST, .FMIN, .FMAX, .DIV, .COUNT] then some .number else none
  | .DISPCFG =>
    if k = .MODE then some (.oneOf [.OFF, .SCROLL, .HOLD])
    else if k ∈ [.RATE, .DWELL] then some .number
    else if k ∈ [.RESERVE, .CLOCK] then some (.oneOf [.ON, .OFF])
    else if k = .PAGE then some (.numberOr [.RESERVE, .CLOCK])
    else none
  | .NOTACK => if named then some .number else none
  | .NOTMASK => if named || k = .ALL then some (.oneOf [.ON, .OFF]) else none
  | _ => none

/-- Pairs of a keyword and its value, no keyword twice (R25, R153, R175, R190, R191); ALL of NOTMASK counts as a name
(log 45). -/
def fitsPairs (form : Kw → Option WordForm) (seen : List Kw) : List Tok → Bool
  | [] => seen ≠ []
  | .kw k :: v :: rest =>
    k ∉ seen && (form k).any (fun f => f.fits v) && fitsPairs form (k :: seen) rest
  | _ => false

/-- The words of a request have one of its forms; any others are answered NO SYNTAX (R183 and the rules of each request). -/
def wellWorded (r : Req) (args : List Tok) : Bool :=
  (wordForms r).any (fun fs => fitsWords fs args) ||
    match r, args with
    | .HHEDIT, .num _ :: rest => fitsPairs (valueForm r) [] rest
    | .HHEDIT, _ => false
    | _, _ => fitsPairs (valueForm r) [] args

/-! ## Dates -/

/-- Whole seconds from 2000-01-01 00:00:00. -/
def DateTime.seconds (t : DateTime) : Nat := t.minutes * 60 + t.second

/-- The highest boundary number of the range (R4). -/
def highestBoundary : Nat := 10519199

/-- The calendar holds a date-time of its range and a boundary number of its range; an alignment is in flight only while it
is VALID (section 1.1, R4, R10). -/
def State.calendarSound (s : State) : Prop :=
  validDateTime s.calendar.now = true ∧ s.calendar.bLast ≤ highestBoundary ∧
    (s.calendar.aligning = true → s.calendar.valid = true)

/-! ## Tariff, table, queues -/

/-- A price set held: the ordering and the ranges of R15. -/
def PriceSet.sound (p : PriceSet) : Prop := p.ordered = true ∧ p.plantScarcity ≤ 65535 ∧ p.levy ≤ 200

/-- A band entry held: its start minute and the one form of its weekday set (R13, R14). -/
def Band.sound (b : Band) : Prop := b.start ≤ 1439 ∧ b.weekdays = weekdaySet b.weekdays

/-- Every price set and band entry is sound (R13, R15). -/
def State.tariffSound (s : State) : Prop :=
  (∀ i : SetIx, s.tariff.sets[i].sound) ∧ ∀ e : BandIx, s.tariff.bands[e].sound

/-- The fields that are absent while VACANT are present in every other state, and a HOLD_CLOSED household's wanted state is
CLOSED (R20, R161). -/
def Household.sound (h : Household) : Prop :=
  (h.member = .vacant ↔ h.settings = none) ∧
    ∀ c, h.settings = some c → 1 ≤ c.addr ∧ c.addr ≤ 247 ∧ (c.policy = .holdClosed → h.wanted = .closed)

/-- Every household record is sound, and no two on one feeder share a meter address (R20, R21). -/
def State.tableSound (s : State) : Prop :=
  (∀ i : Slot, (s.household i).sound) ∧
    ∀ (i j : Slot) (c d : Settings), (s.household i).settings = some c → (s.household j).settings = some d →
      c.feeder = d.feeder → c.addr = d.addr → i = j

/-- A supply command queue: at most 16 entries, one for a slot (R128). -/
def queueSound (q : List QueueEntry) : Prop := q.length ≤ 16 ∧ (q.map QueueEntry.slot).Nodup

/-- Both queues are sound (R128). -/
def State.queuesSound (s : State) : Prop := queueSound s.feederA.queue ∧ queueSound s.feederB.queue

/-! ## Journal, substitutions, notices -/

/-- Numbers that follow one another (R96). -/
def consecutive : List Nat → Prop
  | a :: b :: rest => b = a + 1 ∧ consecutive (b :: rest)
  | _ => True

/-- The number that the next record takes fits the newest one held; EXHAUSTED only after 4,294,967,295 (R97). -/
def Journal.nextFits (j : Journal) : Prop :=
  match j.nextSeq with
  | some q => 1 ≤ q ∧ q ≤ 4294967295 ∧ ∀ r ∈ j.records.getLast?, r.seq + 1 = q
  | none => ∀ r ∈ j.records.getLast?, r.seq = 4294967295

/-- The journal: at most 64 records and 3072 lines, numbered consecutively, at most 96 lines in one (R96, R97). -/
def Journal.sound (j : Journal) : Prop :=
  j.records.length ≤ 64 ∧ j.lineCount ≤ 3072 ∧ consecutive (j.records.map JournalRecord.seq) ∧ j.nextFits ∧
    (∀ r ∈ j.records, 1 ≤ r.seq ∧ r.body.lineCount ≤ 96)

/-- The substitution table: at most 8 entries, no two with the same slot and boundary (R57). -/
def State.subsSound (s : State) : Prop :=
  s.store.subs.length ≤ 8 ∧ (s.store.subs.map fun e => (e.slot, e.boundary)).Nodup

/-- ATTN is high exactly while the part runs and a notice has its flag set and its mask ON; every count is below 256 (R188,
R192, R205). -/
def State.noticesSound (s : State) : Prop :=
  (s.notices.attn = true ↔
      s.power.phase = .running ∧ ∃ n : Notice, (s.notices.cell n).flag = true ∧ (s.notices.cell n).mask = true) ∧
    ∀ n : Notice, (s.notices.cell n).count ≤ 255

/-! ## Reserve watch -/

/-- Settings held: the ranges and constraints of R152. -/
def ReserveSettings.sound (c : ReserveSettings) : Prop :=
  c.socLow + c.socHyst ≤ 1000 ∧ c.fMin + c.fHyst < c.fHigh ∧ c.fHigh ≤ c.fMax ∧ c.fMax ≤ 65535 ∧ 1 ≤ c.fHyst ∧
    (c.divisor = 1 ∨ c.divisor = 2 ∨ c.divisor = 4 ∨ c.divisor = 8) ∧ 1 ≤ c.count ∧ c.count ≤ 8

/-- The counters of a watch: below K and N, and 0 in the states that do not use them (R136, R142 to R146). -/
def Reserve.countersSound (r : Reserve) : Prop :=
  r.position < r.settings.divisor ∧ r.scarcity < r.settings.count ∧ r.surplus < r.settings.count ∧
    r.leaving < r.settings.count ∧
    (r.state ≠ .live .normal → r.scarcity = 0 ∧ r.surplus = 0) ∧
    (r.state ≠ .live .scarce → r.state ≠ .live .surplus → r.leaving = 0)

/-- The reserve watch: legal settings, its counters and counts in their ranges, the stale timer running exactly outside STALE,
and the accumulator holding the flags of the present state (R136, R140, R149, R152). -/
def State.reserveSound (s : State) : Prop :=
  let r := s.reserve
  r.settings.sound ∧ r.countersSound ∧ (r.timer = none ↔ r.state.isStale = true) ∧
    (∀ v, r.last = some v → v.charge ≤ 1000) ∧
    (r.accepted ≤ 65535 ∧ r.bad ≤ 65535 ∧ r.repeats ≤ 65535 ∧ r.outOfRange ≤ 65535) ∧
    (r.state.effective = .scarce → r.flags.scarce = true) ∧ (r.state.effective = .surplus → r.flags.surplus = true) ∧
    (r.state.isStale = true → r.flags.stale = true)

/-! ## Charter -/

/-- A program in flight can only clear bits of an unlocked charter, and never touches the lock word (R193, R194, R196). -/
def State.charterSound (s : State) : Prop :=
  ∀ p, s.charter.program = some p →
    s.locked = false ∧ ∀ w value, p = .word w value → w ≠ 31 ∧ programmable s.charter.words[w] value = true

/-! ## Books and money -/

/-- A computation is in flight exactly when the oldest book is SETTLING, and then for that book; no other book is SETTLING
(R42, R67). -/
def State.settlingSound (s : State) : Prop :=
  match s.settlement.computation with
  | none => ∀ b ∈ s.store.books, b.isSettling = false
  | some c =>
    match s.store.books with
    | [] => False
    | b :: rest => b.isSettling = true ∧ b.boundary = c.boundary ∧ ∀ k ∈ rest, k.isSettling = false

/-- The book store: at most 6 books in rising boundary order, each given and with a span; held only in SERVICE, which is
exactly the state of a locked charter; a program in flight only in COMMISSIONING while the part runs (R42, R43, R49, R199). -/
def State.storeSound (s : State) : Prop :=
  s.store.books.length ≤ 6 ∧
    (s.store.books.map Book.boundary).Pairwise (fun a b => a < b) ∧
    (∀ b ∈ s.store.books, 1 ≤ b.boundary ∧ b.boundary ≤ s.calendar.bLast ∧ 1 ≤ b.span) ∧
    (s.store.books ≠ [] → s.service = .service) ∧
    (s.service = .service ↔ s.locked = true) ∧
    (∀ p, s.charter.program = some p →
      s.service = .commissioning ∧ s.power.phase = .running ∧ ∀ w value, p = .word w value → w ≠ 31) ∧
    s.settlingSound

/-- A held book concerns only households, and a computation in flight only slots that its book concerns (R22, R31, R69). -/
def State.concernsSound (s : State) : Prop :=
  (∀ b ∈ s.store.books, ∀ i : Slot, b.concerns i = true → (s.household i).member ≠ .vacant) ∧
    ∀ c, s.settlement.computation = some c → ∀ b ∈ s.store.books, b.boundary = c.boundary →
      ∀ i : Slot, c.slots[i].entry ≠ .excluded → b.concerns i = true

/-- Every microcredit is accounted for: the household balances and the fund sum to the injection total, a VACANT slot holding
none of it (R37). -/
def State.moneySound (s : State) : Prop :=
  s.balanceSum + s.fund = s.injection ∧ ∀ i : Slot, (s.household i).member = .vacant → (s.household i).balance = 0

/-- Every balance and the fund lie inside the balance limit (R20, R36). -/
def State.limitsSound (s : State) : Prop :=
  (∀ i : Slot, -140737488355327 ≤ (s.household i).balance ∧ (s.household i).balance ≤ 140737488355327) ∧
    -140737488355327 ≤ s.fund ∧ s.fund ≤ 140737488355327

/-- The households and levies held are within the bounds that these charter words put in effect (R15, R16, R21). -/
def State.fits (s : State) (words : Vector Word16 32) : Prop :=
  s.memberCount ≤ limitOf words[1].toNat ∧
    (∀ (i : Slot) (c : Settings), (s.household i).member ≠ .vacant → (s.household i).settings = some c →
      1 ≤ c.cap ∧ c.cap ≤ capCeilingOf words[4].toNat ∧ lowestFloorOf words[6].toNat ≤ c.floor ∧ c.floor ≤ 0) ∧
    ∀ i : SetIx, (s.tariff.sets[i]).levy ≤ levyCeilingOf words[5].toNat

/-- The values held are within the charter's bounds in effect, and will be when a program in flight completes; until then the
program's own line is the one in service (R15, R16, R21, R196). -/
def State.valuesSound (s : State) : Prop :=
  s.fits s.charter.words ∧
    ∀ p, s.charter.program = some p →
      s.power.phase = .running ∧ (∃ line, s.host.inService = some { line := line, stage := .programming }) ∧
        ∀ w value, p = .word w value → s.fits (s.charter.words.set w value)

/-- The accounts are sound: books, computation and money together (R37, R42). -/
def State.accountsSound (s : State) : Prop := s.storeSound ∧ s.concernsSound ∧ s.moneySound

end Sys2Proof.Machine
end

