-- ==== Sys2Proof/Certificates/Slice0/Obligations.lean ====
section
/-! DEFINITION. The statements for the provers, block by block in the order of the manual's chapters. `serves` is the
premise of every request: the part runs and the request's line is the one to serve; `answering` is the state with that line
in service and its reply being sent, everything else as it was. -/

open Sys2Proof Sys2Proof.Machine

/-! ## The queue and the outcomes -/

/-- A step runs the command at the front of the queue on the state with the queue's rest, and an empty queue idles. The queue
is the model's own (log 1). -/
def Obligations.StepRunsTheFrontCommand : Prop :=
  (∀ (c : Instr) (rest : List Instr) (s : State),
      step { s with pending := c :: rest } = exec c { s with pending := rest }) ∧
    ∀ s : State, s.pending = [] → step s = .next s

/-- No command faults or is refused by the model, and none touches the queue of the commands behind it (log 1). A request
command whose line cannot be served yet is taken as that line's arrival: it takes the waiting place, or is discarded and
counted (R182; log 4). Without supply and while the RESET pin is held nothing acts but the calendar, the pin and the supply, and
nothing is received on the host line (R205). In start-up its receiver acts too (R206; what it does there is stated in
CompleteLinesTakeTheirPlaces); that feeder, plant, display and VDD events do nothing there is the model's reading (log 2). -/
def Obligations.CommandsAnswerNextWhateverTheState : Prop :=
  (∀ (c : Instr) (s : State), ∃ t : State, exec c s = .next t ∧ t.pending = s.pending) ∧
    (∀ (r : Req) (args : List Tok) (s : State), s.power.phase = .running → s.host.inService ≠ none →
      s.host.inService ≠ some { line := .request r args, stage := .taken } →
      (s.host.waiting = none →
        exec (instrOf r args) s = .next { s with host := { s.host with waiting := some (.request r args) } }) ∧
      (s.host.waiting ≠ none →
        exec (instrOf r args) s =
          .next { s with host := { s.host with discarded := min (s.host.discarded + 1) 65535 } })) ∧
    (∀ (r : Req) (args : List Tok) (s : State), s.power.phase = .off ∨ s.power.phase = .offHeld ∨ s.power.phase = .resetHeld →
      exec (instrOf r args) s = .next s) ∧
    ∀ (c : Instr) (s : State), s.power.phase ≠ .running → c.request = none → c ≠ .calendarStep →
      ((∃ chars, c = .hostLineComplete chars) → s.power.phase ≠ .starting) → c ≠ .resetPinAssert →
      (∀ m r, c ≠ .resetPinRelease m r) → c ≠ .powerLoss → (∀ v m r, c ≠ .powerOn v m r) → (∀ f, c ≠ .startupEnd f) → exec c s = .next s

/-! ## Requests in general (chapters 10 and 11) -/

/-- A request that is answered NO has changed nothing, and neither has a request that only reports, whatever its words: the state is
the one before with that reply being sent (R183, and 00, Requests at a glance). -/
def Obligations.RefusedAndReportingRequestsChangeNothing : Prop :=
  (∀ (r : Req) (args : List Tok) (s t : State) (line : ReplyLine) (rest : Reply), s.serves r args →
      exec (instrOf r args) s = .next t → t.reply = some ((.kw .NO :: line) :: rest) →
      t = s.answering r args ((.kw .NO :: line) :: rest)) ∧
    ∀ (r : Req) (args : List Tok) (s : State), r ∈ readingRequests → s.serves r args →
      ∃ reply, exec (instrOf r args) s = .next (s.answering r args reply)

/-- During a supply warning every well-formed request that would write nonvolatile state answers NO HELD, RLYCFG and NOTMASK
with words among them; CHRPROG and CHRLOCK answer NO LOCKED before it when the charter is locked, and they and WIPE NO STATE
outside COMMISSIONING. In UNCOMMISSIONED every well-formed request outside the eight served there answers NO STATE, CHRPROG and
CHRLOCK NO LOCKED first when the charter is locked. One whose words have none of its request's forms answers NO SYNTAX, which its
block's checks give first in every service state, and no other does (R7, R23, R56, R102, R132, R153, R164, R175, R191, R196,
R198, R200, R201, R203). Nothing else changes. Of the NO SYNTAX clause three points are the model's choice and no rule's: that a
NOTMASK with the word ALL given twice is of no form (log 45; R191 refuses only a name given twice), that SYNTAX comes before
STATE where a rule gives the two no order (log 41), and that NOTACK judges SYNTAX before RANGE (log 49). -/
def Obligations.RequestsAreRefusedInWarningAndUncommissioned : Prop :=
  ∀ (r : Req) (args : List Tok) (s : State), s.serves r args →
    let malformed := wellWorded r args = false
    let programs := r = .CHRPROG ∨ r = .CHRLOCK
    let refused := fun k : Kw => exec (instrOf r args) s = .next (s.answering r args [[.kw .NO, .kw k]])
    (malformed → refused .SYNTAX) ∧
    (¬malformed → ¬refused .SYNTAX) ∧
    (writes r args = true → s.supply.warning = true → s.service ≠ .uncommissioned → ¬malformed →
      (programs → s.locked = true → refused .LOCKED) ∧
      (programs → s.locked = false → s.service ≠ .commissioning → refused .STATE) ∧
      (r = .WIPE → s.service ≠ .commissioning → refused .STATE) ∧
      (¬(programs ∧ (s.locked = true ∨ s.service ≠ .commissioning)) → ¬(r = .WIPE ∧ s.service ≠ .commissioning) →
        refused .HELD)) ∧
    (r ∉ servedUncommissioned → s.service = .uncommissioned → ¬malformed →
      (programs ∧ s.locked = true → refused .LOCKED) ∧ (¬(programs ∧ s.locked = true) → refused .STATE))

/-! ## Calendar and tariff (chapter 1) -/

/-- The one-second step carries as a clock and a calendar do: it gives the date-time one second later, and none exactly at
the end of the range; an alignment gives the nearest minute of that date-time; the weekday moves by one a day, from SAT on
2000-01-01 (R1, R2, R11). -/
def Obligations.TickAndAlignFollowTheCalendar : Prop :=
  (∀ t : DateTime,
      let month := if t.month = 2 then (if t.year % 4 = 0 then 29 else 28) else if t.month ∈ [4, 6, 9, 11] then 30 else 31
      (validDateTime t = true ↔
          (2000 ≤ t.year ∧ t.year ≤ 2099) ∧ (1 ≤ t.month ∧ t.month ≤ 12) ∧ (1 ≤ t.day ∧ t.day ≤ month) ∧ t.hour ≤ 23 ∧
            t.minute ≤ 59 ∧ t.second ≤ 59) ∧
        (t.second < 59 → t.tick = some { t with second := t.second + 1 }) ∧
        (t.second = 59 → t.minute < 59 → t.tick = some { t with minute := t.minute + 1, second := 0 }) ∧
        (t.second = 59 → t.minute = 59 →
          (t.hour < 23 → t.tick = some { t with hour := t.hour + 1, minute := 0, second := 0 }) ∧
          (t.hour = 23 → t.day < month → t.tick = some { t with day := t.day + 1, hour := 0, minute := 0, second := 0 }) ∧
          (t.hour = 23 → t.day = month →
            (t.month < 12 →
              t.tick = some { t with month := t.month + 1, day := 1, hour := 0, minute := 0, second := 0 }) ∧
            (t.month = 12 → t.year < 2099 →
              t.tick = some { year := t.year + 1, month := 1, day := 1, hour := 0, minute := 0, second := 0 })))) ∧
  (⟨2000, 1, 1, 0, 0, 0⟩ : DateTime).seconds = 0 ∧
  ∀ t : DateTime, validDateTime t = true →
    t.minutes = t.seconds / 60 ∧ t.dayNumber = t.seconds / 86400 ∧
    (t.tick = none ↔ t = lastMoment) ∧
    (t.tick = none → t.align = none) ∧
    (∀ u, t.tick = some u →
      validDateTime u = true ∧ u.seconds = t.seconds + 1 ∧
        (t.align = none ↔ 30 ≤ u.second ∧ u.minutes = 52595999) ∧
        ∀ v, t.align = some v → validDateTime v = true ∧ v.second = 0 ∧
          ((u.second ≤ 29 → v.seconds = u.seconds - u.second) ∧
            (30 ≤ u.second → v.seconds = u.seconds + (60 - u.second)))) ∧
    weekdayOrder[(t.dayNumber + 5) % 7]? = some t.weekday

/-- The interval length in effect is word 2's value when that is 5, 10, 15, 20, 30 or 60, and there is none otherwise (R3).
Boundary b is the instant b × L minutes after 2000-01-01 00:00, and it is the boundary at or before itself and every later
moment up to the next one (R4). -/
def Obligations.BoundaryNumbersAndInstantsAgree : Prop :=
  (∀ s : State,
      let word := (s.charter.words[(2 : CharterIx)]).toNat
      s.intervalLength = (if word ∈ [5, 10, 15, 20, 30, 60] then some word else none) ∧
        (legalLength word = true ↔ word ∈ [5, 10, 15, 20, 30, 60])) ∧
  ∀ (len b : Nat), legalLength len = true → b * len < 52596000 →
    validDateTime (boundaryInstant len b) = true ∧ (boundaryInstant len b).seconds = b * len * 60 ∧
      ∀ t : DateTime, (boundaryAt len t = b ↔ b * len ≤ t.minutes ∧ t.minutes < (b + 1) * len)

/-- CALENDAR_STEP: nothing while INVALID; the date-time one second on; a boundary event, of step 1, exactly when the part runs
under an interval length and the new date-time is the instant of b_last + 1; at the end of the range the calendar becomes
INVALID and CLOCK_INVALID is set (R1, R2, R6). The calendar steps in reset without giving events (log 23). -/
def Obligations.CalendarStepGivesBoundaryEvents : Prop :=
  ∀ s : State,
    (s.calendar.valid = false → exec .calendarStep s = .next s) ∧
    (s.calendar.valid = true → s.calendar.aligning = false →
      (∀ u, s.calendar.now.tick = some u →
        (∀ len, s.intervalLength = some len → s.power.phase = .running → u.second = 0 →
          u.minutes = (s.calendar.bLast + 1) * len →
          exec .calendarStep s =
            .next ({ s with calendar := { s.calendar with now := u } }.boundaryEvent len (s.calendar.bLast + 1))) ∧
        ((∀ len, s.intervalLength = some len →
            ¬(s.power.phase = .running ∧ u.second = 0 ∧ u.minutes = (s.calendar.bLast + 1) * len)) →
          exec .calendarStep s = .next { s with calendar := { s.calendar with now := u } })) ∧
      (s.calendar.now.tick = none →
        exec .calendarStep s =
          .next ({ s with calendar := { s.calendar with valid := false, aligning := false } }.notify .clockInvalid)))

/-- A boundary event for b sets b_last and clears the held state, clears the deferral cause, and, while the monitor is GOOD,
gives each feeder a pass for b: at once unless a frame or an exchange is in flight, else next. The build keeps the queue and
offers, in slot order, every non-VACANT household of the feeder without an entry whose wanted and confirmed states differ, up to
16 entries; QUEUE_OVERFLOW is set once for a build that finds no room for one. A pass's snapshot list holds an item for each
PENDING, uncovered entry of an OPEN book whose household is bound to the feeder, book by book in the order held, and within a book
in slot order (R5, R107, R115, R119, R129). What the book store and the reserve watch do is stated in
BoundaryEventOpensABookOrCarriesItsStep; that the order held is boundary order is BookStoreStaysSound's. -/
def Obligations.BoundaryEventsRetryAndBuildPasses : Prop :=
  (∀ (s : State) (f : Feeder),
      s.snapList f =
        (s.store.books.filter fun k : Book => k.state = .opened).flatMap fun k : Book =>
          allSlots.filterMap fun i : Slot =>
            match (s.household i).settings with
            | some c =>
              if c.feeder = f ∧ k.entries[i] = .pending ∧ s.covers k.boundary i = false then
                some { boundary := k.boundary, slot := i, addr := c.addr }
              else none
            | none => none) ∧
  ∀ (s : State) (len b : Nat),
    (s.boundaryEvent len b).calendar = { s.calendar with bLast := b, held := false } ∧
      (s.boundaryEvent len b).settlement = { s.settlement with deferral := .none } ∧
      (s.boundaryEvent len b).table = s.table ∧ (s.boundaryEvent len b).journal = s.journal ∧
      ∀ f : Feeder,
        (s.supply.warning = true → (s.boundaryEvent len b).engine f = s.engine f) ∧
        (s.supply.warning = false →
          ∃ plan : PassPlan, plan.boundary = b ∧ plan.instant = boundaryInstant len b ∧
            plan.items = (s.boundaryEvent len b).snapList f ∧
            ((((s.engine f).pass = none ∨ ∃ p, (s.engine f).pass = some p ∧ p.phase = .guard) ∧
                ((s.boundaryEvent len b).engine f).pass = some { plan := plan, phase := .mark, stopping := false }) ∨
              ((∃ p, (s.engine f).pass = some p ∧ p.phase ≠ .guard) ∧
                ((s.boundaryEvent len b).engine f).pass = (s.engine f).pass ∧
                ((s.boundaryEvent len b).engine f).next = some plan))) ∧
    (s.supply.warning = false →
      let queue := fun f : Feeder => (s.engine f).queue
      let due := fun f : Feeder => allSlots.filter fun i =>
        match (s.household i).settings with
        | some c =>
          (s.household i).member ≠ .vacant && c.feeder = f && (s.household i).confirmed ≠ some (s.household i).wanted &&
            !inQueue (queue f) i
        | none => false
      let refused := fun f : Feeder => decide (16 - (queue f).length < (due f).length)
      let before := s.notices.cell .queueOverflow
      let after := (s.boundaryEvent len b).notices.cell .queueOverflow
      (∀ f, ((s.boundaryEvent len b).engine f).queue =
        queue f ++ ((due f).take (16 - (queue f).length)).map fun i =>
          ({ slot := i, command := (s.household i).wanted } : QueueEntry)) ∧
        (after.flag = true ↔ before.flag = true ∨ refused .A = true ∨ refused .B = true) ∧
        (before.count ≤ 255 →
          after.count = (before.count + (if refused .A then 1 else 0) + if refused .B then 1 else 0) % 256))

/-- CLKALIGN puts an alignment in flight and answers OK ALIGN; in flight, CLKALIGN and CLKSET answer NO BUSY (R7, R10).
ALIGNMENT_COMPLETION replaces the calendar's next step by the rounded date-time, with the boundary event that it reaches;
past the end of the range the calendar becomes INVALID at 2099-12-31 23:59:59 (R2, R6, R11). -/
def Obligations.AlignmentsGoFromClkalignToCompletion : Prop :=
  ((∀ s : State, s.serves .CLKALIGN [] → s.service ≠ .uncommissioned → s.supply.warning = false →
        (s.calendar.aligning = false → s.calendar.valid = true →
          exec (.clkalign []) s =
            .next ({ s with calendar := { s.calendar with aligning := true } }.answering .CLKALIGN []
              [[.kw .OK, .kw .ALIGN]])) ∧
        (s.calendar.aligning = false → s.calendar.valid = false →
          exec (.clkalign []) s = .next (s.answering .CLKALIGN [] [[.kw .NO, .kw .STATE]])) ∧
        (s.calendar.aligning = true →
          exec (.clkalign []) s = .next (s.answering .CLKALIGN [] [[.kw .NO, .kw .BUSY]]))) ∧
      ∀ (s : State) (y mo d h mi sec : Int), s.serves .CLKSET [.num y, .num mo, .num d, .num h, .num mi, .num sec] →
        s.service ≠ .uncommissioned → s.supply.warning = false → s.calendar.aligning = true →
        exec (.clkset [.num y, .num mo, .num d, .num h, .num mi, .num sec]) s =
          .next (s.answering .CLKSET [.num y, .num mo, .num d, .num h, .num mi, .num sec] [[.kw .NO, .kw .BUSY]])) ∧
    ∀ s : State, s.power.phase = .running → s.calendar.valid = true → s.calendar.aligning = true →
      (∀ u, s.calendar.now.align = some u →
        (∀ len, s.intervalLength = some len → u.second = 0 → u.minutes = (s.calendar.bLast + 1) * len →
          exec .alignmentCompletion s =
            .next ({ s with calendar := { s.calendar with now := u, aligning := false } }.boundaryEvent len
              (s.calendar.bLast + 1))) ∧
        ((∀ len, s.intervalLength = some len → ¬(u.second = 0 ∧ u.minutes = (s.calendar.bLast + 1) * len)) →
          exec .alignmentCompletion s = .next { s with calendar := { s.calendar with now := u, aligning := false } })) ∧
      (s.calendar.now.align = none →
        exec .alignmentCompletion s =
          .next ({ s with calendar := { s.calendar with now := lastMoment, valid := false, aligning := false } }.notify
            .clockInvalid))

/-- CLKSET sets the date-time and makes the calendar VALID: without an interval length nothing more, with one a boundary event
for c above b_last, else the held state and CLOCK_HELD; a date-time outside its ranges answers NO RANGE (R8, R9). -/
def Obligations.ClksetSetsTheClock : Prop :=
  ∀ (s : State) (t : DateTime) (args : List Tok),
    args = [.num t.year, .num t.month, .num t.day, .num t.hour, .num t.minute, .num t.second] →
    s.serves .CLKSET args → s.service ≠ .uncommissioned → s.supply.warning = false → s.calendar.aligning = false →
    let u : State := { s with calendar := { s.calendar with now := t, valid := true } }
    let shown : List Field := [.kw .OK, .date t.year t.month t.day, .time t.hour t.minute t.second]
    (validDateTime t = false → exec (.clkset args) s = .next (s.answering .CLKSET args [[.kw .NO, .kw .RANGE]])) ∧
    (validDateTime t = true →
      (s.intervalLength = none →
        exec (.clkset args) s = .next (u.answering .CLKSET args [shown ++ ([.kw .NOLEN] : List Field)])) ∧
      ∀ len, s.intervalLength = some len →
        (s.calendar.bLast < t.minutes / len →
          exec (.clkset args) s =
            .next ((u.boundaryEvent len (t.minutes / len)).answering .CLKSET args
              [shown ++ ([.kw .EVENT, .num ((t.minutes / len : Nat) : Int),
                .num ((t.minutes / len - s.calendar.bLast : Nat) : Int)] : List Field)])) ∧
        (t.minutes / len ≤ s.calendar.bLast →
          exec (.clkset args) s =
            .next (({ u with calendar := { u.calendar with held := true } }.notify .clockHeld).answering .CLKSET args
              [shown ++ ([.kw .HOLD, .num (s.calendar.bLast : Int)] : List Field)])))

/-- BANDSET writes one band entry in its form with ON, or marks it OFF and keeps its other fields; PRICESET replaces one price
set whole when its prices are ordered and its levy is at most the ceiling in effect. A weekday set is held in the order MON to
SUN, each day once; the levy ceiling in effect is word 5 up to 200, and 0 otherwise (R7, R14, R16, R17). -/
def Obligations.BandsetAndPricesetWriteTheSchedule : Prop :=
  (∀ (s : State) (named : List Weekday),
      let week : List Weekday := [.MON, .TUE, .WED, .THU, .FRI, .SAT, .SUN]
      weekdaysOf (.days named) = some (week.filter fun d => d ∈ named) ∧ weekdaysOf (.kw .ALL) = some week ∧
        weekdaysOf (.kw .NONE) = some [] ∧
        s.levyCeiling =
          if (s.charter.words[(5 : CharterIx)]).toNat ≤ 200 then (s.charter.words[(5 : CharterIx)]).toNat else 0) ∧
  (∀ (s : State) (e : BandIx) (word : Tok) (ds : List Weekday) (start : Nat) (ix : SetIx) (args : List Tok),
      args = [.num e.val, .kw .ON, word, .num start, .num ix.val] → weekdaysOf word = some ds → start ≤ 1439 →
      s.serves .BANDSET args → s.service ≠ .uncommissioned → s.supply.warning = false →
      exec (.bandset args) s =
        .next ({ s with
            tariff := { s.tariff with
              bands := s.tariff.bands.set e
                { used := true, weekdays := ds, start := start, setIx := ix } } }.answering .BANDSET args
          [[.kw .OK]])) ∧
    (∀ (s : State) (e : BandIx) (args : List Tok), args = [.num e.val, .kw .OFF] →
      s.serves .BANDSET args → s.service ≠ .uncommissioned → s.supply.warning = false →
      exec (.bandset args) s =
        .next ({ s with
            tariff := { s.tariff with bands := s.tariff.bands.set e { s.tariff.bands[e] with used := false } } }.answering
          .BANDSET args [[.kw .OK]])) ∧
    ∀ (s : State) (ix : SetIx) (p : PriceSet) (args : List Tok),
      args = [.num ix.val, .num p.community, .num p.feed, .num p.feedSurplus, .num p.plant, .num p.plantScarcity,
        .num p.levy] →
      s.serves .PRICESET args → s.service ≠ .uncommissioned → s.supply.warning = false →
      ((p.feedSurplus ≤ p.feed ∧ p.feed ≤ p.community ∧ p.community ≤ p.plant ∧ p.plant ≤ p.plantScarcity) ∧
          p.plantScarcity ≤ 65535 ∧ p.levy ≤ 200 ∧ p.levy ≤ s.levyCeiling →
        exec (.priceset args) s =
          .next ({ s with tariff := { s.tariff with sets := s.tariff.sets.set ix p } }.answering .PRICESET args
            [[.kw .OK]])) ∧
      (¬((p.feedSurplus ≤ p.feed ∧ p.feed ≤ p.community ∧ p.community ≤ p.plant ∧ p.plant ≤ p.plantScarcity) ∧
          p.plantScarcity ≤ 65535 ∧ p.levy ≤ 200 ∧ p.levy ≤ s.levyCeiling) →
        exec (.priceset args) s = .next (s.answering .PRICESET args [[.kw .NO, .kw .RANGE]]))

/-- The price set of a book is that of the band entry in force at its interval's start: ON, for that weekday, with the
greatest start at or below that minute, and of equal starts the lowest number; set 0 when there is none (R18). -/
def Obligations.BandResolutionTakesTheLatestStart : Prop :=
  ∀ (t : Tariff) (at_ : DateTime),
    let applies := fun e : BandIx =>
      (t.bands[e]).used = true ∧ at_.weekday ∈ (t.bands[e]).weekdays ∧ (t.bands[e]).start ≤ at_.hour * 60 + at_.minute
    ((∀ e, ¬applies e) → t.resolve at_ = 0) ∧
      ∀ e, applies e →
        (∀ k, applies k → (t.bands[k]).start < (t.bands[e]).start ∨ ((t.bands[k]).start = (t.bands[e]).start ∧ e ≤ k)) →
        t.resolve at_ = (t.bands[e]).setIx

/-- CLKREAD, BANDREAD and PRICEREAD report the calendar, the band entries and the price sets, in every service state (R12,
R14, R17, R200), ALL in the lines of the single reads. That BANDREAD lists the full weekday set day by day is the model's reading
(log 33). -/
def Obligations.CalendarReadsReport : Prop :=
  (∀ (s : State) (e : BandIx) (i : SetIx),
      let b := s.tariff.bands[e]
      let p := s.tariff.sets[i]
      s.bandLine e =
          .num e.val ::
            (if b.used then
              [.kw .ON, if b.weekdays = [] then .kw .NONE else .days b.weekdays, .num b.start, .num b.setIx.val]
            else [Field.kw .OFF]) ∧
        s.priceLine i =
          [.num i.val, .num p.community, .num p.feed, .num p.feedSurplus, .num p.plant, .num p.plantScarcity,
            .num p.levy]) ∧
  (∀ s : State, s.serves .CLKREAD [] →
      let c := s.calendar
      exec (.clkread []) s =
        .next (s.answering .CLKREAD []
          [[.kw .OK, .date c.now.year c.now.month c.now.day, .time c.now.hour c.now.minute c.now.second,
            .day c.now.weekday, .kw (if c.valid then .VALID else .INVALID), .num ((s.intervalLength.getD 0 : Nat) : Int),
            .num (c.bLast : Int), .kw (if c.held then .HOLD else .NOHOLD), .kw (if c.aligning then .ALIGN else .IDLE)]])) ∧
    (∀ (s : State) (e : BandIx), s.serves .BANDREAD [.num e.val] →
      let b := s.tariff.bands[e]
      exec (.bandread [.num e.val]) s =
        .next (s.answering .BANDREAD [.num e.val]
          [[.kw .OK, .num e.val] ++
            (if b.used then
              [.kw .ON, if b.weekdays = [] then .kw .NONE else .days b.weekdays, .num b.start, .num b.setIx.val]
            else [Field.kw .OFF])])) ∧
    (∀ s : State, s.serves .BANDREAD [.kw .ALL] →
      ∃ lines : List ReplyLine, lines.length = 16 ∧ (∀ e : BandIx, lines[e.val]? = some (s.bandLine e)) ∧
        exec (.bandread [.kw .ALL]) s = .next (s.answering .BANDREAD [.kw .ALL] ([.kw .OK] :: lines ++ [[.kw .END]]))) ∧
    (∀ (s : State) (i : SetIx), s.serves .PRICEREAD [.num i.val] →
      let p := s.tariff.sets[i]
      exec (.priceread [.num i.val]) s =
        .next (s.answering .PRICEREAD [.num i.val]
          [[.kw .OK, .num i.val, .num p.community, .num p.feed, .num p.feedSurplus, .num p.plant, .num p.plantScarcity,
            .num p.levy]])) ∧
    ∀ s : State, s.serves .PRICEREAD [.kw .ALL] →
      ∃ lines : List ReplyLine, lines.length = 4 ∧ (∀ i : SetIx, lines[i.val]? = some (s.priceLine i)) ∧
        exec (.priceread [.kw .ALL]) s = .next (s.answering .PRICEREAD [.kw .ALL] ([.kw .OK] :: lines ++ [[.kw .END]]))

/-- The calendar keeps a date-time and a boundary number of its range, and the schedule keeps the ordering of R15 and the one
form of each weekday set, at every step (section 1.1, R4, R13, R15). -/
def Obligations.CalendarAndTariffStaySound : Prop :=
  ∀ s t : State, s.calendarSound → s.tariffSound → step s = .next t → t.calendarSound ∧ t.tariffSound

/-! ## Household accounts (chapter 2) -/

/-- HHENROL writes the record of R24 and one MEMBER record; a used slot, the household limit, a value outside its range or an
address held on the feeder, and a full journal refuse it in the order of R23. The limits in effect are those that charter words
1, 4 and 6 give, and an address is held by the non-VACANT household bound to it (R21, R23, R24). -/
def Obligations.HhenrolEnrolsAVacantSlot : Prop :=
  (∀ s : State,
      let word := fun w : CharterIx => (s.charter.words[w]).toNat
      s.householdLimit = (if 1 ≤ word 1 ∧ word 1 ≤ 96 then word 1 else 0) ∧ s.capCeiling = word 4 ∧
        s.lowestFloor = -((if word 6 ≤ 65534 then (word 6 : Int) else 0) * 1000000) ∧
        s.memberCount = allSlots.countP (fun i : Slot => (s.household i).member ≠ .vacant) ∧
        ∀ (f : Feeder) (addr : Nat) (j : Slot),
          s.boundTo f addr j = true ↔
            (s.household j).member ≠ .vacant ∧ ∃ c, (s.household j).settings = some c ∧ c.feeder = f ∧ c.addr = addr) ∧
  ∀ (s : State) (i : Slot) (f : Feeder) (addr cap : Nat) (floor : Int) (p : Policy) (shown : Bool) (args : List Tok),
    args = [.num (slotNumber i), .kw (feederKw f), .num addr, .num cap, .num floor, .kw p.kw,
      .kw (if shown then .YES else .NO)] →
    s.serves .HHENROL args → s.service ≠ .uncommissioned → s.supply.warning = false →
    let inRange := 1 ≤ addr ∧ addr ≤ 247 ∧ (∀ j, j ≠ i → s.boundTo f addr j = false) ∧ 1 ≤ cap ∧ cap ≤ s.capCeiling ∧
      s.lowestFloor ≤ floor ∧ floor ≤ 0
    let refused := fun k : Kw => exec (.hhenrol args) s = .next (s.answering .HHENROL args [[.kw .NO, .kw k]])
    ((s.household i).member ≠ .vacant → refused .STATE) ∧
    ((s.household i).member = .vacant →
      (s.householdLimit ≤ s.memberCount → refused .ROOM) ∧
      (s.memberCount < s.householdLimit →
        (¬inRange → refused .RANGE) ∧
        (inRange → s.journal.hasRoom 1 1 = false → refused .ROOM) ∧
        (inRange → s.journal.hasRoom 1 1 = true →
          exec (.hhenrol args) s =
            .next (((s.withHousehold i
                { member := .enrolled
                  settings := some { feeder := f, addr := addr, cap := cap, floor := floor, policy := p, shown := shown }
                  bases := none, balance := 0, misses := 0, wanted := .closed, confirmed := none }).record
                (.member i .enrol .enrolled)).answering .HHENROL args
              [[.kw .OK, .kw .ENROLLED, .num (s.journal.nextNumber : Int)]]))))

/-- Pairs are a keyword and its value each, no keyword twice. HHEDIT writes each pair given and keeps the other settings; a changed binding makes relay confirmed UNKNOWN and takes the
entry from the old feeder's queue; a policy of HOLD_CLOSED makes an OPEN wanted state CLOSED and offers the household; a FLOOR or
POLICY pair then evaluates it, and nothing else of the part changes. A CAP pair while the SETTLING book has an entry, or a
binding pair while an exchange to the meter is in flight, answers NO BUSY, a value outside its range or a meter address held NO
RANGE, a VACANT slot NO STATE (R23, R25, R26, R160, R161). The evaluation and the offer are stated in
EvaluationFollowsPolicyAndBalance. That a request with a changed binding and HOLD_CLOSED removes the old queue's entry first and
offers CLOSE to the new feeder's queue is the model's choice (log 46). -/
def Obligations.HheditWritesThePairsGiven : Prop :=
  (∀ (α : Type) (read : Kw → Tok → Option α) (args : List Tok) (ps : List (Kw × α)),
      pairs read args = some ps ↔ ps ≠ [] ∧ (ps.map Prod.fst).Nodup ∧
        ∃ vs : List Tok, vs.length = ps.length ∧
          args = ((ps.map Prod.fst).zip vs).flatMap (fun q : Kw × Tok => [Tok.kw q.1, q.2]) ∧
          ∀ q ∈ ps.zip vs, read q.1.1 q.2 = some q.1.2) ∧
  (∀ (k : Kw) (v : Tok) (a : EditValue),
      readEdit k v = some a ↔
        ((k = .CAP ∨ k = .FLOOR ∨ k = .ADDR) ∧ ∃ n, v = .num n ∧ a = .num n) ∨
          (k = .POLICY ∧ ∃ p : Policy, v = .kw p.kw ∧ a = .policy p) ∨
          (k = .SHOW ∧ ∃ b : Bool, v = .kw (if b then .YES else .NO) ∧ a = .shown b) ∨
          (k = .FEEDER ∧ ∃ f, v = .kw (feederKw f) ∧ a = .feeder f)) ∧
  ∀ (s : State) (i : Slot) (rest : List Tok) (ps : List (Kw × EditValue)) (args : List Tok),
    args = .num (slotNumber i) :: rest → pairs readEdit rest = some ps → s.serves .HHEDIT args →
    s.service ≠ .uncommissioned → s.supply.warning = false →
    let h := s.household i
    let refused := fun k : Kw => exec (.hhedit args) s = .next (s.answering .HHEDIT args [[.kw .NO, .kw k]])
    let binds := given ps .FEEDER ≠ none ∨ given ps .ADDR ≠ none
    (h.settings = none → refused .STATE) ∧
    (s.tableSound → h.member = .vacant → refused .STATE) ∧
    ∀ c, h.settings = some c →
      (s.editBusy i c ps = true ↔
          (given ps .CAP ≠ none ∧ ∃ b ∈ s.store.books, (∃ k, b.state = .settling k) ∧ b.entries[i] ≠ .excluded) ∨
            (binds ∧ ∃ p x, (s.engine c.feeder).inFlight = some (p, x) ∧ x.addr = c.addr)) ∧
      (s.editAll c ps = none ↔
          (∃ n, given ps .CAP = some (.num n) ∧ ¬(1 ≤ n ∧ n ≤ s.capCeiling)) ∨
            (∃ n, given ps .FLOOR = some (.num n) ∧ ¬(s.lowestFloor ≤ n ∧ n ≤ 0)) ∨
            ∃ n, given ps .ADDR = some (.num n) ∧ ¬(1 ≤ n ∧ n ≤ 247)) ∧
      (s.editBusy i c ps = true → refused .BUSY) ∧
      (s.editBusy i c ps = false → s.editAll c ps = none → refused .RANGE) ∧
      ∀ d, s.editBusy i c ps = false → s.editAll c ps = some d →
        (((∃ n, given ps .CAP = some (.num n) ∧ (d.cap : Int) = n) ∨ given ps .CAP = none ∧ d.cap = c.cap) ∧
          ((∃ n, given ps .FLOOR = some (.num n) ∧ d.floor = n) ∨ given ps .FLOOR = none ∧ d.floor = c.floor) ∧
          ((∃ n, given ps .ADDR = some (.num n) ∧ (d.addr : Int) = n) ∨ given ps .ADDR = none ∧ d.addr = c.addr) ∧
          ((∃ p, given ps .POLICY = some (.policy p) ∧ d.policy = p) ∨ given ps .POLICY = none ∧ d.policy = c.policy) ∧
          ((∃ b, given ps .SHOW = some (.shown b) ∧ d.shown = b) ∨ given ps .SHOW = none ∧ d.shown = c.shown) ∧
          ((∃ f, given ps .FEEDER = some (.feeder f) ∧ d.feeder = f) ∨
            given ps .FEEDER = none ∧ d.feeder = c.feeder)) ∧
        (binds → (∃ j, j ≠ i ∧ s.boundTo d.feeder d.addr j = true) → refused .RANGE) ∧
        ((binds → ∀ j, j ≠ i → s.boundTo d.feeder d.addr j = false) →
          let written : State :=
            if d.feeder = c.feeder ∧ d.addr = c.addr then s.withHousehold i { h with settings := some d }
            else
              (s.withHousehold i { h with settings := some d, confirmed := none }).withEngine c.feeder
                { s.engine c.feeder with queue := (s.engine c.feeder).queue.filter fun e => e.slot ≠ i }
          let closed : State :=
            if given ps .POLICY = some (.policy .holdClosed) ∧ h.wanted = .opened then
              (written.withHousehold i { written.household i with wanted := .closed }).offer d.feeder i .closed
            else written
          let evaluated :=
            if given ps .POLICY = none ∧ given ps .FLOOR = none then closed else closed.evaluate i
          exec (.hhedit args) s = .next (evaluated.answering .HHEDIT args [[.kw .OK]]))

/-- HHSUSPEND, HHRESUME and HHREBASE move the member state with one MEMBER record: HHSUSPEND keeps every other field,
HHRESUME and HHREBASE make the baselines absent and the miss count 0 and answer NO BUSY while the SETTLING book has an entry
for the slot; any other member state answers NO STATE and a full journal NO ROOM (R23, R28, R29, R30). -/
def Obligations.SuspendResumeRebaseMoveTheState : Prop :=
  (∀ (s : State) (i : Slot),
      s.settlingFor i = true ↔ ∃ b ∈ s.store.books, (∃ c, b.state = .settling c) ∧ b.entries[i] ≠ .excluded) ∧
  (∀ (s : State) (i : Slot) (args : List Tok), args = [.num (slotNumber i)] → s.serves .HHSUSPEND args →
      s.service ≠ .uncommissioned → s.supply.warning = false →
      let h := s.household i
      (¬(h.member = .enrolled ∨ h.member = .active) →
        exec (.hhsuspend args) s = .next (s.answering .HHSUSPEND args [[.kw .NO, .kw .STATE]])) ∧
      (h.member = .enrolled ∨ h.member = .active → s.journal.hasRoom 1 1 = false →
        exec (.hhsuspend args) s = .next (s.answering .HHSUSPEND args [[.kw .NO, .kw .ROOM]])) ∧
      (h.member = .enrolled ∨ h.member = .active → s.journal.hasRoom 1 1 = true →
        exec (.hhsuspend args) s =
          .next (((s.withHousehold i { h with member := .suspended }).record (.member i .suspend .suspended)).answering
            .HHSUSPEND args [[.kw .OK, .kw .SUSPENDED, .num (s.journal.nextNumber : Int)]]))) ∧
    ∀ (s : State) (i : Slot) (args : List Tok) (r : Req) (m : MemberState) (a : MemberAction),
      args = [.num (slotNumber i)] →
      (r = .HHRESUME ∧ m = .suspended ∧ a = .resume ∨ r = .HHREBASE ∧ m = .fault ∧ a = .rebase) → s.serves r args →
      s.service ≠ .uncommissioned → s.supply.warning = false →
      let h := s.household i
      (h.member ≠ m → exec (instrOf r args) s = .next (s.answering r args [[.kw .NO, .kw .STATE]])) ∧
      (h.member = m → s.settlingFor i = true →
        exec (instrOf r args) s = .next (s.answering r args [[.kw .NO, .kw .BUSY]])) ∧
      (h.member = m → s.settlingFor i = false → s.journal.hasRoom 1 1 = false →
        exec (instrOf r args) s = .next (s.answering r args [[.kw .NO, .kw .ROOM]])) ∧
      (h.member = m → s.settlingFor i = false → s.journal.hasRoom 1 1 = true →
        exec (instrOf r args) s =
          .next (((s.withHousehold i { h with member := .enrolled, bases := none, misses := 0 }).record
            (.member i a .enrolled)).answering r args
            [[.kw .OK, .kw .ENROLLED, .num (s.journal.nextNumber : Int)]]))

/-- HHWITHDRAW makes the household VACANT at once when no held book has a non-EXCLUDED entry for it and its balance is 0, else
LEAVING with everything kept, and writes one MEMBER record; a vacated slot loses its settings, baselines and count, its queue
entries and its substitution entries, SUBST_DROPPED set for each that was enabled, and keeps its relay fields; an exchange in
flight for it is left without its household (R20, R31, R32, R63, R123, R129, R130). -/
def Obligations.HhwithdrawVacatesOrLeaves : Prop :=
  (∀ (s : State) (i : Slot) (args : List Tok), args = [.num (slotNumber i)] → s.serves .HHWITHDRAW args →
      s.service ≠ .uncommissioned → s.supply.warning = false →
      let h := s.household i
      let clear := (∀ b ∈ s.store.books, b.entries[i] = .excluded) ∧ h.balance = 0
      (h.member = .vacant ∨ h.member = .leaving →
        exec (.hhwithdraw args) s = .next (s.answering .HHWITHDRAW args [[.kw .NO, .kw .STATE]])) ∧
      (h.member ≠ .vacant → h.member ≠ .leaving → s.journal.hasRoom 1 1 = false →
        exec (.hhwithdraw args) s = .next (s.answering .HHWITHDRAW args [[.kw .NO, .kw .ROOM]])) ∧
      (h.member ≠ .vacant → h.member ≠ .leaving → s.journal.hasRoom 1 1 = true →
        (clear →
          exec (.hhwithdraw args) s =
            .next (((s.vacate i).record (.member i .withdraw .vacant)).answering .HHWITHDRAW args
              [[.kw .OK, .kw .VACANT, .num (s.journal.nextNumber : Int)]])) ∧
        (¬clear →
          exec (.hhwithdraw args) s =
            .next (((s.withHousehold i { h with member := .leaving }).record (.member i .withdraw .leaving)).answering
              .HHWITHDRAW args [[.kw .OK, .kw .LEAVING, .num (s.journal.nextNumber : Int)]])))) ∧
    ∀ (s : State) (i : Slot),
      (s.vacate i).household i =
          { s.household i with member := .vacant, settings := none, bases := none, balance := 0, misses := 0 } ∧
        (∀ j, j ≠ i → (s.vacate i).household j = s.household j) ∧
        (∀ f, inQueue ((s.vacate i).engine f).queue i = false) ∧
        (s.vacate i).store = { s.store with subs := s.store.subs.filter fun e => e.slot ≠ i } ∧
        ((s.notices.cell .substDropped).count ≤ 255 →
          ((s.vacate i).notices.cell .substDropped).count =
            ((s.notices.cell .substDropped).count + s.store.subs.countP fun e => e.enabled && e.slot = i) % 256) ∧
        (((s.vacate i).notices.cell .substDropped).flag = true ↔
          (s.notices.cell .substDropped).flag = true ∨ ∃ e ∈ s.store.subs, e.enabled = true ∧ e.slot = i) ∧
        (∀ n, n ≠ .substDropped → (s.vacate i).notices.cell n = s.notices.cell n) ∧
        (∀ f,
          (s.vacate i).engine f =
              { s.engine f with
                queue := (s.engine f).queue.filter fun e : QueueEntry => e.slot ≠ i
                pass := ((s.vacate i).engine f).pass } ∧
            ((s.engine f).inFlight = none → ((s.vacate i).engine f).pass = (s.engine f).pass) ∧
            ∀ p x, (s.engine f).inFlight = some (p, x) →
              ((s.vacate i).engine f).pass =
                some (p.withExchange { x with vacated := x.vacated || decide (x.slot = i) })) ∧
        s.vacate i = { s with
          table := (s.vacate i).table, store := (s.vacate i).store, feederA := (s.vacate i).feederA
          feederB := (s.vacate i).feederB, notices := (s.vacate i).notices }

/-- TOPUP and ADJUST add a signed amount to one balance and to the injection total with an ACCOUNT record; a LEAVING household
that no held book concerns and whose balance comes to 0 becomes VACANT with a MEMBER record after it, any other is evaluated;
both retry a failed posting; a VACANT slot, an amount or a resulting balance outside its range and a full journal refuse them
in the order of R23 (R32, R36, R38, R39, R107). -/
def Obligations.TopupAndAdjustMoveOneBalance : Prop :=
  ∀ (s : State) (i : Slot) (amount : Int) (r : Req) (cause : AccountCause) (args : List Tok),
    args = [.num (slotNumber i), .num amount] → r = .TOPUP ∧ cause = .topup ∨ r = .ADJUST ∧ cause = .adjust →
    s.serves r args → s.service ≠ .uncommissioned → s.supply.warning = false →
    let after := (s.household i).balance + amount
    let amountOk := (r = .TOPUP → 1 ≤ amount) ∧ amount ≠ 0 ∧ -1000000000000 ≤ amount ∧ amount ≤ 1000000000000
    let limitOk := -140737488355327 ≤ after ∧ after ≤ 140737488355327
    let vacates := (s.household i).member = .leaving ∧ (∀ b ∈ s.store.books, b.entries[i] = .excluded) ∧ after = 0
    let t := ((s.withHousehold i { s.household i with balance := after }).withInjection (s.injection + amount)).record
      (.account i cause amount after)
    let retried := fun u : State => ({ u with settlement := { u.settlement with deferral := .none } } : State)
    let refused := fun k : Kw => exec (instrOf r args) s = .next (s.answering r args [[.kw .NO, .kw k]])
    ((s.household i).member = .vacant → refused .STATE) ∧
    ((s.household i).member ≠ .vacant →
      (¬(amountOk ∧ limitOk) → refused .RANGE) ∧
      (amountOk ∧ limitOk →
        (vacates → s.journal.hasRoom 2 2 = false → refused .ROOM) ∧
        (¬vacates → s.journal.hasRoom 1 1 = false → refused .ROOM) ∧
        (vacates → s.journal.hasRoom 2 2 = true →
          exec (instrOf r args) s =
            .next ((retried ((t.vacate i).record (.member i .withdraw .vacant))).answering r args
              [[.kw .OK, .num after, .num (s.journal.nextNumber : Int), .kw .VACANT]])) ∧
        (¬vacates → s.journal.hasRoom 1 1 = true →
          exec (instrOf r args) s =
            .next ((retried (t.evaluate i)).answering r args
              [[.kw .OK, .num after, .num (s.journal.nextNumber : Int)]]))))

/-- FUND adds a signed amount to the fund and to the injection total with a FUND record and retries a failed posting; FUNDREAD
reports the fund, the injection total and the sum of the balances; HHREAD reports a record, absent fields as dashes, and ALL the
non-VACANT households in slot order in the same lines (R23, R27, R36, R40, R107). -/
def Obligations.FundAndHouseholdReads : Prop :=
  (∀ (s : State) (amount : Int) (args : List Tok), args = [.num amount] → s.serves .FUND args →
      s.service ≠ .uncommissioned → s.supply.warning = false →
      let after := s.fund + amount
      let ok := amount ≠ 0 ∧ -1000000000000 ≤ amount ∧ amount ≤ 1000000000000 ∧ -140737488355327 ≤ after ∧
        after ≤ 140737488355327
      (¬ok → exec (.fund args) s = .next (s.answering .FUND args [[.kw .NO, .kw .RANGE]])) ∧
      (ok → s.journal.hasRoom 1 1 = false →
        exec (.fund args) s = .next (s.answering .FUND args [[.kw .NO, .kw .ROOM]])) ∧
      (ok → s.journal.hasRoom 1 1 = true →
        exec (.fund args) s =
          .next ({ s with
              fund := after
              injection := s.injection + amount
              journal := s.journal.append (.fund amount after)
              settlement := { s.settlement with deferral := .none } }.answering .FUND args
            [[.kw .OK, .num after, .num (s.journal.nextNumber : Int)]]))) ∧
    (∀ s : State, s.serves .FUNDREAD [] → s.service ≠ .uncommissioned →
      exec (.fundread []) s =
        .next (s.answering .FUNDREAD [] [[.kw .OK, .num s.fund, .num s.injection, .num s.balanceSum]])) ∧
    (∀ (s : State) (i : Slot) (c : Settings), s.serves .HHREAD [.num (slotNumber i)] → s.service ≠ .uncommissioned →
      let h := s.household i
      (h.member = .vacant →
        exec (.hhread [.num (slotNumber i)]) s =
          .next (s.answering .HHREAD [.num (slotNumber i)] [[.kw .OK, .num (slotNumber i), .kw .VACANT]])) ∧
      (h.member ≠ .vacant → h.settings = some c →
        exec (.hhread [.num (slotNumber i)]) s =
          .next (s.answering .HHREAD [.num (slotNumber i)]
            [[.kw .OK, .num (slotNumber i), .kw h.member.kw, .kw (feederKw c.feeder), .num c.addr, .num c.cap,
                .num c.floor, .kw c.policy.kw, .kw (if c.shown then .YES else .NO)] ++
              (match h.bases with
                | some b => [Field.num b.imp.toNat, Field.num b.exp.toNat]
                | none => [Field.dash, Field.dash]) ++
              [Field.num h.balance, .num h.misses, .kw h.wanted.kw, .kw (confirmedKw h.confirmed)]]))) ∧
    (∀ s : State, s.serves .HHREAD [.kw .ALL] → s.service ≠ .uncommissioned →
      exec (.hhread [.kw .ALL]) s =
        .next (s.answering .HHREAD [.kw .ALL]
          ([.kw .OK] :: (allSlots.filter fun i : Slot => (s.household i).member ≠ .vacant).map s.householdLine ++
            [[.kw .END]]))) ∧
    ∀ (s : State) (i : Slot), s.serves .HHREAD [.num (slotNumber i)] → s.service ≠ .uncommissioned →
      exec (.hhread [.num (slotNumber i)]) s =
        .next (s.answering .HHREAD [.num (slotNumber i)] [.kw .OK :: s.householdLine i])

/-- No two households on one feeder share a meter address, every used record has its settings, and a HOLD_CLOSED household's
wanted state is CLOSED: every step keeps it so (R20, R21, R161). -/
def Obligations.HouseholdTableStaysSound : Prop :=
  ∀ s t : State, s.tableSound → step s = .next t → t.tableSound

/-! ## Interval books and substitution (chapter 3) -/

/-- A boundary event taken in SERVICE with the monitor GOOD closes by GRACE every OPEN book more than G behind it, its PENDING
entries MISSING, and opens book b when fewer than 6 are held: span, prices of the interval's start, the accumulator's flags,
a PENDING entry for each ENROLLED or ACTIVE household; the accumulator is handed over (R18, R45, R46, R48, R150). One that
finds 6 books held makes the same closings, and one in WARNING makes none: either opens no book, adds its step to the carried
span, sets SPAN and keeps the accumulator; outside SERVICE the book store does nothing (R49, R151). -/
def Obligations.BoundaryEventOpensABookOrCarriesItsStep : Prop :=
  (∀ (s : State) (len b : Nat), s.service = .service → s.supply.warning = false → s.store.books.length < 6 →
      let ix := s.tariff.resolve (boundaryInstant len (b - 1))
      let close := fun k : Book =>
        if k.state = .opened ∧ s.charterWord 3 < b - k.boundary then k.closeMissing .grace else k
      (∀ (k : Book) (c : Cause) (i : Slot),
        (k.closeMissing c).state = .due c ∧ (k.closeMissing c).boundary = k.boundary ∧
          (k.closeMissing c).entries[i] = if k.entries[i] = .pending then .missing else k.entries[i]) ∧
      ∃ n : Book, (s.boundaryEvent len b).store =
          { s.store with books := s.store.books.map close ++ [n], carried := 0, fresh := false } ∧
        n.boundary = b ∧
        n.span = (if s.store.fresh then 1 else s.store.carried + (b - s.calendar.bLast)) ∧
        n.state = .opened ∧ n.setIx = ix ∧ n.prices = s.tariff.sets[ix] ∧ n.flags = s.reserve.flags ∧
        n.marked = false ∧ n.markA = false ∧ n.markB = false ∧
        (∀ i : Slot, n.entries[i] =
          if (s.household i).member = .enrolled ∨ (s.household i).member = .active then .pending else .excluded) ∧
        (s.boundaryEvent len b).reserve =
          { s.reserve with flags :=
            { scarce := s.reserve.state.effective = .scarce, surplus := s.reserve.state.effective = .surplus,
              stale := s.reserve.state.isStale } }) ∧
    ∀ (s : State) (len b : Nat),
      (s.service = .service → s.supply.warning = true →
        (s.boundaryEvent len b).store = { s.store with carried := s.store.carried + (b - s.calendar.bLast) } ∧
          ((s.boundaryEvent len b).notices.cell .span).flag = true ∧ (s.boundaryEvent len b).reserve = s.reserve) ∧
      (s.service = .service → s.supply.warning = false → 6 ≤ s.store.books.length →
        (s.boundaryEvent len b).store = { s.store with
            books := s.store.books.map fun k : Book =>
              if k.state = .opened ∧ s.charterWord 3 < b - k.boundary then k.closeMissing .grace else k
            carried := s.store.carried + (b - s.calendar.bLast) } ∧
          ((s.boundaryEvent len b).notices.cell .span).flag = true ∧ (s.boundaryEvent len b).reserve = s.reserve) ∧
      (s.service ≠ .service → (s.boundaryEvent len b).store = s.store ∧ (s.boundaryEvent len b).reserve = s.reserve)

/-- SNAPSHOT_DELIVERY takes the delivery that has waited longest: into a PENDING entry of an OPEN book in SERVICE, RECEIVED or
NOT_HELD, the book then DUE by COMPLETE exactly when it is marked and nothing of it is PENDING and uncovered; late and
counted for a DUE, SETTLING or unheld book; discarded uncounted in WARNING (R50, R53, R54, R55). It waits while
the settlement engine waits for the array to take a book (R185, log 6, log 9). The deliveries wait first in, first out (log 10);
an entry already filled stays as it is (log 11). That the filing itself makes a marked book DUE by COMPLETE is the model's choice
(log 38): R50 and R53 are followed against R64 of section 3.7, by which a book whose last uncovered PENDING entry is filed closes
by COMPLETE at the SUBSET that follows. -/
def Obligations.DeliveriesAreFiledOrLate : Prop :=
  ∀ (s : State) (d : Delivery) (rest : List Delivery), s.power.phase = .running → s.store.deliveries = d :: rest →
    (s.startable ≠ none → exec .snapshotDelivery s = .next s) ∧
    (s.supply.warning = true →
      exec .snapshotDelivery s = .next { s with store := { s.store with deliveries := rest } }) ∧
    (s.startable = none → s.supply.warning = false → (∀ b, s.bookOf d.boundary = some b → b.state ≠ .opened) →
      exec .snapshotDelivery s =
        .next { s with store := { s.store with deliveries := rest, late := min (s.store.late + 1) 65535 } }) ∧
    ∀ b, s.startable = none → s.supply.warning = false → s.bookOf d.boundary = some b → b.state = .opened →
      (b.entries[d.slot] ≠ .pending →
        exec .snapshotDelivery s = .next { s with store := { s.store with deliveries := rest } }) ∧
      (b.entries[d.slot] = .pending → s.service = .service →
        ∃ t k, exec .snapshotDelivery s = .next t ∧ t = { s with store := t.store } ∧
          t.store = { s.store with deliveries := rest, books := t.store.books } ∧
          t.bookOf d.boundary = some k ∧
          k.entries = b.entries.set d.slot (match d.snap with
            | some snap => .received snap
            | none => .notHeld) ∧
          ((b.marked = true ∧ ∀ i : Slot, k.entries[i] = .pending → s.covers d.boundary i = true) →
            k = { b with entries := k.entries, state := .due .complete }) ∧
          (¬(b.marked = true ∧ ∀ i : Slot, k.entries[i] = .pending → s.covers d.boundary i = true) →
            k = { b with entries := k.entries }) ∧
          ∀ n, n ≠ d.boundary → t.bookOf n = s.bookOf n)

/-- CLOSENOW makes the oldest OPEN book DUE by FORCED with its PENDING entries MISSING, whatever its mark, and answers its
boundary and their number; with no OPEN book it answers NO STATE (R52). -/
def Obligations.ClosenowForcesTheOldestOpenBook : Prop :=
  ∀ s : State, s.serves .CLOSENOW [] → s.service ≠ .uncommissioned → s.supply.warning = false →
    ((∀ b ∈ s.store.books, b.state ≠ .opened) →
      exec (.closenow []) s = .next (s.answering .CLOSENOW [] [[.kw .NO, .kw .STATE]])) ∧
    ∀ (older younger : List Book) (b : Book), s.store.books = older ++ b :: younger →
      (∀ k ∈ older, k.state ≠ .opened) → b.state = .opened →
      (∀ k ∈ older ++ younger, k.boundary ≠ b.boundary) →
      exec (.closenow []) s =
        .next ({ s with store := { s.store with
            books := older ++ b.closeMissing .forced :: younger } }.answering .CLOSENOW []
          [[.kw .OK, .num b.boundary, .num ((allSlots.countP fun i : Slot => b.entries[i] = Entry.pending : Nat) : Int)]])

/-- SUBSET writes an enabled entry, replacing the one of its slot and boundary or joining when fewer than 8 are held, and the
book is tested for COMPLETE; SUBOFF keeps an entry's amounts and disables it; SUBCLR removes it. A boundary of a DUE or
SETTLING book, or one that gets no book, answers NO LATE: a held book's while that book is not OPEN, any other at or below
b_last or below the oldest held book's; an entry not held answers NO ABSENT. An enabled entry covers the entry of its slot in the
book of its boundary (R44, R50, R56, R58, R59, R60). -/
def Obligations.SubstitutionRequestsEditTheTable : Prop :=
  (∀ (s : State) (i : Slot) (b imp exp : Nat) (c : Settings) (args : List Tok),
      args = [.num (slotNumber i), .num b, .num imp, .num exp] → s.serves .SUBSET args →
      s.service ≠ .uncommissioned → s.supply.warning = false → 1 ≤ b → b ≤ s.calendar.bLast + 64 →
      (s.household i).settings = some c →
      (s.tooLate b = true → exec (.subset args) s = .next (s.answering .SUBSET args [[.kw .NO, .kw .LATE]])) ∧
      (s.tooLate b = false → ¬(imp ≤ c.cap ∧ exp ≤ c.cap) →
        exec (.subset args) s = .next (s.answering .SUBSET args [[.kw .NO, .kw .RANGE]])) ∧
      (s.tooLate b = false → imp ≤ c.cap → exp ≤ c.cap →
        let new : Sub := { slot := i, boundary := b, imp := imp, exp := exp, enabled := true }
        ((∃ e ∈ s.store.subs, e.slot = i ∧ e.boundary = b) →
          exec (.subset args) s =
            .next (({ s with store := { s.store with
                subs := s.store.subs.map fun e : Sub => if e.slot = i ∧ e.boundary = b then new else e } }.testComplete
                  b).answering .SUBSET args
              [[.kw .OK, .kw .REPLACED, .num s.store.subs.length]])) ∧
        ((∀ e ∈ s.store.subs, ¬(e.slot = i ∧ e.boundary = b)) →
          (8 ≤ s.store.subs.length →
            exec (.subset args) s = .next (s.answering .SUBSET args [[.kw .NO, .kw .ROOM]])) ∧
          (s.store.subs.length < 8 →
            exec (.subset args) s =
              .next (({ s with store := { s.store with subs := s.store.subs ++ [new] } }.testComplete b).answering
                .SUBSET args [[.kw .OK, .kw .NEW, .num ((s.store.subs.length + 1 : Nat) : Int)]]))))) ∧
    (∀ (s : State) (i : Slot) (b : Nat) (r : Req) (args : List Tok),
      args = [.num (slotNumber i), .num b] → r = .SUBOFF ∨ r = .SUBCLR → s.serves r args →
      s.service ≠ .uncommissioned → s.supply.warning = false → 1 ≤ b → b ≤ s.calendar.bLast + 64 →
      (s.tooLate b = true → exec (instrOf r args) s = .next (s.answering r args [[.kw .NO, .kw .LATE]])) ∧
      (s.tooLate b = false → (∀ e ∈ s.store.subs, ¬(e.slot = i ∧ e.boundary = b)) →
        exec (instrOf r args) s = .next (s.answering r args [[.kw .NO, .kw .ABSENT]])) ∧
      (s.tooLate b = false → (∃ e ∈ s.store.subs, e.slot = i ∧ e.boundary = b) →
        (r = .SUBOFF →
          exec (.suboff args) s =
            .next ({ s with store := { s.store with
                subs := s.store.subs.map fun e : Sub =>
                  if e.slot = i ∧ e.boundary = b then { e with enabled := false } else e } }.answering .SUBOFF args
              [[.kw .OK]])) ∧
        (r = .SUBCLR →
          exec (.subclr args) s =
            .next ({ s with store := { s.store with
                subs := s.store.subs.filter fun e : Sub => !(e.slot = i && e.boundary = b) } }.answering .SUBCLR args
              [[.kw .OK, .num ((s.store.subs.filter fun e : Sub => !(e.slot = i && e.boundary = b)).length : Int)]])))) ∧
    (∀ (s : State) (b : Nat),
      (∀ k, s.bookOf b = some k → (s.tooLate b = true ↔ k.state ≠ .opened)) ∧
        (s.bookOf b = none →
          (s.tooLate b = true ↔
            b ≤ s.calendar.bLast ∨ ∃ oldest rest, s.store.books = oldest :: rest ∧ b < oldest.boundary))) ∧
    (∀ (s : State) (b : Nat) (i : Slot),
      s.covers b i = true ↔ ∃ e ∈ s.store.subs, e.enabled = true ∧ e.boundary = b ∧ e.slot = i) ∧
    ∀ (s : State) (b : Nat),
      let t := s.testComplete b
      (s.bookOf b = none → t = s) ∧ t = { s with store := { s.store with books := t.store.books } } ∧
        t.store.books.map Book.boundary = s.store.books.map Book.boundary ∧ (∀ n, n ≠ b → t.bookOf n = s.bookOf n) ∧
        ∀ k, s.bookOf b = some k →
          let complete :=
            k.state = .opened ∧ k.marked = true ∧ ∀ i : Slot, k.entries[i] = .pending → s.covers b i = true
          (complete → t.bookOf b = some { k with state := .due .complete }) ∧ (¬complete → t.bookOf b = some k)

/-- BOOKS, BOOKREAD and SUBREAD report the held books in the order held, their entries in slot order, and the substitution
entries sorted by boundary and then slot (R59, R65, R66). That the order held is boundary order is BookStoreStaysSound's. Which
entries show COVERED is the model's reading (log 36). The order of the reserve flags' names is the model's choice (log 51). -/
def Obligations.BookReadsReport : Prop :=
  (∀ s : State, s.serves .BOOKS [] → s.service ≠ .uncommissioned →
      exec (.books []) s =
        .next (s.answering .BOOKS []
          ([.kw .OK, .num s.store.books.length, .num s.store.carried, .num s.store.late] ::
            s.store.books.map s.bookLine ++ [[.kw .END]]))) ∧
    (∀ (s : State) (b : Book),
      s.bookLine b =
        [.num b.boundary, .num b.span, .kw b.state.kw,
          (match b.state with
            | .opened => .dash
            | .due c => .kw c.kw
            | .settling c => .kw c.kw),
          .num b.setIx.val, .kw (if b.marked then .MARKED else .UNMARKED),
          .num (b.countOf .PENDING), .num (b.countOf .RECEIVED), .num (b.countOf .NOT_HELD), .num (b.countOf .MISSING),
          .num (b.countOf .SUBSTITUTED), .num (b.countOf .EXCLUDED), .num (s.coveredPending b)]) ∧
    (∀ (s : State) (b : Book) (k : Kw),
      b.countOf k =
          allSlots.countP (fun i : Slot => (match b.entries[i] with
            | .excluded => Kw.EXCLUDED
            | .pending => .PENDING
            | .received _ => .RECEIVED
            | .notHeld => .NOT_HELD
            | .missing => .MISSING
            | .substituted _ _ => .SUBSTITUTED) = k) ∧
        s.coveredPending b =
          allSlots.countP (fun i : Slot => b.entries[i] = .pending ∧ s.covers b.boundary i = true)) ∧
    (∀ (s : State) (b : Book) (i : Slot),
      b.fields =
          [.num b.boundary, .num b.span, .kw b.state.kw,
            (match b.state with
              | .opened => .dash
              | .due c => .kw c.kw
              | .settling c => .kw c.kw),
            .num b.setIx.val, .num b.prices.community, .num b.prices.feed, .num b.prices.feedSurplus, .num b.prices.plant,
            .num b.prices.plantScarcity, .num b.prices.levy,
            if b.flags.names = [] then .kw .NONE else .names b.flags.names,
            .kw (if b.marked then .MARKED else .UNMARKED)] ∧
        s.entryLine b i =
          [Field.num (slotNumber i)] ++
            (match b.entries[i] with
              | .excluded => [.kw .EXCLUDED, .dash, .dash, .dash, .dash]
              | .pending => [.kw .PENDING, .dash, .dash, .dash, .dash]
              | .received snap =>
                [.kw .RECEIVED, .num snap.imp.toNat, .num snap.exp.toNat, .kw snap.status.kw, .kw snap.relay.kw]
              | .notHeld => [.kw .NOT_HELD, .dash, .dash, .dash, .dash]
              | .missing => [.kw .MISSING, .dash, .dash, .dash, .dash]
              | .substituted i e => [.kw .SUBSTITUTED, .num i, .num e, .dash, .dash]) ++
            [if (b.state = .opened ∨ b.entries[i] = .pending) ∧ s.covers b.boundary i = true then .kw .COVERED else .dash]) ∧
    (∀ e : Sub, e.line =
      [.num (slotNumber e.slot), .num e.boundary, .num e.imp, .num e.exp, .kw (if e.enabled then .ON else .OFF)]) ∧
    (∀ (s : State) (b : Book), s.serves .BOOKREAD [.num b.boundary] → s.service ≠ .uncommissioned →
      (s.bookOf b.boundary = some b →
        exec (.bookread [.num b.boundary]) s =
          .next (s.answering .BOOKREAD [.num b.boundary]
            ((.kw .OK :: b.fields) :: (allSlots.filter fun i => b.entries[i] ≠ .excluded).map (s.entryLine b) ++
              [[.kw .END]]))) ∧
      (s.bookOf b.boundary = none →
        exec (.bookread [.num b.boundary]) s =
          .next (s.answering .BOOKREAD [.num b.boundary] [[.kw .NO, .kw .ABSENT]]))) ∧
    (∀ (s : State) (b : Book) (i : Slot), s.serves .BOOKREAD [.num b.boundary, .num (slotNumber i)] →
      s.service ≠ .uncommissioned → s.bookOf b.boundary = some b →
      exec (.bookread [.num b.boundary, .num (slotNumber i)]) s =
        .next (s.answering .BOOKREAD [.num b.boundary, .num (slotNumber i)] [.kw .OK :: s.entryLine b i])) ∧
    ∀ s : State, s.serves .SUBREAD [] → s.service ≠ .uncommissioned →
      ∃ subs : List Sub, subs.Perm s.store.subs ∧
        subs.Pairwise (fun a b => a.boundary < b.boundary ∨ (a.boundary = b.boundary ∧ a.slot ≤ b.slot)) ∧
        exec (.subread []) s = .next (s.answering .SUBREAD [] ([.kw .OK] :: subs.map Sub.line ++ [[.kw .END]]))

/-- Every step keeps at most 6 books in rising boundary order, books only in SERVICE and SERVICE only with a locked charter, and
at most one book, the oldest, SETTLING, exactly while a computation for it is in flight (R42, R43, R67, R199). -/
def Obligations.BookStoreStaysSound : Prop :=
  ∀ s t : State, s.storeSound → step s = .next t → t.storeSound

/-! ## Settlement (chapter 4) -/

/-- SETTLING_START takes the oldest DUE book when the engine is IDLE without a deferral cause in SERVICE with the monitor GOOD:
enabled substitutions fire, and the computation fixes the entries, member states, caps and baselines; otherwise nothing
happens (R61, R68, R69). Its taking as a command of its own is the model's (log 9). -/
def Obligations.SettlingStartTakesTheOldestDueBook : Prop :=
  ∀ s : State, s.power.phase = .running →
    (s.startable = none → exec .settlingStart s = .next s) ∧
    (s.startable ≠ none ↔
      s.settlement = { computation := none, deferral := .none } ∧ s.service = .service ∧ s.supply.warning = false ∧
        ∃ b rest c, s.store.books = b :: rest ∧ b.state = .due c) ∧
    ∀ (b : Book) (rest : List Book) (c : Cause), s.settlement = { computation := none, deferral := .none } →
      s.service = .service → s.supply.warning = false → s.store.books = b :: rest → b.state = .due c →
      (∀ k ∈ rest, k.boundary ≠ b.boundary) →
      ∃ (entries : Vector Entry 96) (comp : Computation),
        (∀ i : Slot, entries[i] =
          if b.entries[i] = .excluded then .excluded
          else
            match s.store.subs.find? fun e => e.enabled && e.boundary = b.boundary && e.slot = i with
            | some e => .substituted e.imp e.exp
            | none => b.entries[i]) ∧
        comp.boundary = b.boundary ∧ comp.span = b.span ∧ comp.prices = b.prices ∧ comp.flags = b.flags ∧
        comp.tolerance = s.charterWord 7 ∧
        (∀ i : Slot, comp.slots[i].entry = entries[i] ∧ comp.slots[i].member = (s.household i).member ∧
          comp.slots[i].bases = (s.household i).bases ∧
          ∀ g, (s.household i).settings = some g → comp.slots[i].cap = g.cap) ∧
        exec .settlingStart s =
          .next { s with
            store := { s.store with books := { b with state := .settling c, entries := entries } :: rest }
            settlement := { computation := some comp, deferral := .none } }

/-- A household's derivation, by its entry, its member state and its baselines at the start of the computation: nothing in
FAULT, for an EXCLUDED entry, or for a NOT_HELD, MISSING or SUBSTITUTED one without baselines; the baseline, substitution and
miss rules; and the catch-up rule, each direction judged on its own, CAPPED and AHEAD flagged and each baseline moved as judged,
a regression in either direction voiding both (R72 to R78). That CAPPED stands before AHEAD in a line's flags is the model's
choice (log 52). -/
def Obligations.DerivationFollowsTheRules : Prop :=
  (∀ (span tolerance : Nat) (x : SlotInput),
      (x.member = .fault ∨ x.entry = .excluded ∨ x.entry = .pending → derive span tolerance x = none) ∧
      (x.bases = none → x.entry = .notHeld ∨ x.entry = .missing ∨ (∃ i e, x.entry = .substituted i e) →
        derive span tolerance x = none) ∧
      (x.member ≠ .fault →
        (∀ snap, x.entry = .received snap → x.bases = none →
          derive span tolerance x =
            some { imp := 0, exp := 0, flags := [.base], bases := some { imp := snap.imp, exp := snap.exp }, misses := .keep }) ∧
        (∀ snap b, x.entry = .received snap → x.bases = some b →
          let i := judge (min (x.cap * span) 65535) tolerance b.imp snap.imp
          let e := judge (min (x.cap * span) 65535) tolerance b.exp snap.exp
          let energy := fun j : Judged => match j with
            | .forward n _ => n
            | .capped n _ => n
            | .ahead => 0
            | .regression => 0
          let base := fun (old : Word32) (j : Judged) => match j with
            | .forward _ w => w
            | .capped _ w => w
            | .ahead => old
            | .regression => old
          let capped : Judged → Bool := fun j => match j with
            | .capped _ _ => true
            | _ => false
          (i = .regression ∨ e = .regression →
            derive span tolerance x =
              some { imp := 0, exp := 0, flags := [.regression], bases := none, misses := .zero }) ∧
          (i ≠ .regression → e ≠ .regression →
            derive span tolerance x =
              some { imp := energy i, exp := energy e
                     flags := (if (capped i || capped e) = true then [.capped] else []) ++
                       (if i = .ahead ∨ e = .ahead then [.ahead] else [])
                     bases := some { imp := base b.imp i, exp := base b.exp e }, misses := .zero })) ∧
        (∀ i e b, x.entry = .substituted i e → x.bases = some b →
          derive span tolerance x =
            some { imp := i, exp := e, flags := [.subst], misses := .zero
                   bases := some { imp := b.imp + BitVec.ofNat 32 i, exp := b.exp + BitVec.ofNat 32 e } }) ∧
        (x.bases ≠ none →
          (x.entry = .missing →
            derive span tolerance x = some { imp := 0, exp := 0, flags := [.missing], bases := none, misses := .rise }) ∧
          (x.entry = .notHeld →
            derive span tolerance x =
              some { imp := 0, exp := 0, flags := [.notHeld], bases := none, misses := .rise })))) ∧
    ∀ (capE tolerance : Nat) (base cum : Word32), capE ≤ 65535 → tolerance ≤ 65535 →
      let d := (cum.toNat + 4294967296 - base.toNat) % 4294967296
      (d ≤ capE → judge capE tolerance base cum = .forward d cum) ∧
      (capE < d → d < 2147483648 →
        judge capE tolerance base cum = .capped capE (base + BitVec.ofNat 32 capE)) ∧
      (2147483648 ≤ d → 4294967296 - d ≤ tolerance → judge capE tolerance base cum = .ahead) ∧
      (2147483648 ≤ d → tolerance < 4294967296 - d → judge capE tolerance base cum = .regression)

/-- Largest remainder: on a side of total t the matched energies of its members sum to M exactly, none above its member's own
amount; on a short side each member has its whole amount (R81), on a long one the floor of its share and at most one Wh more, the
shortfall going to the members of the largest remainders, of equal remainders to the lower slots (R82, R83). A computation settles
each slot's net demand or supply (R80), prices it by the book's prices and flags (R85) and gives each buyer its debit (R86), each
seller its levy and credit (R87) and the fund the rest; the debits, the credits and the fund change sum to 0, and the buyers are
matched for as much as the sellers, for every set of inputs (R37, R84, R88). -/
def Obligations.SharesSumToMAndMoneyIsConserved : Prop :=
  (∀ (m : Nat) (x : Vector Nat 96), m ≤ total x →
      (allSlots.map (matchedOf m (total x) x)).sum = m ∧ ∀ i : Slot, matchedOf m (total x) x i ≤ x[i]) ∧
    (∀ (m : Nat) (x : Vector Nat 96),
      let t := x.toList.sum
      let rest := fun i : Slot => m * x[i] % t
      total x = t ∧ (m = t → ∀ i : Slot, matchedOf m t x i = x[i]) ∧
        (m < t → ∃ extra : Slot → Bool,
          (∀ i : Slot, matchedOf m t x i = m * x[i] / t + if extra i then 1 else 0) ∧
            allSlots.countP extra = (allSlots.map rest).sum / t ∧
            ∀ i j : Slot, extra i = true → rest i < rest j ∨ (rest i = rest j ∧ j < i) → extra j = true)) ∧
    (∀ c : Computation,
      let d := fun i : Slot => derive c.span c.tolerance c.slots[i]
      let p := c.prices
      ∃ buys sells : Vector Nat 96,
        (∀ i : Slot, c.derivations[i] = d i ∧
          (buys[i] : Int) = (match d i with
            | some k => max 0 ((k.imp : Int) - k.exp)
            | none => 0) ∧
          (sells[i] : Int) = (match d i with
            | some k => max 0 ((k.exp : Int) - k.imp)
            | none => 0)) ∧
        c.results.length = 96 ∧
        ∀ i : Slot, ∃ r, c.results[i.val]? = some r ∧ r.slot = i ∧ r.derived = d i ∧ r.demand = buys[i] ∧
          r.supply = sells[i] ∧ (r.residual : Int) = r.demand + r.supply - r.matched ∧
          (let m := min (total buys) (total sells)
           (0 < r.demand → r.matched = matchedOf m (total buys) buys i) ∧
             (0 < r.supply → r.matched = matchedOf m (total sells) sells i) ∧
             (r.demand = 0 → r.supply = 0 → r.matched = 0)) ∧
          (0 < r.demand →
            let plant : Int := r.residual * (if c.flags.scarce then p.plantScarcity else p.plant : Nat)
            r.debit = r.matched * p.community + plant ∧ r.credit = 0 ∧ r.levy = 0 ∧ r.fundPart = plant) ∧
          (0 < r.supply →
            let feed : Int := r.residual * (if c.flags.surplus then p.feedSurplus else p.feed : Nat)
            r.levy = r.matched * p.community * p.levy / 1000 ∧ r.credit = r.matched * p.community - r.levy + feed ∧
              r.debit = 0 ∧ r.fundPart = r.levy - feed) ∧
          (r.demand = 0 → r.supply = 0 → r.debit = 0 ∧ r.credit = 0 ∧ r.levy = 0 ∧ r.fundPart = 0)) ∧
    ∀ c : Computation,
      fundChange c.results = (c.results.map fun r => r.fundPart).sum ∧
      (c.results.map fun r => r.credit - r.debit + r.fundPart).sum = 0 ∧
        (c.results.map fun r => if 0 < r.demand then (r.matched : Int) else 0).sum =
          (c.results.map fun r => if 0 < r.supply then (r.matched : Int) else 0).sum

/-- POSTING_ATTEMPT: with no room in the journal, or with a listed balance or the fund outside its limit, the book is DUE again
and nothing of the accounts changes, the cause and its notice saying why; the journal is checked first (R89, R92, R106). One
that succeeds: every slot's balance moves by its credit minus its debit, the fund by the fund change, the injection total by
nothing; baselines, miss counts and member states move as the derivations say, and the slots it vacates are emptied (R33, R34,
R90); the book leaves, with every substitution entry at or below its boundary (R62, R63); one SETTLED record joins the journal
with a line for each slot listed; the engine is IDLE with no deferral cause; SETTLED is set once, HOUSEHOLD_FAULT, METER_SILENT
and SUBST_DROPPED as often as there is cause; and last every household listed is evaluated (R91, R98, R160). Listed are the
slots that settle energy or a flag and those that the posting vacates (R79, R89): LEAVING ones whose only held book with an
entry is this one and whose balance comes to 0 (R90); header and lines hold what R91 hands over. That the miss count of a
RECEIVED or SUBSTITUTED entry settled without a line becomes 0 too is the model's reading (log 18), and so are the zeros in a
line that is listed only because its slot is vacated (log 34). That VACATED stands last in a line's flags is the model's choice
(log 52). -/
def Obligations.PostingAppliesAllOrNothing : Prop :=
  (∀ (s : State) (c : Computation) (b : Book), s.power.phase = .running → s.settlement.computation = some c →
      s.bookOf c.boundary = some b →
      let ls := s.listed b c.results
      let failed := fun (d : Deferral) (n : Notice) =>
        ({ s with
          store := { s.store with
            books := s.store.books.map fun k => if k.boundary = b.boundary then { k with state := k.state.undo } else k }
          settlement := { computation := none, deferral := d } } : State).notify n
      (s.journal.hasRoom 1 ls.length = false → exec .postingAttempt s = .next (failed .journalFull .journalFull)) ∧
      (s.journal.hasRoom 1 ls.length = true →
        (∃ r ∈ ls, withinLimit ((s.household r.slot).balance + r.credit - r.debit) = false) ∨
            withinLimit (s.fund + fundChange c.results) = false →
        exec .postingAttempt s = .next (failed .balanceLimit .balanceLimit))) ∧
    (∀ (s : State) (c : Computation) (b : Book), s.power.phase = .running → s.settlement.computation = some c →
      s.bookOf c.boundary = some b → s.journal.hasRoom 1 (s.listed b c.results).length = true →
      (∀ r ∈ s.listed b c.results, withinLimit ((s.household r.slot).balance + r.credit - r.debit) = true) →
      withinLimit (s.fund + fundChange c.results) = true →
      let gone := fun i : Slot => c.results.any fun r => s.postingVacates b r && r.slot = i
      ∃ t : State, exec .postingAttempt s = .next t ∧
        (∀ r ∈ c.results, (t.household r.slot).balance = (s.household r.slot).balance + r.credit - r.debit) ∧
        t.fund = s.fund + fundChange c.results ∧ t.injection = s.injection ∧
        t.store.books = s.store.books.filter (fun k => k.boundary ≠ b.boundary) ∧
        t.store.subs.Sublist s.store.subs ∧ (∀ e ∈ t.store.subs, b.boundary < e.boundary) ∧
        t.journal = s.journal.append
          (.settled (s.headerOf b c.derivations (fundChange c.results)) ((s.listed b c.results).map (s.lineOf b))) ∧
        t.settlement = { computation := none, deferral := .none } ∧ (t.notices.cell .settled).flag = true ∧
        (∀ r ∈ c.results, s.postingVacates b r = true →
          (t.household r.slot).member = .vacant ∧ (t.household r.slot).settings = none ∧
            (t.household r.slot).bases = none ∧ (t.household r.slot).misses = 0) ∧
        (∀ r ∈ c.results, s.postingVacates b r = false →
          let h := s.household r.slot
          let k := t.household r.slot
          k.settings = h.settings ∧ k.confirmed = h.confirmed ∧
            (r.derived = none → k.bases = h.bases ∧ k.misses = h.misses ∧ k.member = h.member) ∧
            ∀ d, r.derived = some d →
              k.bases = (match d.bases with
                | some moved => if d.imp = 0 ∧ d.exp = 0 ∧ d.flags = [] then h.bases else some moved
                | none => h.bases) ∧
              k.misses = (match d.misses with
                | .keep => h.misses
                | .zero => 0
                | .rise => min (h.misses + 1) 255) ∧
              k.member =
                if .regression ∈ d.flags ∧ (h.member = .active ∨ h.member = .suspended) then .fault
                else if .regression ∉ d.flags ∧ .base ∈ d.flags ∧ h.member = .enrolled then .active
                else h.member) ∧
        t.store.subs = (s.store.subs.filter fun e : Sub => b.boundary < e.boundary && !gone e.slot) ∧
        (let raised := fun (n : Notice) (k : Nat) =>
            ((t.notices.cell n).flag = true ↔ (s.notices.cell n).flag = true ∨ 0 < k) ∧
              ((s.notices.cell n).count ≤ 255 →
                (t.notices.cell n).count = ((s.notices.cell n).count + k) % 256)
         raised .settled 1 ∧
            raised .householdFault (c.results.countP fun r => r.derived.any fun d => decide (.regression ∈ d.flags)) ∧
            raised .meterSilent (c.results.countP fun r => r.derived.any fun d =>
              let n := (s.household r.slot).misses
              d.misses = .rise && n < 255 && (n + 1) % 3 = 0) ∧
            raised .substDropped (s.store.subs.countP fun e : Sub =>
              e.enabled && (e.boundary < b.boundary || (e.boundary = b.boundary && b.entries[e.slot] = .excluded) ||
                (b.boundary < e.boundary && gone e.slot)))) ∧
        ∃ u : State, t = ((s.listed b c.results).map SlotResult.slot).foldl State.evaluate u ∧
          (∀ i, u.household i = { t.household i with wanted := (s.household i).wanted }) ∧
          ∀ f, (u.engine f).queue = (s.engine f).queue.filter fun e => !gone e.slot) ∧
    (∀ (s : State) (b : Book) (rs : List SlotResult),
      (∀ r : SlotResult,
        s.postingVacates b r = true ↔
          (s.household r.slot).member = .leaving ∧ b.entries[r.slot] ≠ .excluded ∧
            (∀ k ∈ s.store.books, k.boundary ≠ b.boundary → k.entries[r.slot] = .excluded) ∧
            (s.household r.slot).balance + r.credit - r.debit = 0) ∧
        s.listed b rs = rs.filter fun r : SlotResult =>
          s.postingVacates b r || r.derived.any fun d => d.imp ≠ 0 || d.exp ≠ 0 || d.flags ≠ []) ∧
    (∀ (s : State) (b : Book) (r : SlotResult),
      let l := s.lineOf b r
      l.slot = r.slot ∧ l.demand = r.demand ∧ l.supply = r.supply ∧ l.matched = r.matched ∧ l.residual = r.residual ∧
        l.debit = r.debit ∧ l.credit = r.credit ∧ l.levy = r.levy ∧
        l.balanceAfter = (s.household r.slot).balance + r.credit - r.debit ∧
        l.flags = (match r.derived with
          | some d => d.flags
          | none => []) ++ (if s.postingVacates b r = true then [.vacated] else []) ∧
        (∀ d, r.derived = some d → l.imp = d.imp ∧ l.exp = d.exp) ∧ (r.derived = none → l.imp = 0 ∧ l.exp = 0) ∧
        l.status = (match b.entries[r.slot] with
          | .received snap => some snap.status
          | _ => none)) ∧
    ∀ (s : State) (b : Book) (c : Computation) (len : Nat) (k : Cause), s.intervalLength = some len →
      b.state = .settling k →
      let demand := (c.results.map fun r => r.demand).sum
      let supply := (c.results.map fun r => r.supply).sum
      s.headerOf b c.derivations (fundChange c.results) =
        { boundary := b.boundary, span := b.span, cause := k, instant := boundaryInstant len b.boundary, setIx := b.setIx
          prices := b.prices, flags := b.flags, demand := demand, supply := supply, matched := min demand supply
          plant := demand - min demand supply, feed := supply - min demand supply, fundChange := fundChange c.results
          fundAfter := s.fund + fundChange c.results }

/-- Every step keeps the accounts sound: the sum of all household balances and the fund balance equals the injection total, a
VACANT slot holding none of it, with the book store sound and every held entry that of a household (R37). -/
def Obligations.EveryMicrocreditStaysAccountedFor : Prop :=
  ∀ s t : State, s.accountsSound → step s = .next t → t.accountsSound

/-! ## Settlement journal (chapter 5) -/

/-- Every step keeps the journal at most 64 records and 3072 lines, its records numbered consecutively and the next number
fitting the newest; EXHAUSTED only after 4,294,967,295 (R96, R97). -/
def Obligations.JournalStaysConsecutiveAndBounded : Prop :=
  ∀ s t : State, s.journal.sound → step s = .next t → t.journal.sound

/-- JRELEASE removes every held record numbered n or less, keeps the next sequence number, is a retry event, and answers the
records removed, held and the lines held; a number above the newest held is refused with RANGE (R104). -/
def Obligations.JreleaseRemovesTheOldRecords : Prop :=
  ∀ (s : State) (n : Nat) (args : List Tok), args = [.num n] → n ≤ 4294967295 → s.serves .JRELEASE args →
    s.service ≠ .uncommissioned → s.supply.warning = false →
    ((∃ r, s.journal.records.getLast? = some r ∧ r.seq < n) →
      exec (.jrelease args) s = .next (s.answering .JRELEASE args [[.kw .NO, .kw .RANGE]])) ∧
    ((∀ r, s.journal.records.getLast? = some r → n ≤ r.seq) →
      let kept := s.journal.records.filter fun r => n < r.seq
      exec (.jrelease args) s =
        .next ({ s with
            journal := { s.journal with records := kept }
            settlement := { s.settlement with deferral := .none } }.answering .JRELEASE args
          [[.kw .OK, .num ((s.journal.records.length - kept.length : Nat) : Int), .num kept.length,
            .num ((kept.map fun r : JournalRecord => r.body.lineCount).sum : Int)]]))

/-- JSTAT reports the oldest and newest held sequence numbers, the records and lines held, the next sequence number and the
deferral cause; JREAD returns a held record whole, by number or the oldest, with the header and the lines of its kind, and
answers NO ABSENT for one not held (R99 to R103, R105). A record joins the journal at its young end with the next sequence
number, which then rises by 1, after 4,294,967,295 to EXHAUSTED (R97); there is room for records with their lines while at most
64 records and 3072 lines are held then and the numbers suffice (R98). The order of the names in the reserve flags and in a
line's flags is the model's choice (log 51, log 52). -/
def Obligations.JreadAndJstatReport : Prop :=
  (∀ (j : Journal) (body : RecordBody) (q : Nat), j.nextSeq = some q →
      j.nextNumber = q ∧
        j.append body =
          { records := j.records ++ [{ seq := q, body := body }]
            nextSeq := if q < 4294967295 then some (q + 1) else none }) ∧
    (∀ (j : Journal) (records lines : Nat), 0 < records →
      (j.hasRoom records lines = true ↔
        j.records.length + records ≤ 64 ∧
          (j.records.map fun r : JournalRecord => r.body.lineCount).sum + lines ≤ 3072 ∧
          ∃ q, j.nextSeq = some q ∧ q + records ≤ 4294967296)) ∧
    (∀ body : RecordBody, body.lineCount = body.lines.length) ∧
  (∀ s : State, s.serves .JSTAT [] → s.service ≠ .uncommissioned →
      let j := s.journal
      let number := fun r : Option JournalRecord => match r with
        | some r => Field.num r.seq
        | none => Field.dash
      exec (.jstat []) s =
        .next (s.answering .JSTAT []
          [[.kw .OK, number j.records.head?, number j.records.getLast?, .num j.records.length,
            .num ((j.records.map fun r : JournalRecord => r.body.lineCount).sum : Int),
            (match j.nextSeq with
              | some q => .num q
              | none => .kw .EXHAUSTED),
            .kw (match s.settlement.deferral with
              | .none => .NONE
              | .journalFull => .JOURNAL_FULL
              | .balanceLimit => .BALANCE_LIMIT)]])) ∧
    (∀ (s : State) (n : Nat), n ≤ 4294967295 → s.serves .JREAD [.num n] → s.service ≠ .uncommissioned →
      ((∀ r ∈ s.journal.records, r.seq ≠ n) →
        exec (.jread [.num n]) s = .next (s.answering .JREAD [.num n] [[.kw .NO, .kw .ABSENT]])) ∧
      ∀ (older younger : List JournalRecord) (r : JournalRecord), s.journal.records = older ++ r :: younger →
        r.seq = n → (∀ k ∈ older, k.seq ≠ n) →
        exec (.jread [.num n]) s =
          .next (s.answering .JREAD [.num n]
            ((.kw .OK :: .num r.seq :: .kw r.body.kw :: r.body.headerFields) :: r.body.lines ++ [[.kw .END]]))) ∧
    (∀ s : State, s.serves .JREAD [.kw .OLDEST] → s.service ≠ .uncommissioned →
      (s.journal.records = [] →
        exec (.jread [.kw .OLDEST]) s = .next (s.answering .JREAD [.kw .OLDEST] [[.kw .NO, .kw .ABSENT]])) ∧
      ∀ r rest, s.journal.records = r :: rest →
        exec (.jread [.kw .OLDEST]) s =
          .next (s.answering .JREAD [.kw .OLDEST]
            ((.kw .OK :: .num r.seq :: .kw r.body.kw :: r.body.headerFields) :: r.body.lines ++ [[.kw .END]]))) ∧
    (∀ (h : SettledHeader) (lines : List SettledLine),
      let body := RecordBody.settled h lines
      body.headerFields =
          [.num h.boundary, .num h.span, .kw h.cause.kw, .date h.instant.year h.instant.month h.instant.day,
            .time h.instant.hour h.instant.minute h.instant.second, .num h.setIx.val, .num h.prices.community,
            .num h.prices.feed, .num h.prices.feedSurplus, .num h.prices.plant, .num h.prices.plantScarcity,
            .num h.prices.levy, if h.flags.names = [] then .dash else .names h.flags.names, .num h.demand, .num h.supply,
            .num h.matched, .num h.plant, .num h.feed, .num h.fundChange, .num h.fundAfter, .num lines.length] ∧
        body.lines = lines.map fun l =>
          [.num (slotNumber l.slot), if l.flags = [] then .dash else .names (l.flags.map LineFlag.kw), .num l.imp,
            .num l.exp, .num l.demand, .num l.supply, .num l.matched, .num l.residual, .num l.debit, .num l.credit,
            .num l.levy, .num l.balanceAfter,
            match l.status with
            | some m => .kw m.kw
            | none => .dash]) ∧
    (∀ (i : Slot) (c : AccountCause) (amount after : Int),
      let body := RecordBody.account i c amount after
      body.headerFields = [.num 1] ∧ body.lines = [[.num (slotNumber i), .kw c.kw, .num amount, .num after]]) ∧
    (∀ amount after : Int,
      let body := RecordBody.fund amount after
      body.headerFields = [.num 1] ∧ body.lines = [[.num amount, .num after]]) ∧
    ∀ (i : Slot) (a : MemberAction) (m : MemberState),
      let body := RecordBody.member i a m
      body.headerFields = [.num 1] ∧ body.lines = [[.num (slotNumber i), .kw a.kw, .kw m.kw]]

/-! ## Feeder links (chapter 6) -/

/-- The CRC starts at 65535 and takes each byte from its top bit: shifted left at every bit, and combined with 4129 where the
register's top bit differs; a frame ends with it, high byte first, and compares equal exactly when it is so built (R113). A frame
of an unknown kind, a length that its kind does not have, a CRC that differs, or a status or relay byte outside its list is bad;
any other of a request kind, or of address 0, is a stray; and a meter's SNAP, NOTHELD and SUPPLIED frames built byte by byte from
the table of R112 are heard as those replies (R112, R114). A frame of address 0 with such a status or relay byte is bad. -/
def Obligations.FramesAreHeardAsTheyAreBuilt : Prop :=
  (crc [] = 65535 ∧
      (∀ (bytes : List Byte) (b : Byte),
        crc (bytes ++ [b]) = [7, 6, 5, 4, 3, 2, 1, 0].foldl
          (fun (reg : Word16) (i : Nat) => if reg.msb = b.getLsbD i then reg <<< 1 else (reg <<< 1) ^^^ 4129)
          (crc bytes)) ∧
      (∀ bytes : List Byte,
        withCrc bytes = bytes ++ [(crc bytes).extractLsb' 8 8, (crc bytes).extractLsb' 0 8] ∧
          (crcGood bytes = true ↔ ∃ body, bytes = withCrc body))) ∧
    (∀ bytes : List Byte,
      (bytes.length < 2 → hear bytes = .bad) ∧
        ∀ (addr kind : Byte) (rest : List Byte), bytes = addr :: kind :: rest →
          let length : Option Nat :=
            if kind = 16 then some 12
            else if kind = 33 ∨ kind = 35 then some 6
            else if kind = 34 then some 16
            else if kind = 49 ∨ kind = 50 then some 5
            else none
          let outside :=
            (kind = 34 ∧ ∃ st re, bytes[12]? = some st ∧ bytes[13]? = some re ∧ (2 < st.toNat ∨ 1 < re.toNat)) ∨
              (kind = 50 ∧ ∃ re, bytes[2]? = some re ∧ 1 < re.toNat)
          (length ≠ some bytes.length ∨ crcGood bytes = false ∨ outside → hear bytes = .bad) ∧
            (length = some bytes.length → crcGood bytes = true → ¬outside →
              kind = 16 ∨ kind = 33 ∨ kind = 49 ∨ addr = 0 → hear bytes = .stray)) ∧
    ∀ (addr : Byte) (tag : Word16) (snap : Snapshot) (r : Relay), addr ≠ 0 →
      let word := [tag.extractLsb' 8 8, tag.extractLsb' 0 8]
      let bytes32 := fun w : Word32 => [w.extractLsb' 24 8, w.extractLsb' 16 8, w.extractLsb' 8 8, w.extractLsb' 0 8]
      let status : Byte := match snap.status with
        | .ok => 0
        | .clockLost => 1
        | .relayFault => 2
      let relay := fun r : Relay => if r = .opened then (0 : Byte) else 1
      hear (withCrc ([addr, 34] ++ word ++ bytes32 snap.imp ++ bytes32 snap.exp ++ [status, relay snap.relay])) =
          .reply addr.toNat (.snap tag snap) ∧
        hear (withCrc ([addr, 35] ++ word)) = .reply addr.toNat (.notHeld tag) ∧
        hear (withCrc [addr, 50, relay r]) = .reply addr.toNat (.supplied r)

/-- MARK_SENT reports the feeder to the boundary's book, which becomes marked when both have reported and DUE by COMPLETE
exactly when it is OPEN and then marked with no entry PENDING and uncovered, and to no other book; it enters GUARD, unless a newer
pass waits, which begins, or the pass stops. GUARD_END sends the first supply command still wanted, else asks for the first
snapshot still due, else ends the pass. An item is still due while its book is held and OPEN, its entry PENDING, no enabled
substitution entry covers it, and its household is bound to the feeder at its address. REQUEST_SENT starts the wait of the try
(R47, R50, R116, R117, R118, R119, R120, R121, R130). -/
def Obligations.PassesGoFromMarkToRequests : Prop :=
  (∀ (s : State) (f : Feeder) (b : Nat),
      let t := s.reportMark f b
      (s.bookOf b = none → t = s) ∧ t = { s with store := { s.store with books := t.store.books } } ∧
        t.store.books.map Book.boundary = s.store.books.map Book.boundary ∧ (∀ n, n ≠ b → t.bookOf n = s.bookOf n) ∧
        ∀ k, s.bookOf b = some k →
          let a := k.markA || f = .A
          let c := k.markB || f = .B
          let marked := k.marked || (a && c)
          let complete := k.state = .opened ∧ marked = true ∧ ∀ i : Slot, k.entries[i] = .pending → s.covers b i = true
          (complete →
            t.bookOf b = some { k with markA := a, markB := c, marked := marked, state := .due .complete }) ∧
            (¬complete → t.bookOf b = some { k with markA := a, markB := c, marked := marked })) ∧
    (∀ (s : State) (f : Feeder) (it : SnapItem),
      s.itemStands f it = true ↔
        (∃ k, s.bookOf it.boundary = some k ∧ k.state = .opened ∧ k.entries[it.slot] = .pending) ∧
          (∀ e ∈ s.store.subs, ¬(e.enabled = true ∧ e.boundary = it.boundary ∧ e.slot = it.slot)) ∧
          (s.household it.slot).member ≠ .vacant ∧
          ∃ c, (s.household it.slot).settings = some c ∧ c.feeder = f ∧ c.addr = it.addr) ∧
    (∀ (e : Engine) (p : Pass) (x : Exchange),
      e.inFlight = some (p, x) ↔ e.pass = some p ∧ (p.phase = .supply x ∨ p.phase = .snapshot x)) ∧
    (∀ (p : Pass) (x y : Exchange),
      (p.phase = .supply y → p.withExchange x = { p with phase := .supply x }) ∧
        (p.phase = .snapshot y → p.withExchange x = { p with phase := .snapshot x })) ∧
    (∀ (s : State) (f : Feeder) (p : Pass), s.power.phase = .running → (s.engine f).pass = some p → p.phase = .mark →
      let t := s.reportMark f p.plan.boundary
      (∀ plan, (s.engine f).next = some plan →
        exec (.markSent f) s =
          .next (t.withEngine f
            { s.engine f with pass := some { plan := plan, phase := .mark, stopping := false }, next := none })) ∧
      ((s.engine f).next = none →
        (p.stopping = true → exec (.markSent f) s = .next (t.withEngine f { s.engine f with pass := none })) ∧
        (p.stopping = false →
          exec (.markSent f) s = .next (t.withEngine f { s.engine f with pass := some { p with phase := .guard } })))) ∧
    (∀ (s : State) (f : Feeder) (p : Pass), s.power.phase = .running → (s.engine f).pass = some p → p.phase = .guard →
      let e := s.engine f
      let stale := fun q : QueueEntry =>
        (s.household q.slot).member = .vacant ∨ q.command ≠ (s.household q.slot).wanted
      (∀ skipped q rest, e.queue = skipped ++ q :: rest → (∀ k ∈ skipped, stale k) → ¬stale q →
        ∃ addr, exec (.guardEnd f) s =
            .next (s.withEngine f { e with
              queue := rest
              pass := some { p with
                phase := .supply
                  { ask := .supply q.command, slot := q.slot, addr := addr, triesLeft := e.retries, timeout := e.timeout
                    stage := .sending, vacated := false } } }) ∧
          ∀ c, (s.household q.slot).settings = some c → addr = c.addr) ∧
      ((∀ k ∈ e.queue, stale k) →
        (∀ skipped it rest, p.plan.items = skipped ++ it :: rest →
          (∀ k ∈ skipped, s.itemStands f k = false) → s.itemStands f it = true →
          exec (.guardEnd f) s =
            .next (s.withEngine f { e with
              queue := []
              pass := some { p with
                plan := { p.plan with items := rest }
                phase := .snapshot
                  { ask := .snapshot it.boundary, slot := it.slot, addr := it.addr, triesLeft := e.retries
                    timeout := e.timeout, stage := .sending, vacated := false } } })) ∧
        ((∀ it ∈ p.plan.items, s.itemStands f it = false) →
          exec (.guardEnd f) s = .next (s.withEngine f { e with queue := [], pass := none })))) ∧
    ∀ (s : State) (f : Feeder) (p : Pass) (x : Exchange), s.power.phase = .running →
      (s.engine f).inFlight = some (p, x) → x.stage = .sending →
      exec (.requestSent f) s =
        .next (s.withEngine f { s.engine f with pass := some (p.withExchange { x with stage := .waiting }) })

/-- RESPONSE_TIMEOUT of a waiting try: with a frame being received the try waits for it; with tries left it sends the next, the
same exchange, unless that is withdrawn; on the last try the exchange fails: the failed and consecutive-fail counts rise, the
sixth fail in UP makes the link DOWN and sets the feeder's notice, and a supply exchange leaves relay confirmed UNKNOWN, not in
WARNING (R120, R121, R125, R130, R131). After an exchange the pass is abandoned for a newer one that waits, or ends when it is
stopping or its link is DOWN, or goes on: a supply section as at the end of its guard wait, a snapshot section with the next item
that stands (R117 to R120, R126). The `receiving` operand is the model's (log 14); so are that a household that has become VACANT
leaves relay confirmed alone (log 12), that a withdrawn probe ends the pass of a link in DOWN (log 32), and that the next exchange
begins in the event that ends the one before (log 39). -/
def Obligations.ResponseTimeoutRetriesThenFails : Prop :=
  (∀ (s : State) (f : Feeder) (p : Pass) (x : Exchange), s.power.phase = .running →
    (s.engine f).inFlight = some (p, x) → x.stage = .waiting →
    let e := s.engine f
    let counted : Engine :=
      { e with
        failed := min (e.failed + 1) 65535, fails := min (e.fails + 1) 255
        link := if e.link = .up ∧ e.fails + 1 = 6 then .down else e.link }
    let told : State :=
      if e.link = .up ∧ e.fails + 1 = 6 then (s.withEngine f counted).notify (feederNotice f) else s.withEngine f counted
    let unconfirmed : State := match x.ask with
      | .supply _ =>
        if x.vacated = false ∧ s.supply.warning = false then
          told.withHousehold x.slot { s.household x.slot with confirmed := none }
        else told
      | .snapshot _ => told
    (s.withdrawsNow x = true ↔
        ∃ r, x.ask = .supply r ∧ (x.vacated = true ∨ r ≠ (s.household x.slot).wanted)) ∧
      exec (.responseTimeout f true) s =
        .next (s.withEngine f { e with pass := some (p.withExchange { x with stage := .overrun }) }) ∧
      (x.triesLeft ≠ 0 → s.withdrawsNow x = false →
        exec (.responseTimeout f false) s =
          .next (s.withEngine f { e with
            pass := some (p.withExchange { x with triesLeft := x.triesLeft - 1, stage := .resending }) })) ∧
      (x.triesLeft ≠ 0 → s.withdrawsNow x = true →
        ∃ t : State, exec (.responseTimeout f false) s = .next t ∧ t.table = s.table ∧ t.notices = s.notices ∧
          (t.engine f).failed = e.failed ∧ (t.engine f).fails = e.fails ∧ (t.engine f).answered = e.answered ∧
          (t.engine f).link = e.link) ∧
      (x.triesLeft = 0 →
        ∃ t : State, exec (.responseTimeout f false) s = .next t ∧ (t.engine f).failed = min (e.failed + 1) 65535 ∧
          (t.engine f).fails = min (e.fails + 1) 255 ∧ (t.engine f).answered = e.answered ∧
          (t.engine f).link = (if e.link = .up ∧ e.fails + 1 = 6 then .down else e.link) ∧
          (e.link = .up ∧ e.fails + 1 = 6 → (t.notices.cell (feederNotice f)).flag = true) ∧
          (¬(e.link = .up ∧ e.fails + 1 = 6) → t.notices = s.notices) ∧
          (∀ j, (t.household j = { s.household j with confirmed := none } ∧ j = x.slot ∧ (∃ r, x.ask = .supply r) ∧
              x.vacated = false ∧ s.supply.warning = false) ∨
            (t.household j = s.household j ∧
              ¬(j = x.slot ∧ (∃ r, x.ask = .supply r) ∧ x.vacated = false ∧ s.supply.warning = false))) ∧
          t.store = s.store) ∧
      (x.triesLeft ≠ 0 → s.withdrawsNow x = true →
        exec (.responseTimeout f false) s =
          .next (s.afterExchange f { p with stopping := p.stopping || e.link = .down })) ∧
      (x.triesLeft = 0 →
        exec (.responseTimeout f false) s =
          .next (unconfirmed.afterExchange f { p with stopping := p.stopping || counted.link = .down }))) ∧
    (∀ (s : State) (f : Feeder) (p : Pass) (x : Exchange), s.power.phase = .running →
      (s.engine f).inFlight = some (p, x) → x.stage = .resending →
      exec (.requestSent f) s =
        .next (s.withEngine f { s.engine f with pass := some (p.withExchange { x with stage := .waiting }) })) ∧
    ∀ (s : State) (f : Feeder) (p : Pass), s.power.phase = .running →
      let e := s.engine f
      (∃ queue pass next, s.afterExchange f p = s.withEngine f { e with queue := queue, pass := pass, next := next }) ∧
      (∀ plan, e.next = some plan →
        s.afterExchange f p =
          s.withEngine f { e with pass := some { plan := plan, phase := .mark, stopping := false }, next := none }) ∧
      (e.next = none → p.stopping = true → s.afterExchange f p = s.withEngine f { e with pass := none }) ∧
      (e.next = none → p.stopping = false →
        (∀ x, p.phase = .supply x →
          exec (.guardEnd f) (s.withEngine f { e with pass := some { p with phase := .guard } }) =
            .next (s.afterExchange f p)) ∧
        (∀ x, p.phase = .snapshot x →
          (∀ skipped it rest, p.plan.items = skipped ++ it :: rest →
            (∀ k ∈ skipped, s.itemStands f k = false) → s.itemStands f it = true →
            s.afterExchange f p =
              s.withEngine f { e with
                pass := some { p with
                  plan := { p.plan with items := rest }
                  phase := .snapshot
                    { ask := .snapshot it.boundary, slot := it.slot, addr := it.addr, triesLeft := e.retries
                      timeout := e.timeout, stage := .sending, vacated := false } } }) ∧
          ((∀ it ∈ p.plan.items, s.itemStands f it = false) →
            s.afterExchange f p = s.withEngine f { e with pass := none })))

/-- A frame or a gap received while the engine drives its own frame is nothing; else a bad frame and a stray are counted, a
frame before the first request is sent among the strays; a SNAP with the tag asked for, or a NOTHELD, is delivered to the book
store and a SNAP's relay state written, a SUPPLIED is written and RELAY_UNCONFIRMED set when it reports the other state; an
answer counts, zeroes the fails, brings a DOWN link UP and ends the exchange; in WARNING it delivers and writes nothing.
FEEDER_IDLE_GAP is one bad frame (R112, R114, R120 to R125, R131). When the wait ran out while a frame was being received, a bad
frame, a stray or a gap is counted and the try is then over, as at a RESPONSE_TIMEOUT (R114, R121, log 14). The engine sends the
MARK and the requests byte by byte as R112 has them, and nothing between (R112, R115, R121). The model's own: the operand
`driven`, which says whether the frame that is due has begun to drive the line (log 15), that an answer to a household that has
become VACANT leaves the exchange waiting (log 12), that relay confirmed is written in the reply's own event (log 27), what the
notice of a SUPPLIED in WARNING does (log 13), and that deliveries wait in a list without bound (log 10). -/
def Obligations.FeederFramesAreJudged : Prop :=
  (∀ (s : State) (f : Feeder) (bytes : List Byte) (driven : Bool), s.power.phase = .running →
      let l : FeederLine := { feeder := f, driven := driven }
      let e := s.engine f
      let bad := s.withEngine f { e with bad := min (e.bad + 1) 65535 }
      (driven = true → e.frameDue = true →
        exec (.feederFrameReceived l bytes) s = .next s ∧ exec (.feederIdleGap l) s = .next s) ∧
      (driven = false ∨ e.frameDue = false →
        ((∀ p x, e.inFlight = some (p, x) → x.stage ≠ .overrun) →
          exec (.feederIdleGap l) s = .next bad ∧
          (hear bytes = .bad → exec (.feederFrameReceived l bytes) s = .next bad) ∧
          (hear bytes = .stray ∨
              (∃ a r, hear bytes = .reply a r ∧
                ∀ p x, e.inFlight = some (p, x) → x.answers a r = false ∨ x.vacated = true ∨ x.stage = .sending) →
            exec (.feederFrameReceived l bytes) s =
              .next (s.withEngine f { e with strays := min (e.strays + 1) 65535 }))) ∧
        ∀ p x, e.inFlight = some (p, x) → x.stage = .overrun →
          exec (.feederIdleGap l) s = .next (bad.tryOver f p x) ∧
            (hear bytes = .bad → exec (.feederFrameReceived l bytes) s = .next (bad.tryOver f p x)) ∧
            (hear bytes = .stray ∨
                (∃ a r, hear bytes = .reply a r ∧ (x.answers a r = false ∨ x.vacated = true)) →
              exec (.feederFrameReceived l bytes) s =
                .next ((s.withEngine f { e with strays := min (e.strays + 1) 65535 }).tryOver f p x)) ∧
            exec (.responseTimeout f false)
                (s.withEngine f { e with pass := some (p.withExchange { x with stage := .waiting }) }) =
              .next (s.tryOver f p x))) ∧
    (∀ (s : State) (f : Feeder) (bytes : List Byte) (driven : Bool) (p : Pass) (x : Exchange), s.power.phase = .running →
      (s.engine f).inFlight = some (p, x) → x.stage ≠ .sending → (x.stage = .resending → driven = false) →
      x.vacated = false →
      let l : FeederLine := { feeder := f, driven := driven }
      let e := s.engine f
      let counted : State := s.withEngine f
        { e with
          answered := min (e.answered + 1) 65535, fails := 0, link := if e.link = .down then .up else e.link }
      let delivered := fun (b : Nat) (snap : Option Snapshot) =>
        ({ counted with store := { s.store with
            deliveries := s.store.deliveries ++ [{ feeder := f, slot := x.slot, boundary := b, snap := snap }] } } : State)
      let confirmed := fun (u : State) (r : Relay) =>
        u.withHousehold x.slot { s.household x.slot with confirmed := some r }
      (∀ b snap, x.ask = .snapshot b → hear bytes = .reply x.addr (.snap (BitVec.ofNat 16 b) snap) →
        exec (.feederFrameReceived l bytes) s =
          .next ((if s.supply.warning then counted else confirmed (delivered b (some snap)) snap.relay).afterExchange f p)) ∧
      (∀ b, x.ask = .snapshot b → hear bytes = .reply x.addr (.notHeld (BitVec.ofNat 16 b)) →
        exec (.feederFrameReceived l bytes) s =
          .next ((if s.supply.warning then counted else delivered b none).afterExchange f p)) ∧
      ∀ command reported, x.ask = .supply command → hear bytes = .reply x.addr (.supplied reported) →
        let written := if s.supply.warning then counted else confirmed counted reported
        exec (.feederFrameReceived l bytes) s =
          .next ((if reported = command then written else written.notify .relayUnconfirmed).afterExchange f p)) ∧
    (∀ (x : Exchange) (addr : Nat) (r : MeterReply),
      x.answers addr r = true ↔ x.addr = addr ∧
        ((∃ b, x.ask = .snapshot b ∧
            (r = .notHeld (BitVec.ofNat 16 b) ∨ ∃ snap, r = .snap (BitVec.ofNat 16 b) snap)) ∨
          ∃ command reported, x.ask = .supply command ∧ r = .supplied reported)) ∧
    (∀ e : Engine, e.pass = none → e.frameDue = false ∧ e.frame = none) ∧
    ∀ (e : Engine) (p : Pass), e.pass = some p →
      let word := fun n : Nat => [(BitVec.ofNat 16 n).extractLsb' 8 8, (BitVec.ofNat 16 n).extractLsb' 0 8]
      let byte := fun n : Nat => BitVec.ofNat 8 n
      let t := p.plan.instant
      (e.frameDue = true ↔ e.frame ≠ none) ∧
      (p.phase = .mark →
        e.frame = some (withCrc ([0, 16] ++ word p.plan.boundary ++
          [byte (t.year - 2000), byte t.month, byte t.day, byte t.hour, byte t.minute, byte t.second]))) ∧
      (p.phase = .guard → e.frame = none) ∧
      ∀ x, p.exchange = some x →
        (x.stage = .waiting ∨ x.stage = .overrun → e.frame = none) ∧
        (x.stage = .sending ∨ x.stage = .resending →
          (∀ b, x.ask = .snapshot b → e.frame = some (withCrc ([byte x.addr, 33] ++ word b))) ∧
          ∀ r, x.ask = .supply r → e.frame = some (withCrc [byte x.addr, 49, if r = .opened then 0 else 1]))

/-- FEEDER reports a feeder's eleven fields, both feeders, or a queue; FDRFORCE ON forces the link and keeps the count, OFF sets
UP and the count 0; FDRTIMING writes the timeout and the retry count of one feeder, an exchange in flight keeping its own
(R132, R133, R134, R135). -/
def Obligations.FeederRequestsReportAndSet : Prop :=
  (∀ (s : State) (f : Feeder), s.serves .FEEDER [.kw (feederKw f)] → s.service ≠ .uncommissioned →
      let e := s.engine f
      s.feederLine f =
          [.kw (feederKw f), .kw e.link.kw, .num e.fails, .num e.timeout, .num e.retries, .kw e.phaseKw,
            .num e.queue.length, .num e.answered, .num e.failed, .num e.strays, .num e.bad] ∧
        exec (.feeder [.kw (feederKw f)]) s =
          .next (s.answering .FEEDER [.kw (feederKw f)] [.kw .OK :: s.feederLine f])) ∧
    (∀ s : State, s.serves .FEEDER [.kw .ALL] → s.service ≠ .uncommissioned →
      exec (.feeder [.kw .ALL]) s =
        .next (s.answering .FEEDER [.kw .ALL] [[.kw .OK], s.feederLine .A, s.feederLine .B, [.kw .END]])) ∧
    (∀ (s : State) (f : Feeder), s.serves .FEEDER [.kw (feederKw f), .kw .QUEUE] → s.service ≠ .uncommissioned →
      let q := (s.engine f).queue
      exec (.feeder [.kw (feederKw f), .kw .QUEUE]) s =
        .next (s.answering .FEEDER [.kw (feederKw f), .kw .QUEUE]
          ([.kw .OK, .num q.length] ::
            q.map (fun e => [.num (slotNumber e.slot), .kw (if e.command = .opened then .OPEN else .CLOSE)]) ++
            [[.kw .END]]))) ∧
    (∀ (s : State) (f : Feeder), s.service ≠ .uncommissioned →
      (s.serves .FDRFORCE [.kw (feederKw f), .kw .ON] →
        exec (.fdrforce [.kw (feederKw f), .kw .ON]) s =
          .next ((s.withEngine f { s.engine f with link := .forced }).answering .FDRFORCE [.kw (feederKw f), .kw .ON]
            [[.kw .OK, .kw .FORCED]])) ∧
      (s.serves .FDRFORCE [.kw (feederKw f), .kw .OFF] →
        exec (.fdrforce [.kw (feederKw f), .kw .OFF]) s =
          .next ((s.withEngine f { s.engine f with link := .up, fails := 0 }).answering .FDRFORCE
            [.kw (feederKw f), .kw .OFF] [[.kw .OK, .kw .UP]]))) ∧
    ∀ (s : State) (f : Feeder) (timeout retries : Nat) (args : List Tok),
      args = [.kw (feederKw f), .num timeout, .num retries] → s.serves .FDRTIMING args → s.service ≠ .uncommissioned →
      s.supply.warning = false →
      (20 ≤ timeout ∧ timeout ≤ 2000 ∧ retries ≤ 3 →
        exec (.fdrtiming args) s =
          .next ((s.withEngine f { s.engine f with timeout := timeout, retries := retries }).answering .FDRTIMING args
            [[.kw .OK]])) ∧
      (¬(20 ≤ timeout ∧ timeout ≤ 2000 ∧ retries ≤ 3) →
        exec (.fdrtiming args) s = .next (s.answering .FDRTIMING args [[.kw .NO, .kw .RANGE]]))

/-- The two feeders are independent: what happens on one leaves the engine of the other as it is (chapter 6, opening). -/
def Obligations.FeederEventsLeaveTheOtherEngine : Prop :=
  ∀ (s t : State) (f g : Feeder) (c : Instr), f ≠ g →
    (c = .markSent f ∨ c = .guardEnd f ∨ c = .requestSent f ∨ (∃ r, c = .responseTimeout f r) ∨
      (∃ bytes driven, c = .feederFrameReceived { feeder := f, driven := driven } bytes) ∨
        ∃ driven, c = .feederIdleGap { feeder := f, driven := driven }) →
    exec c s = .next t → t.engine g = s.engine g

/-! ## Reserve watch (chapter 7) -/

/-- Twelve bytes that begin with 97 and end with their CRC carry a sequence, a charge, a frequency and a signed power; any other
bytes are a bad frame (R137, R138). A plant frame is bad, a repeat, out of range, or accepted: an accepted frame ends STALE in
the state held, or moves the divisor position, or is a sample, which moves the counters of its state, and moves the state when
one reaches K: the counters are 0, the state's flag is added, RESERVE is set, and a change into or out of SCARCE evaluates every
AUTO household in slot order; nothing else of the part changes. PLANT_IDLE_GAP is one bad frame; STALE_TIMER_EXPIRY holds the
live state and adds STALE_SEEN (R137, R139, R141 to R149, R160). That a STALE_TIMER_EXPIRY in STALE, where the timer is stopped
and cannot run out (R140), changes nothing is the model's choice (log 2). -/
def Obligations.PlantFramesMoveTheReserveState : Prop :=
  (∀ (q : Byte) (charge frequency : Word16) (power : Word32),
      let word := fun w : Word16 => [w.extractLsb' 8 8, w.extractLsb' 0 8]
      let four := [power.extractLsb' 24 8, power.extractLsb' 16 8, power.extractLsb' 8 8, power.extractLsb' 0 8]
      plantFrameOf (withCrc ([97, q] ++ word charge ++ word frequency ++ four)) =
        some { seq := q.toNat
               values := { charge := charge.toNat, frequency := frequency.toNat, power := power.toInt } }) ∧
    (∀ bytes : List Byte, bytes.length ≠ 12 ∨ bytes.head? ≠ some 97 ∨ crcGood bytes = false →
      plantFrameOf bytes = none) ∧
  (∀ (s : State) (bytes : List Byte), s.power.phase = .running →
      let r := s.reserve
      (plantFrameOf bytes = none →
        exec (.plantFrameReceived bytes) s = .next { s with reserve := { r with bad := min (r.bad + 1) 65535 } }) ∧
      exec .plantIdleGap s = .next { s with reserve := { r with bad := min (r.bad + 1) 65535 } } ∧
      ∀ fr, plantFrameOf bytes = some fr →
        (r.previous = some fr.seq →
          exec (.plantFrameReceived bytes) s =
            .next { s with reserve := { r with repeats := min (r.repeats + 1) 65535 } }) ∧
        (r.previous ≠ some fr.seq →
          ¬(fr.values.charge ≤ 1000 ∧ r.settings.fMin ≤ fr.values.frequency ∧ fr.values.frequency ≤ r.settings.fMax) →
          exec (.plantFrameReceived bytes) s =
            .next { s with reserve := { r with outOfRange := min (r.outOfRange + 1) 65535 } }) ∧
        (r.previous ≠ some fr.seq → fr.values.charge ≤ 1000 → r.settings.fMin ≤ fr.values.frequency →
          fr.values.frequency ≤ r.settings.fMax →
          let a := { r with
            accepted := min (r.accepted + 1) 65535, previous := some fr.seq, last := some fr.values, timer := some 10 }
          (∀ held, r.state = .stale held →
            exec (.plantFrameReceived bytes) s =
              .next ({ s with reserve :=
                { a with state := .live held, scarcity := 0, surplus := 0, leaving := 0, position := 0 } }.notify
                  .reserve)) ∧
          (∀ c, r.state = .live c → r.position + 1 < r.settings.divisor →
            exec (.plantFrameReceived bytes) s =
              .next { s with reserve := { a with position := r.position + 1 } }) ∧
          (∀ c, r.state = .live c → r.settings.divisor ≤ r.position + 1 →
            let count := fun (n : Nat) (counts : Prop) [Decidable counts] => if counts then n + 1 else 0
            let scarcity := count r.scarcity (fr.values.charge < r.settings.socLow)
            let surplus := count r.surplus (r.settings.fHigh ≤ fr.values.frequency)
            let calm := count r.leaving (r.settings.socLow + r.settings.socHyst ≤ fr.values.charge)
            let slack := count r.leaving (fr.values.frequency < r.settings.fHigh - r.settings.fHyst)
            let new : Condition := match c with
              | .normal =>
                if r.settings.count ≤ scarcity then .scarce
                else if r.settings.count ≤ surplus then .surplus else .normal
              | .scarce => if r.settings.count ≤ calm then .normal else .scarce
              | .surplus => if r.settings.count ≤ slack then .normal else .surplus
            let changed := ({ s with reserve := { a with
              state := .live new, scarcity := 0, surplus := 0, leaving := 0, position := 0
              flags := { r.flags with
                scarce := r.flags.scarce || new = .scarce, surplus := r.flags.surplus || new = .surplus } } } :
              State).notify .reserve
            (new = c →
              exec (.plantFrameReceived bytes) s =
                .next { s with reserve := match c with
                  | .normal => { a with position := 0, scarcity := scarcity, surplus := surplus }
                  | .scarce => { a with position := 0, leaving := calm }
                  | .surplus => { a with position := 0, leaving := slack } }) ∧
            (new ≠ c → c ≠ .scarce → new ≠ .scarce → exec (.plantFrameReceived bytes) s = .next changed) ∧
            (new ≠ c → c = .scarce ∨ new = .scarce →
              exec (.plantFrameReceived bytes) s =
                .next (allSlots.foldl
                  (fun (u : State) (i : Slot) => match (u.household i).settings with
                    | some g => if g.policy = .auto then u.evaluate i else u
                    | none => u)
                  changed))))) ∧
    ∀ s : State, s.power.phase = .running →
      (∀ c, s.reserve.state = .live c →
        exec .staleTimerExpiry s =
          .next ({ s with reserve := { s.reserve with
              state := .stale c, scarcity := 0, surplus := 0, leaving := 0, timer := none
              flags := { s.reserve.flags with stale := true } } }.notify .reserve)) ∧
      ∀ c, s.reserve.state = .stale c → exec .staleTimerExpiry s = .next s

/-- RESCFG writes the settings named, each inside its range and all judged as they would stand after it, and zeroes the counters
and the divisor position; RESREAD reports the watch, RESREAD CFG the settings (R152, R153, R154). The order of the accumulator's
flag names is the model's choice (log 51). -/
def Obligations.ReserveRequestsSetAndReport : Prop :=
  (∀ (k : Kw) (v : Tok) (n : Int),
      readReserve k v = some n ↔
        k ∈ [.SOCLOW, .SOCHYST, .FHIGH, .FHYST, .FMIN, .FMAX, .DIV, .COUNT] ∧ v = .num n) ∧
  (∀ (c : ReserveSettings) (ps : List (Kw × Int)),
      let ranges : List (Kw × Int × Int) :=
        [(.SOCLOW, 0, 1000), (.SOCHYST, 0, 1000), (.FHIGH, 0, 65535), (.FHYST, 1, 65535), (.FMIN, 0, 65535),
          (.FMAX, 0, 65535), (.DIV, 1, 8), (.COUNT, 1, 8)]
      c.edit ps = none ↔ ∃ k lo hi n, (k, lo, hi) ∈ ranges ∧ given ps k = some n ∧ ¬(lo ≤ n ∧ n ≤ hi)) ∧
  (∀ (s : State) (args : List Tok) (ps : List (Kw × Int)), pairs readReserve args = some ps → s.serves .RESCFG args →
      s.service ≠ .uncommissioned → s.supply.warning = false →
      (s.reserve.settings.edit ps = none →
        exec (.rescfg args) s = .next (s.answering .RESCFG args [[.kw .NO, .kw .RANGE]])) ∧
      ∀ c, s.reserve.settings.edit ps = some c →
        let legal := c.socLow + c.socHyst ≤ 1000 ∧ c.fMin + c.fHyst < c.fHigh ∧ c.fHigh ≤ c.fMax ∧
          (c.divisor = 1 ∨ c.divisor = 2 ∨ c.divisor = 4 ∨ c.divisor = 8)
        (¬legal → exec (.rescfg args) s = .next (s.answering .RESCFG args [[.kw .NO, .kw .RANGE]])) ∧
        (legal →
          exec (.rescfg args) s =
            .next ({ s with reserve := { s.reserve with
                scarcity := 0, surplus := 0, leaving := 0, position := 0, settings := c } }.answering .RESCFG args
              [[.kw .OK]])) ∧
        ((c.socLow : Int) = (given ps .SOCLOW).getD s.reserve.settings.socLow ∧
          (c.socHyst : Int) = (given ps .SOCHYST).getD s.reserve.settings.socHyst ∧
          (c.fHigh : Int) = (given ps .FHIGH).getD s.reserve.settings.fHigh ∧
          (c.fHyst : Int) = (given ps .FHYST).getD s.reserve.settings.fHyst ∧
          (c.fMin : Int) = (given ps .FMIN).getD s.reserve.settings.fMin ∧
          (c.fMax : Int) = (given ps .FMAX).getD s.reserve.settings.fMax ∧
          (c.divisor : Int) = (given ps .DIV).getD s.reserve.settings.divisor ∧
          (c.count : Int) = (given ps .COUNT).getD s.reserve.settings.count)) ∧
    (∀ s : State, s.serves .RESREAD [] → s.service ≠ .uncommissioned →
      let r := s.reserve
      exec (.resread []) s =
        .next (s.answering .RESREAD []
          [[.kw .OK, .kw r.state.kw] ++
            (match r.state with
              | .stale c => [Field.kw c.kw, .kw c.kw]
              | .live c => [Field.dash, .kw c.kw]) ++
            [match r.previous with
              | some q => Field.num q
              | none => Field.dash] ++
            (match r.last with
              | some v => [Field.num v.charge, .num v.frequency, .num v.power]
              | none => [Field.dash, .dash, .dash]) ++
            [Field.num r.scarcity, .num r.surplus, .num r.leaving, .num r.position,
              if r.flags.names = [] then .kw .NONE else .names r.flags.names,
              .num r.accepted, .num r.bad, .num r.repeats, .num r.outOfRange]])) ∧
    ∀ s : State, s.serves .RESREAD [.kw .CFG] → s.service ≠ .uncommissioned →
      let c := s.reserve.settings
      exec (.resread [.kw .CFG]) s =
        .next (s.answering .RESREAD [.kw .CFG]
          [[.kw .OK, .kw .SOCLOW, .num c.socLow, .kw .SOCHYST, .num c.socHyst, .kw .FHIGH, .num c.fHigh, .kw .FHYST,
            .num c.fHyst, .kw .FMIN, .num c.fMin, .kw .FMAX, .num c.fMax, .kw .DIV, .num c.divisor, .kw .COUNT,
            .num c.count]])

/-! ## Supply limiting (chapter 8) -/

/-- An evaluation decides by the policy on the live balance: AUTO opens below the effective floor, closes at the floor plus the
margin, and keeps the wanted state between; a change writes relay wanted and offers the household, replaced in place, joined
at the tail, or refused with QUEUE_OVERFLOW at 16 entries; SUSPENDED and VACANT are not evaluated (R128, R156 to R159). The
effective reserve state is the state itself, and in STALE the state held (R147). -/
def Obligations.EvaluationFollowsPolicyAndBalance : Prop :=
  (∀ (s : State) (i : Slot) (c : Settings), (s.household i).settings = some c →
      let h := s.household i
      let floor := if s.reserve.state.effective = .scarce then max c.floor 0 else c.floor
      let decided : Relay := match c.policy with
        | .holdClosed => .closed
        | .manual => h.wanted
        | .auto => if h.balance < floor then .opened else if floor + s.margin ≤ h.balance then .closed else h.wanted
      (h.member = .suspended ∨ h.member = .vacant → s.evaluate i = s) ∧
      (decided = h.wanted → s.evaluate i = s) ∧
      (h.member ≠ .suspended → h.member ≠ .vacant → decided ≠ h.wanted →
        s.evaluate i = (s.withHousehold i { h with wanted := decided }).offer c.feeder i decided)) ∧
    (∀ (s : State) (f : Feeder) (i : Slot) (r : Relay),
      let q := (s.engine f).queue
      (∀ older younger old, q = older ++ { slot := i, command := old } :: younger →
        (∀ e ∈ older ++ younger, e.slot ≠ i) →
        s.offer f i r =
          s.withEngine f { s.engine f with queue := older ++ { slot := i, command := r } :: younger }) ∧
      ((∀ e ∈ q, e.slot ≠ i) →
        (q.length < 16 →
          s.offer f i r = s.withEngine f { s.engine f with queue := q ++ [{ slot := i, command := r }] }) ∧
        (16 ≤ q.length → s.offer f i r = s.notify .queueOverflow))) ∧
    ∀ c : Condition, (WatchState.live c).effective = c ∧ (WatchState.stale c).effective = c ∧
      (WatchState.live c).isStale = false ∧ (WatchState.stale c).isStale = true

/-- RELAY sets the wanted state of a MANUAL household and offers it whatever it was, in every used member state; RLYCFG reports
the margin, or writes it and evaluates every AUTO household in slot order (R164, R165, R166). -/
def Obligations.RelayAndRlycfgAct : Prop :=
  (∀ (s : State) (i : Slot) (r : Relay) (args : List Tok),
      args = [.num (slotNumber i), .kw (if r = .opened then .OPEN else .CLOSED)] → s.serves .RELAY args →
      s.service ≠ .uncommissioned → s.supply.warning = false →
      let h := s.household i
      ((∀ c, h.settings = some c → c.policy ≠ .manual) →
        exec (.relay args) s = .next (s.answering .RELAY args [[.kw .NO, .kw .STATE]])) ∧
      ∀ c, h.settings = some c → c.policy = .manual →
        let q := (s.engine c.feeder).queue
        exec (.relay args) s =
          .next (((s.withHousehold i { h with wanted := r }).offer c.feeder i r).answering .RELAY args
            [[.kw .OK, .kw (if r = .opened then .OPEN else .CLOSED), .kw (confirmedKw h.confirmed),
              .kw (if inQueue q i = true ∨ q.length < 16 then .QUEUED else .FULL)]])) ∧
    (∀ s : State, s.serves .RLYCFG [] → s.service ≠ .uncommissioned →
      exec (.rlycfg []) s = .next (s.answering .RLYCFG [] [[.kw .OK, .kw .MARGIN, .num s.margin]])) ∧
    ∀ (s : State) (m : Nat) (args : List Tok), args = [.kw .MARGIN, .num m] → s.serves .RLYCFG args →
      s.service ≠ .uncommissioned → s.supply.warning = false →
      (1000000000 < m → exec (.rlycfg args) s = .next (s.answering .RLYCFG args [[.kw .NO, .kw .RANGE]])) ∧
      (m ≤ 1000000000 →
        exec (.rlycfg args) s =
          .next ((allSlots.foldl
              (fun (u : State) (i : Slot) => match (u.household i).settings with
                | some c => if c.policy = .auto then u.evaluate i else u
                | none => u)
              { s with margin := m }).answering .RLYCFG args [[.kw .OK]]))

/-! ## Kiosk display (chapter 9) -/

/-- PAGE_LATCH, at its grant, latches the page chosen whole and begins its dwell: a household's slot and balance in hundredths
with its marks, the charge and state of the reserve, or the time; a VACANT held page and an empty list are NONE. While anything
of higher priority waits for the array the latch waits too (R171 to R174, R185, log 6). The list is the shown households in slot
order, RESERVE, CLOCK, taken cyclically, and after a page that has left it the next in that order (R170). While a page is
shown the eight phases of a frame drive its segments and marks, and no line is driven otherwise (R168, R169, R205). That the
page is chosen at the grant is the model's reading (log 20), and that its dwell is the one in effect at the grant, not the one
at its page start, is the model's choice (log 48). -/
def Obligations.PageLatchShowsTheChosenPage : Prop :=
  (∀ s : State,
      s.pageList =
          (allSlots.filter fun i : Slot =>
              (s.household i).member ≠ .vacant && (s.household i).settings.any fun c => c.shown).map Page.household ++
            (if s.display.reserveOn then [.reserve] else []) ++ (if s.display.clockOn then [.clock] else [])) ∧
  (∀ s : State,
      s.choose .held = some s.display.heldPage ∧ s.choose .first = s.pageList.head? ∧
        (∀ a p q b, s.pageList = a ++ p :: q :: b → s.choose (.after p) = some q) ∧
        (∀ a p, s.pageList = a ++ [p] → s.choose (.after p) = s.pageList.head?) ∧
        (∀ i j : Slot, i < j → .household j ∈ s.pageList → (∀ k, i < k → k < j → .household k ∉ s.pageList) →
          s.choose (.after (.household i)) = some (.household j)) ∧
        (∀ i : Slot, (∀ k, i < k → .household k ∉ s.pageList) →
          s.choose (.after (.household i)) =
            if .reserve ∈ s.pageList then some .reserve
            else if .clock ∈ s.pageList then some .clock else s.pageList.head?) ∧
        s.choose (.after .reserve) = (if .clock ∈ s.pageList then some .clock else s.pageList.head?) ∧
        s.choose (.after .clock) = s.pageList.head?) ∧
    (∀ s : State, s.power.phase = .running →
      let outranked := s.startable ≠ none ∨ s.store.deliveries ≠ [] ∨
        ∃ r args, s.host.inService = some { line := .request r args, stage := .taken } ∧ reachesArray r args = true
      (outranked → exec .pageLatch s = .next s) ∧
      (s.display.fetch = none → exec .pageLatch s = .next s) ∧
      (¬outranked → ∀ choice, s.display.fetch = some choice →
        let d := s.display
        let dig := fun n : Nat => Glyph.digit (Fin.ofNat 10 n)
        let shown := fun (p : Option Page) (g : Vector Glyph 8) (m : Marks) =>
          exec .pageLatch s = .next { s with display := { d with
            activity := .showing, current := p, glyphs := g, marks := m, framesLeft := d.dwell * 16, fetch := none } }
        let unmarked : Marks := { minus := false, overflow := false, opened := false, stale := false }
        (s.choose choice = none → shown none (Vector.replicate 8 .blank) unmarked) ∧
        (∀ i, s.choose choice = some (.household i) →
          let h := s.household i
          let v := h.balance.natAbs / 10000
          (h.member = .vacant → shown none (Vector.replicate 8 .blank) unmarked) ∧
          (h.member ≠ .vacant →
            let marks : Marks :=
              { minus := h.balance < 0, overflow := 99999 < v, opened := h.confirmed = some .opened, stale := false }
            (v ≤ 99999 →
              shown (some (.household i))
                #v[dig ((i.val + 1) / 10), dig (i.val + 1), .blank, if v < 10000 then .blank else dig (v / 10000),
                  if v < 1000 then .blank else dig (v / 1000), dig (v / 100), dig (v / 10), dig v] marks) ∧
            (99999 < v →
              shown (some (.household i))
                #v[dig ((i.val + 1) / 10), dig (i.val + 1), .blank, dig 9, dig 9, dig 9, dig 9, dig 9] marks))) ∧
        (s.choose choice = some .reserve →
          let letter : Glyph := match s.reserve.state.effective with
            | .normal => .n
            | .scarce => .L
            | .surplus => .H
          let marks : Marks := { unmarked with stale := s.reserve.state.isStale }
          (∀ v, s.reserve.last = some v →
            shown (some .reserve)
              #v[.blank, if v.charge < 1000 then .blank else dig (v.charge / 1000),
                if v.charge < 100 then .blank else dig (v.charge / 100),
                if v.charge < 10 then .blank else dig (v.charge / 10), dig v.charge, .blank, .blank, letter] marks) ∧
          (s.reserve.last = none →
            shown (some .reserve) #v[.blank, .dash, .dash, .dash, .dash, .blank, .blank, letter] marks)) ∧
        (s.choose choice = some .clock →
          let t := s.calendar.now
          (s.calendar.valid = true →
            shown (some .clock)
              #v[.blank, .blank, .blank, .blank, dig (t.hour / 10), dig t.hour, dig (t.minute / 10), dig t.minute]
              unmarked) ∧
          (s.calendar.valid = false →
            shown (some .clock) #v[.blank, .blank, .blank, .blank, .dash, .dash, .dash, .dash] unmarked)))) ∧
    ∀ (s : State) (k : Fin 8),
      (¬(s.power.phase = .running ∧ s.display.activity = .showing) → s.phaseDrive k = none) ∧
      (s.power.phase = .running → s.display.activity = .showing →
        let digits : List (List Segment) :=
          [[.a, .b, .c, .d, .e, .f], [.b, .c], [.a, .b, .d, .e, .g], [.a, .b, .c, .d, .g], [.b, .c, .f, .g],
            [.a, .c, .d, .f, .g], [.a, .c, .d, .e, .f, .g], [.a, .b, .c], [.a, .b, .c, .d, .e, .f, .g],
            [.a, .b, .c, .d, .f, .g]]
        let m := s.display.marks
        s.phaseDrive k =
          some
            { common := k.val / 2 + 1, commonHigh := k.val % 2 = 1, litHigh := k.val % 2 = 0
              segments := match s.display.glyphs[k] with
                | .digit n => digits.getD n.val []
                | .dash => [.g]
                | .n => [.c, .e, .g]
                | .L => [.d, .e, .f]
                | .H => [.b, .c, .e, .f, .g]
                | .blank => []
              mark := (k = 0 && m.minus) || (k = 1 && m.overflow) || (k = 2 && m.opened) || (k = 3 && m.stale) })

/-- FRAME_END counts a page's or a blank dwell's frames down and ends it at 0; DWELL_END starts the next page of the mode, the
glass as it was until its latch; BLANK_DWELL_END starts the first page, the held page, or nothing in OFF (R174, R177). That a
page start waits for its latch, and that DWELL_END and BLANK_DWELL_END stand for the rest of their runs, is the model's reading
(log 17, log 20, log 21). -/
def Obligations.DwellsEndByTheMode : Prop :=
  ∀ s : State, s.power.phase = .running →
    let d := s.display
    let with_ := fun e : Display => ({ s with display := e } : State)
    let dark := fun a : Activity => { d with
      activity := a, current := none, glyphs := Vector.replicate 8 .blank
      marks := { minus := false, overflow := false, opened := false, stale := false }, framesLeft := 0, fetch := none }
    (d.activity = .showing → d.fetch = none →
      (d.mode = .scroll →
        exec .dwellEnd s = .next (with_ { d with
          framesLeft := 0
          fetch := some (match d.current with
            | some p => .after p
            | none => .first) })) ∧
      (d.mode = .hold → exec .dwellEnd s = .next (with_ { d with framesLeft := 0, fetch := some .held })) ∧
      (d.mode = .off → exec .dwellEnd s = .next (with_ (dark .off)))) ∧
    (d.activity = .blanking →
      (d.mode = .scroll → exec .blankDwellEnd s = .next (with_ { dark .showing with fetch := some .first })) ∧
      (d.mode = .hold → exec .blankDwellEnd s = .next (with_ { dark .showing with fetch := some .held })) ∧
      (d.mode = .off → exec .blankDwellEnd s = .next (with_ (dark .off)))) ∧
    (d.fetch = none →
      (1 < d.framesLeft → exec .frameEnd s = .next (with_ { d with framesLeft := d.framesLeft - 1 })) ∧
      (d.framesLeft = 1 → d.activity = .showing → exec .frameEnd s = exec .dwellEnd s) ∧
      (d.framesLeft = 1 → d.activity = .blanking → exec .frameEnd s = exec .blankDwellEnd s))

/-- DISPCFG writes every named setting in one event and leaves the rest of the display as it is; a changed mode or rate blanks
the display for one dwell of the settings after it, and nothing else does; a value outside its range answers NO RANGE, a PAGE of
a VACANT slot NO STATE. DISPREAD reports the eleven fields (R175, R177, R179). The order of the marks' names in the last of them
is the model's choice (log 50). -/
def Obligations.DisplayRequestsSetAndReport : Prop :=
  (∀ (k : Kw) (v : Tok) (a : DisplayValue),
      readDisplay k v = some a ↔
        (k = .MODE ∧ ∃ m : Mode, v = .kw m.kw ∧ a = .mode m) ∨
          ((k = .RATE ∨ k = .DWELL) ∧ ∃ n, v = .num n ∧ a = .num n) ∨
          ((k = .RESERVE ∨ k = .CLOCK) ∧ ∃ b : Bool, v = .kw (if b then .ON else .OFF) ∧ a = .enable b) ∨
          (k = .PAGE ∧
            (v = .kw .RESERVE ∧ a = .page .reserve ∨ v = .kw .CLOCK ∧ a = .page .clock ∨
              ∃ n, v = .num n ∧ a = .page (.slot n)))) ∧
  (∀ (s : State) (args : List Tok) (ps : List (Kw × DisplayValue)), pairs readDisplay args = some ps →
      s.serves .DISPCFG args → s.service ≠ .uncommissioned → s.supply.warning = false →
      (s.display.editAll ps = none ↔
        (∃ n, given ps .RATE = some (.num n) ∧ n ≠ 32 ∧ n ≠ 64) ∨
          (∃ n, given ps .DWELL = some (.num n) ∧ ¬(1 ≤ n ∧ n ≤ 255)) ∨
          ∃ n, given ps .PAGE = some (.page (.slot n)) ∧ ¬(1 ≤ n ∧ n ≤ 96)) ∧
      (s.display.editAll ps = none →
        exec (.dispcfg args) s = .next (s.answering .DISPCFG args [[.kw .NO, .kw .RANGE]])) ∧
      ∀ d, s.display.editAll ps = some d →
        (s.pageVacant ps = true →
          exec (.dispcfg args) s = .next (s.answering .DISPCFG args [[.kw .NO, .kw .STATE]])) ∧
        (s.pageVacant ps = false →
          (d.mode = s.display.mode → d.rate = s.display.rate →
            exec (.dispcfg args) s = .next ({ s with display := d }.answering .DISPCFG args [[.kw .OK]])) ∧
          (¬(d.mode = s.display.mode ∧ d.rate = s.display.rate) →
            exec (.dispcfg args) s =
              .next ({ s with display := { d with
                  activity := .blanking, current := none, glyphs := Vector.replicate 8 .blank
                  marks := { minus := false, overflow := false, opened := false, stale := false }
                  framesLeft := d.dwell * 16, fetch := none } }.answering .DISPCFG args [[.kw .OK]]))) ∧
        ((∃ m, given ps .MODE = some (.mode m) ∧ d.mode = m) ∨ given ps .MODE = none ∧ d.mode = s.display.mode) ∧
        ((∃ n, given ps .RATE = some (.num n) ∧ (d.rate : Int) = n ∧ (n = 32 ∨ n = 64)) ∨
          given ps .RATE = none ∧ d.rate = s.display.rate) ∧
        ((∃ n, given ps .DWELL = some (.num n) ∧ (d.dwell : Int) = n ∧ 1 ≤ n ∧ n ≤ 255) ∨
          given ps .DWELL = none ∧ d.dwell = s.display.dwell) ∧
        ((∃ b, given ps .RESERVE = some (.enable b) ∧ d.reserveOn = b) ∨
          given ps .RESERVE = none ∧ d.reserveOn = s.display.reserveOn) ∧
        ((∃ b, given ps .CLOCK = some (.enable b) ∧ d.clockOn = b) ∨
          given ps .CLOCK = none ∧ d.clockOn = s.display.clockOn) ∧
        ((∃ p, given ps .PAGE = some (.page p) ∧
            (p = .reserve ∧ d.heldPage = .reserve ∨ p = .clock ∧ d.heldPage = .clock ∨
              ∃ i : Slot, p = .slot (slotNumber i) ∧ d.heldPage = .household i)) ∨
          given ps .PAGE = none ∧ d.heldPage = s.display.heldPage) ∧
        d = { s.display with
          mode := d.mode, rate := d.rate, dwell := d.dwell, reserveOn := d.reserveOn, clockOn := d.clockOn
          heldPage := d.heldPage } ∧
        (s.pageVacant ps = true ↔
          ∃ i : Slot, given ps .PAGE = some (.page (.slot (slotNumber i))) ∧ (s.household i).member = .vacant)) ∧
    ∀ s : State, s.serves .DISPREAD [] → s.service ≠ .uncommissioned →
      let d := s.display
      let common : List Field := [.kw .OK, .kw d.mode.kw, .num d.rate, .num d.dwell, .kw (if d.reserveOn then .ON else .OFF),
        .kw (if d.clockOn then .ON else .OFF), d.heldPage.field, .kw d.activity.kw]
      (d.activity = .showing →
        exec (.dispread []) s =
          .next (s.answering .DISPREAD []
            [common ++ [match d.current with
              | some p => p.field
              | none => .kw .NONE, .num d.framesLeft, .glyphs d.glyphs.toList,
                if d.marks.names = [] then .kw .NONE else .names d.marks.names]])) ∧
      (d.activity = .blanking →
        exec (.dispread []) s =
          .next (s.answering .DISPREAD [] [common ++ ([.dash, .num d.framesLeft, .dash, .dash] : List Field)])) ∧
      (d.activity = .off ∨ d.activity = .warning →
        exec (.dispread []) s =
          .next (s.answering .DISPREAD [] [common ++ ([.dash, .dash, .dash, .dash] : List Field)]))

/-! ## Host line and notices (chapter 10) -/

/-- The text of every well-formed request is received as that request with those words: no word of a line is lost or read as
another (R180, R181, R183). Which words are judged numbers, keywords and day names is the model's reading (log 5). -/
def Obligations.RequestLinesAreReceivedAsTheyAreWritten : Prop :=
  ∀ (r : Req) (args : List Tok), requestWellFormed r args = true →
    receiveLine ((lineText r args).map fun c => { code := BitVec.ofNat 8 c.toNat, stopHigh := true }) =
      some (.request r args)

/-- HOST_LINE_COMPLETE: a line of spaces alone is ignored; beyond 160 characters it is long, with a bad character it is bad. A
complete line goes into service, waits, or is discarded and counted; long, bad and unknown lines are refused at once, and so is a
request whose block's checks already fail, one that passes them waiting to be served. REPLY_SENT frees the line and takes the
waiting one in the same way (R180 to R183, R185). In start-up the first line is held, whatever it says, and a line after it waits
or is discarded and counted, a request command's line too (R182, R206, log 4); STARTUP_END takes the line held into service
(ResetsKeepTheArrayAndStartAnew). A request that reaches the array waits, taken, while the settlement engine or
the snapshot intake waits for it; the array goes to the waiting requester of highest priority, a posting first (R93, R185). That
a request that does not reach the array is refused at the taking too is the model's reading (log 26), and so are how the lines
are read (log 29), which requests reach the array (log 37), the array free while a charter program is in progress (log 47), and
the accesses as commands of their own (log 4, log 6). -/
def Obligations.CompleteLinesTakeTheirPlaces : Prop :=
  let taken := fun (u : State) (line : Line) (o : Host.Outcome State Fault Refusal) =>
    let at_ := fun stage : Stage =>
      ({ u with host := { u.host with inService := some { line := line, stage := stage } } } : State)
    (line = .long → o = .next (at_ (.replying [[.kw .NO, .kw .LONG]]))) ∧
    (line = .bad → o = .next (at_ (.replying [[.kw .NO, .kw .SYNTAX]]))) ∧
    (line = .unknown → o = .next (at_ (.replying [[.kw .NO, .kw .UNKNOWN]]))) ∧
    ∀ r args, line = .request r args →
      (∀ reply, serveRequest r args u = .refused reply → o = .next (at_ (.replying reply))) ∧
      ((∀ reply, serveRequest r args u ≠ .refused reply) → o = .next (at_ .taken))
  (∀ chars : List RxChar,
      ((∀ c ∈ chars, c.stopHigh = true ∧ c.code = 32) → receiveLine chars = none) ∧
      ((∃ c ∈ chars, ¬(c.stopHigh = true ∧ c.code = 32)) →
        (160 < chars.length → receiveLine chars = some .long) ∧
        (chars.length ≤ 160 → (∃ c ∈ chars, c.stopHigh = false ∨ c.code.toNat < 32 ∨ 126 < c.code.toNat) →
          receiveLine chars = some .bad))) ∧
    (∀ (s : State) (chars : List RxChar), s.power.phase = .running →
      (receiveLine chars = none → exec (.hostLineComplete chars) s = .next s) ∧
      ∀ line, receiveLine chars = some line →
        (s.host.inService = none → taken s line (exec (.hostLineComplete chars) s)) ∧
        (s.host.inService ≠ none →
          (s.host.waiting = none →
            exec (.hostLineComplete chars) s = .next { s with host := { s.host with waiting := some line } }) ∧
          (s.host.waiting ≠ none →
            exec (.hostLineComplete chars) s =
              .next { s with host := { s.host with discarded := min (s.host.discarded + 1) 65535 } }))) ∧
    (∀ (u : State) (line : Line), taken u line (.next (u.takeLine line))) ∧
    (∀ (s : State) (c : Instr) (line : Line), s.power.phase = .starting →
      (∃ chars, c = .hostLineComplete chars ∧ receiveLine chars = some line) ∨
        (∃ r args, c = instrOf r args ∧ line = .request r args) →
      (s.host.inService = none →
        exec c s = .next { s with host := { s.host with inService := some { line := line, stage := .held } } }) ∧
      (s.host.inService ≠ none →
        (s.host.waiting = none → exec c s = .next { s with host := { s.host with waiting := some line } }) ∧
        (s.host.waiting ≠ none →
          exec c s = .next { s with host := { s.host with discarded := min (s.host.discarded + 1) 65535 } }))) ∧
    (∀ (s : State) (chars : List RxChar), s.power.phase = .starting → receiveLine chars = none →
      exec (.hostLineComplete chars) s = .next s) ∧
    (∀ (s : State) (line : Line) (reply : Reply), s.power.phase = .running →
      s.host.inService = some { line := line, stage := .replying reply } →
      (s.host.waiting = none → exec .replySent s = .next { s with host := { s.host with inService := none } }) ∧
      ∀ next, s.host.waiting = some next →
        taken { s with host := { s.host with inService := none, waiting := none } } next (exec .replySent s)) ∧
    (∀ (s : State) (r : Req) (args : List Tok), s.power.phase = .running → reachesArray r args = true →
      s.startable ≠ none ∨ s.store.deliveries ≠ [] →
      (s.host.inService = none → taken s (.request r args) (exec (instrOf r args) s)) ∧
      (s.host.inService = some { line := .request r args, stage := .taken } → exec (instrOf r args) s = .next s)) ∧
    (∀ (r : Req) (args : List Tok),
      reachesArray r args = false ↔
        r ∈ [.NOTICES, .NOTACK, .FDRFORCE, .CHRREAD, .CLKALIGN, .IDENT] ∨ (r = .RESREAD ∧ args = []) ∨
          (r = .FEEDER ∧ args.getLast? = some (.kw .QUEUE))) ∧
    ∀ (s : State) (ended : Bool),
      (s.waits ended .engine = true ↔ s.startable ≠ none ∨ ended = true ∧ s.settlement.computation ≠ none) ∧
      (s.waits ended .intake = true ↔ s.store.deliveries ≠ []) ∧
      (s.waits ended .hostLine = true ↔
        ∃ r args, s.host.inService = some { line := .request r args, stage := .taken } ∧ reachesArray r args = true) ∧
      (s.waits ended .display = true ↔ s.display.fetch ≠ none) ∧
      (∀ r, s.arbiterNext ended = some r ↔
        ∃ higher lower, [.engine, .intake, .hostLine, .display] = higher ++ r :: lower ∧ s.waits ended r = true ∧
          ∀ q ∈ higher, s.waits ended q = false) ∧
      (s.settlement.computation ≠ none → s.arbiterNext true = some .engine)

/-- IDENT, STATUS, NOTICES and CHRREAD are served in every service state and during a warning and report the part, its state,
its notices and its charter words; any other form of them answers NO SYNTAX, a word number outside 0..31 NO RANGE (R186, R187,
R189, R195). -/
def Obligations.IdentStatusNoticesChrreadReport : Prop :=
  (∀ (s : State) (args : List Tok), s.serves .IDENT args →
      (args = [] →
        exec (.ident args) s =
          .next (s.answering .IDENT args
            [[.kw .OK, .kw .SEZGAT, .kw .S296, .num 1,
              if 1 ≤ s.charterWord 0 ∧ s.charterWord 0 ≤ 65534 then .num (s.charterWord 0) else .dash,
              .kw (if s.charterWord 31 = 0 then .LOCKED else .UNLOCKED),
              .num (match s.host.rate with
                | .low => 9600
                | .high => 57600)]])) ∧
      (args ≠ [] → exec (.ident args) s = .next (s.answering .IDENT args [[.kw .NO, .kw .SYNTAX]]))) ∧
    (∀ (s : State) (args : List Tok), s.serves .STATUS args →
      (args = [] →
        exec (.status args) s =
          .next (s.answering .STATUS args
            [[.kw .OK, .kw s.service.kw, .kw (if s.supply.warning then .WARNING else .GOOD),
              .kw (if s.calendar.valid then .VALID else .INVALID),
              .kw (if s.settlement.computation = none then .IDLE else .COMPUTING), .kw s.settlement.deferral.kw,
              .num s.store.books.length, .num s.journal.records.length, .kw s.feederA.link.kw, .kw s.feederB.link.kw,
              .kw s.reserve.state.kw,
              .num ((noticeOrder.countP fun n : Notice => (s.notices.cell n).flag : Nat) : Int),
              .kw (if s.notices.attn then .ON else .OFF), .num s.host.discarded]])) ∧
      (args ≠ [] → exec (.status args) s = .next (s.answering .STATUS args [[.kw .NO, .kw .SYNTAX]]))) ∧
    (∀ (s : State) (args : List Tok), s.serves .NOTICES args →
      let set := noticeOrder.filter fun n : Notice => (s.notices.cell n).flag
      (args = [] →
        exec (.notices args) s =
          .next (s.answering .NOTICES args
            [.kw .OK :: if set = [] then [.kw .NONE]
              else set.flatMap fun n : Notice => [.kw n.kw, .num (s.notices.cell n).count]])) ∧
      (args = [.kw .ALL] →
        exec (.notices args) s =
          .next (s.answering .NOTICES args
            ([.kw .OK] ::
              noticeOrder.map (fun n : Notice =>
                [.kw n.kw, .kw (if (s.notices.cell n).flag then .SET else .CLEAR), .num (s.notices.cell n).count,
                  .kw (if (s.notices.cell n).mask then .ON else .OFF)]) ++
              [[.kw .END]]))) ∧
      (args ≠ [] → args ≠ [.kw .ALL] →
        exec (.notices args) s = .next (s.answering .NOTICES args [[.kw .NO, .kw .SYNTAX]]))) ∧
    ∀ (s : State) (args : List Tok), s.serves .CHRREAD args →
      (∀ w : CharterIx, args = [.num w.val] →
        exec (.chrread args) s =
          .next (s.answering .CHRREAD args [[.kw .OK, .num w.val, .num (s.charter.words[w]).toNat]])) ∧
      (∀ n : Int, args = [.num n] → n < 0 ∨ 31 < n →
        exec (.chrread args) s = .next (s.answering .CHRREAD args [[.kw .NO, .kw .RANGE]])) ∧
      (args = [.kw .ALL] →
        exec (.chrread args) s =
          .next (s.answering .CHRREAD args
            ([.kw .OK] ::
              (List.finRange 32).map (fun w : CharterIx => [.num w.val, .num (s.charter.words[w]).toNat]) ++
              [[.kw .END]]))) ∧
      ((∀ n, args ≠ [.num n]) → args ≠ [.kw .ALL] →
        exec (.chrread args) s = .next (s.answering .CHRREAD args [[.kw .NO, .kw .SYNTAX]]))

/-- A notice set once sets its flag, raises its count by 1, wrapping from 255 to 0, and keeps every other notice and every mask
(R188). NOTACK clears the flag of a notice whose count equals the one named and no other, keeps counts and masks, and answers the
flags then set; NOTMASK reports the masks, or writes ALL first and then each named mask; ATTN follows both (R190, R191, R192).
That a NOTACK deserving both NO SYNTAX and NO RANGE answers NO SYNTAX is the model's choice (log 49). -/
def Obligations.NotackAndNotmaskMoveAttn : Prop :=
  (∀ (k : Kw) (v : Tok) (m : Int), readAck k v = some m ↔ (∃ n : Notice, k = n.kw) ∧ v = .num m) ∧
  (∀ (k : Kw) (v : Tok) (b : Bool),
      readMask k v = some b ↔ (k = .ALL ∨ ∃ n : Notice, k = n.kw) ∧ v = .kw (if b then .ON else .OFF)) ∧
  (∀ (s : State) (n : Notice), ∃ ns : Notices, s.notify n = { s with notices := ns } ∧
      ns.cell n =
        { s.notices.cell n with flag := true, count := ((s.notices.cell n).count + 1) % 256 } ∧
      (∀ k, k ≠ n → ns.cell k = s.notices.cell k) ∧
      (ns.attn = true ↔ s.power.phase = .running ∧ ∃ k, (ns.cell k).flag = true ∧ (ns.cell k).mask = true)) ∧
  (∀ (s : State) (args : List Tok), s.serves .NOTACK args →
      (pairs readAck args = none →
        exec (.notack args) s = .next (s.answering .NOTACK args [[.kw .NO, .kw .SYNTAX]])) ∧
      ∀ ps, pairs readAck args = some ps →
        ((∃ p ∈ ps, p.2 < 0 ∨ 255 < p.2) →
          exec (.notack args) s = .next (s.answering .NOTACK args [[.kw .NO, .kw .RANGE]])) ∧
        ((∀ p ∈ ps, 0 ≤ p.2 ∧ p.2 ≤ 255) →
          ∃ ns : Notices, exec (.notack args) s =
              .next ({ s with notices := ns }.answering .NOTACK args
                [.kw .OK :: match noticeOrder.filter fun n : Notice => (ns.cell n).flag with
                  | [] => [.kw .NONE]
                  | set => set.flatMap fun n : Notice => [.kw n.kw, .num (ns.cell n).count]]) ∧
            (∀ n, ns.cell n =
              if given ps n.kw = some ((s.notices.cell n).count : Int) then { s.notices.cell n with flag := false }
              else s.notices.cell n) ∧
            (ns.attn = true ↔ ∃ n, (ns.cell n).flag = true ∧ (ns.cell n).mask = true))) ∧
    (∀ s : State, s.serves .NOTMASK [] → s.service ≠ .uncommissioned →
      exec (.notmask []) s =
        .next (s.answering .NOTMASK []
          [.kw .OK :: noticeOrder.flatMap fun n : Notice => [.kw n.kw, .kw (if (s.notices.cell n).mask then .ON else .OFF)]])) ∧
    ∀ (s : State) (args : List Tok) (ps : List (Kw × Bool)), pairs readMask args = some ps → s.serves .NOTMASK args →
      s.service ≠ .uncommissioned → s.supply.warning = false →
      ∃ ns : Notices, exec (.notmask args) s = .next ({ s with notices := ns }.answering .NOTMASK args [[.kw .OK]]) ∧
        (∀ n, ns.cell n = { s.notices.cell n with
          mask := match given ps n.kw, given ps .ALL with
            | some b, _ => b
            | none, some b => b
            | none, none => (s.notices.cell n).mask }) ∧
        (ns.attn = true ↔ ∃ n, (ns.cell n).flag = true ∧ (ns.cell n).mask = true)

/-- The substitution table stays within 8 distinct entries, each supply command queue within 16 entries of distinct slots, and
ATTN stays the level its flags and masks give, at every step (R57, R128, R192). -/
def Obligations.TablesQueuesAndAttnStaySound : Prop :=
  ∀ s t : State, s.subsSound → s.queuesSound → s.noticesSound → step s = .next t →
    t.subsSound ∧ t.queuesSound ∧ t.noticesSound

/-! ## Charter, supply, resets (chapter 11) -/

/-- CHRPROG puts a program in flight for a word 0..30 whose new value only clears bits and breaks no held household value or
levy; its completion writes the word, moves b_last for a legal length in word 2, and answers. CHRLOCK names the first word
outside its range, or programs the lock, whose completion locks the charter and enters SERVICE (R3, R16, R21, R45, R196, R198). -/
def Obligations.CharterProgramsComplete : Prop :=
  (∀ n : Nat,
      (lockRange 0 n = true ↔ 1 ≤ n ∧ n ≤ 65534) ∧ (lockRange 1 n = true ↔ 1 ≤ n ∧ n ≤ 96) ∧
        (lockRange 2 n = true ↔ n ∈ [5, 10, 15, 20, 30, 60]) ∧ (lockRange 3 n = true ↔ n ≤ 3) ∧
        (lockRange 4 n = true ↔ 1 ≤ n ∧ n ≤ 65535) ∧ (lockRange 5 n = true ↔ n ≤ 200) ∧
        (lockRange 6 n = true ↔ n ≤ 65534) ∧ (lockRange 7 n = true ↔ n ≤ 65534)) ∧
  (∀ (s : State) (w : CharterIx) (v : Word16) (args : List Tok), args = [.num w.val, .num v.toNat] →
      s.serves .CHRPROG args → s.locked = false → s.service = .commissioning → s.supply.warning = false →
      let broken := (w = 1 ∧ (if 1 ≤ v.toNat ∧ v.toNat ≤ 96 then v.toNat else 0) < s.memberCount) ∨
        (w = 4 ∧ ∃ i c, (s.household i).member ≠ .vacant ∧ (s.household i).settings = some c ∧ v.toNat < c.cap) ∨
        (w = 5 ∧ v.toNat ≤ 200 ∧ ∃ i : SetIx, v.toNat < (s.tariff.sets[i]).levy) ∨
        (w = 6 ∧ ∃ i c, (s.household i).member ≠ .vacant ∧ (s.household i).settings = some c ∧
          c.floor < -((if v.toNat ≤ 65534 then (v.toNat : Int) else 0) * 1000000))
      (w = 31 ∨ v &&& s.charter.words[w] ≠ v ∨ broken →
        exec (.chrprog args) s = .next (s.answering .CHRPROG args [[.kw .NO, .kw .RANGE]])) ∧
      (w ≠ 31 → v &&& s.charter.words[w] = v → ¬broken →
        exec (.chrprog args) s =
          .next ({ s with charter := { s.charter with program := some (.word w v) } }.awaiting .CHRPROG args))) ∧
    (∀ (s : State) (w : CharterIx) (v : Word16) (line : Line), s.power = { phase := .running, resetDue := none } →
      s.charter.program = some (.word w v) → s.host.inService = some { line := line, stage := .programming } →
      exec .charterProgramCompletion s =
        .next { s with
          charter := { words := s.charter.words.set w v, program := none }
          host :=
            { s.host with
              inService := some { line := line, stage := .replying [[.kw .OK, .num w.val, .num v.toNat]] } }
          calendar :=
            if w = 2 ∧ legalLength v.toNat = true then
              { s.calendar with
                bLast := if s.calendar.valid then s.calendar.now.minutes / v.toNat else 0
                held := false }
            else s.calendar }) ∧
    (∀ s : State, s.serves .CHRLOCK [] → s.locked = false → s.service = .commissioning → s.supply.warning = false →
      (∀ w : CharterIx, w < 8 → lockRange w (s.charterWord w) = false →
        (∀ k : CharterIx, k < w → lockRange k (s.charterWord k) = true) →
        exec (.chrlock []) s = .next (s.answering .CHRLOCK [] [[.kw .NO, .kw .RANGE, .num w.val]])) ∧
      ((∀ w : CharterIx, w < 8 → lockRange w (s.charterWord w) = true) →
        exec (.chrlock []) s =
          .next ({ s with charter := { s.charter with program := some .lock } }.awaiting .CHRLOCK []))) ∧
    ∀ (s : State) (line : Line), s.power = { phase := .running, resetDue := none } → s.charter.program = some .lock →
      s.host.inService = some { line := line, stage := .programming } →
      exec .lockCompletion s =
        .next { s with
          charter := { words := s.charter.words.set 31 0, program := none }
          service := .service
          store := { s.store with carried := 0, fresh := true }
          host :=
            { s.host with inService := some { line := line, stage := .replying [[.kw .OK, .kw .SERVICE]] } } }

/-- A charter word can only lose 1 bits, at every step; a locked charter never changes (R193, R194). -/
def Obligations.CharterOnlyLosesBitsAndStaysLocked : Prop :=
  ∀ s t : State, s.charterSound → step s = .next t →
    t.charterSound ∧ (∀ w : CharterIx, t.charter.words[w] &&& s.charter.words[w] = t.charter.words[w]) ∧
      (s.locked = true → t.charter = s.charter)

/-- WIPE in COMMISSIONING with the monitor GOOD returns accounts, books, journal, tariffs, settings and masks to their
defaults in one event, and leaves the charter, the date-time, b_last, the notices' flags and counts, the link states and counts
and the reserve state as they are (R173, R201). It is granted the array only when no delivery waits (R185, log 6), so the list of
deliveries, which is the model's (log 10), is empty before and after it. The activity is SHOWING (section 9.7). That its first page
waits as a fetch for PAGE_LATCH is the model's reading (log 20), and so is what stands until that latch: the page that was being
shown, or, on a display that showed none, no page and a blank glass, with no frames left (log 21). -/
def Obligations.WipeRestoresTheDefaults : Prop :=
  ∀ s : State, s.serves .WIPE [] → s.service = .commissioning → s.supply.warning = false →
    ∃ t : State, exec (.wipe []) s = .next (t.answering .WIPE [] [[.kw .OK]]) ∧
      (∀ i, t.household i =
        { member := .vacant, settings := none, bases := none, balance := 0, misses := 0, wanted := .closed
          confirmed := none }) ∧
      t.fund = 0 ∧ t.injection = 0 ∧ t.journal = { records := [], nextSeq := some 1 } ∧
      t.store = { books := [], carried := 0, fresh := true, late := 0, subs := [], deliveries := s.store.deliveries } ∧
      t.settlement = { s.settlement with deferral := .none } ∧
      (∀ e : BandIx, t.tariff.bands[e] = { used := false, weekdays := [], start := 0, setIx := 0 }) ∧
      (∀ i : SetIx, t.tariff.sets[i] =
        { community := 0, feed := 0, feedSurplus := 0, plant := 0, plantScarcity := 0, levy := 0 }) ∧
      (∀ f, (t.engine f).queue = [] ∧ (t.engine f).timeout = 200 ∧ (t.engine f).retries = 2 ∧
        (t.engine f).link = (s.engine f).link ∧ (t.engine f).fails = (s.engine f).fails ∧
        (t.engine f).answered = (s.engine f).answered ∧ (t.engine f).failed = (s.engine f).failed ∧
        (t.engine f).strays = (s.engine f).strays ∧ (t.engine f).bad = (s.engine f).bad ∧
        ∀ p x, (t.engine f).inFlight = some (p, x) → x.vacated = true) ∧
      t.reserve = { s.reserve with
        scarcity := 0, surplus := 0, leaving := 0, position := 0
        settings :=
          { socLow := 250, socHyst := 50, fHigh := 51000, fHyst := 300, fMin := 45000, fMax := 65000, divisor := 1
            count := 3 } } ∧
      t.margin = 1000000 ∧
      (t.display.mode = .scroll ∧ t.display.rate = 64 ∧ t.display.dwell = 8 ∧ t.display.reserveOn = true ∧
        t.display.clockOn = true ∧ t.display.heldPage = .clock ∧ t.display.activity = .showing ∧
        t.display.fetch = some .first ∧ t.display.framesLeft = 0) ∧
      (s.display.activity = .showing →
        t.display.current = s.display.current ∧ t.display.glyphs = s.display.glyphs ∧ t.display.marks = s.display.marks) ∧
      (s.display.activity ≠ .showing →
        t.display.current = none ∧ t.display.glyphs = Vector.replicate 8 .blank ∧
          t.display.marks = { minus := false, overflow := false, opened := false, stale := false }) ∧
      (∀ n, t.notices.cell n = { s.notices.cell n with mask := true }) ∧
      (t.notices.attn = true ↔ ∃ n, (s.notices.cell n).flag = true) ∧
      t.charter = s.charter ∧ t.calendar = s.calendar ∧ t.service = s.service ∧ t.supply = s.supply ∧
      t.power = s.power ∧ t.host = s.host

/-- VDD_SAMPLE moves the two runs; the fourth low sample in GOOD, as SUPPLY_WARNING does, enters WARNING: PFAIL low,
POWER_WARNING set, a pass in GUARD ended, any other stopping, one that waits discarded, and the display dark with its settings
kept; the 64th good one in WARNING, as SUPPLY_GOOD does, returns to GOOD: PFAIL high, and a page starts in the mode held. In
SCROLL it is the page after the one that was shown, or last chosen, when the warning began, and the first page after BLANKING or
a NONE page; in HOLD the held page; in OFF the activity is OFF and nothing is fetched (R120, R178, R202 to R204). Nothing else
changes. Which page `.after` a page and `.first` are is stated in PageLatchShowsTheChosenPage. The model's own: SUPPLY_WARNING and
SUPPLY_GOOD stand for the rest of their runs, and in the state they lead to change nothing (log 2, log 17); the page waits for its
latch (log 20) on a glass that shows nothing (log 21); a warning that meets a page start still waiting resumes with that start's
own choice (log 42); and a book that can be taken again is taken by a SETTLING_START and not in this event (log 9). -/
def Obligations.SupplySamplesWarnAndRecover : Prop :=
  ∀ s : State, s.power.phase = .running →
    let d := s.display
    let dark := fun a : Activity => { d with
      activity := a, current := none, glyphs := Vector.replicate 8 .blank
      marks := { minus := false, overflow := false, opened := false, stale := false }, framesLeft := 0, fetch := none }
    let lit := if d.activity = .showing then { d with framesLeft := 0 } else dark .showing
    let resumed : PageChoice :=
      if d.activity = .showing then
        match d.fetch, d.current with
        | some choice, _ => choice
        | none, some p => .after p
        | none, none => .first
      else .first
    let good : Supply := { warning := false, lowRun := 0, goodRun := 64, pfail := true }
    (s.supply.warning = false →
      exec .supplyGood s = .next s ∧
      ∃ t : State, exec .supplyWarning s = .next t ∧
        t = { s with
          supply := { warning := true, lowRun := 4, goodRun := 0, pfail := false }
          display := { dark .warning with resume := resumed }
          feederA := t.feederA, feederB := t.feederB, notices := t.notices } ∧
        (t.notices.cell .powerWarning = { s.notices.cell .powerWarning with
          flag := true, count := ((s.notices.cell .powerWarning).count + 1) % 256 }) ∧
        (∀ n, n ≠ .powerWarning → t.notices.cell n = s.notices.cell n) ∧
        (t.notices.attn = true ↔ ∃ n, (t.notices.cell n).flag = true ∧ (t.notices.cell n).mask = true) ∧
        (∀ f, t.engine f = { s.engine f with
          next := none
          pass := match (s.engine f).pass with
            | some p => if p.phase = .guard then none else some { p with stopping := true }
            | none => none }) ∧
        (3 ≤ s.supply.lowRun → exec (.vddSample true) s = .next t) ∧
        exec .supplyGood t = .next { t with
          supply := good
          display := match d.mode with
            | .scroll => { dark .showing with resume := resumed, fetch := some resumed }
            | .hold => { dark .showing with resume := resumed, fetch := some .held }
            | .off => { dark .off with resume := resumed } }) ∧
    (s.supply.warning = true →
      exec .supplyWarning s = .next s ∧
      ∃ t : State, exec .supplyGood s = .next t ∧
        t = { s with
          supply := good
          display := match d.mode with
            | .scroll => { lit with fetch := some d.resume }
            | .hold => { lit with fetch := some .held }
            | .off => dark .off } ∧
        (63 ≤ s.supply.goodRun → exec (.vddSample false) s = .next t)) ∧
    (s.supply.warning = true ∨ s.supply.lowRun < 3 →
      exec (.vddSample true) s =
        .next { s with supply := { s.supply with lowRun := min (s.supply.lowRun + 1) 4, goodRun := 0 } }) ∧
    (s.supply.warning = false ∨ s.supply.goodRun < 63 →
      exec (.vddSample false) s =
        .next { s with supply := { s.supply with goodRun := min (s.supply.goodRun + 1) 64, lowRun := 0 } })

/-- RESET_PIN_ASSERT and POWER_LOSS, with no charter program in progress, end everything in flight without an outcome and keep
everything held in the array and the charter, the display settings with the page enables and the held page and the notice masks
among it (R167, R191, section 9.7), in start-up as when the part runs; RESET_PIN_RELEASE and POWER_ON begin start-up from the
straps and keep it too; STARTUP_END makes the part run with the monitor GOOD and the notices clear, and then takes its events,
each once and in any order (R206): RESTARTED set, and CLOCK_INVALID when the calendar is INVALID (R188); one boundary event for
the boundaries passed (R6); every AUTO household evaluated in slot order (R160); a page started in the mode held (R176); and the
line received in start-up taken into service. SETTLING_START, PAGE_LATCH and the first line's request may come among them, and
the last two also ahead of a DUE book that the engine has not examined yet (R2, R6, R68, R71, R111, R136, R160, R176, R182,
R185, R188, R197, R199, R205, R206). A reset during a charter program waits for its completion, which does what it does without
one before the reset takes effect (R197). The level of the pin is kept without VDD, and a part powered on with the pin held
waits for its release (R205, R206, log 22). The operand of STARTUP_END, the order of its events, is the model's (log 8), and so
are when volatile items change inside a reset (log 22, log 24), the list of deliveries, which a reset loses (log 10), and the
fetch that STARTUP_END leaves waiting for PAGE_LATCH (log 20). -/
def Obligations.ResetsKeepTheArrayAndStartAnew : Prop :=
  let settingsKept := fun s t : State =>
    (t.display.mode = s.display.mode ∧ t.display.rate = s.display.rate ∧ t.display.dwell = s.display.dwell ∧
        t.display.reserveOn = s.display.reserveOn ∧ t.display.clockOn = s.display.clockOn ∧
        t.display.heldPage = s.display.heldPage) ∧
      (∀ n, (t.notices.cell n).mask = (s.notices.cell n).mask) ∧
      (∀ f, (t.engine f).timeout = (s.engine f).timeout ∧ (t.engine f).retries = (s.engine f).retries) ∧
      t.reserve.settings = s.reserve.settings ∧ t.margin = s.margin ∧ t.tariff = s.tariff ∧ t.charter = s.charter ∧
      t.fund = s.fund ∧ t.injection = s.injection ∧ t.journal = s.journal
  let dueAgain := fun b : Book => match b.state with
    | .settling cause => { b with state := .due cause }
    | _ => b
  let served := fun (u : State) (r : Req) (args : List Tok) =>
    let at_ := fun (v : State) (stage : Stage) =>
      ({ v with host := { v.host with inService := some { line := .request r args, stage := stage } } } : State)
    match serveRequest r args u with
    | .refused reply => at_ u (.replying reply)
    | .done v reply => at_ v (.replying reply)
    | .programming v => at_ v .programming
  (∀ (u : State) (r : Req) (args : List Tok), u.serves r args → exec (instrOf r args) u = .next (served u r args)) ∧
  (∀ (s : State) (c : Instr) (phase : PowerPhase),
      (s.power.phase = .running ∧ s.charter.program = none ∨ s.power.phase = .starting) ∧
          (c = .resetPinAssert ∧ phase = .resetHeld ∨ c = .powerLoss ∧ phase = .off) ∨
        s.power.phase = .resetHeld ∧ c = .powerLoss ∧ phase = .offHeld →
      ∃ t : State, exec c s = .next t ∧ t.power = { phase := phase, resetDue := none } ∧
        t.settlement = { computation := none, deferral := .none } ∧
        t.store = { s.store with
          deliveries := []
          books := s.store.books.map dueAgain } ∧
        (∀ f, t.engine f = { s.engine f with pass := none, next := none }) ∧
        t.calendar = { s.calendar with aligning := false } ∧ t.host = { s.host with inService := none, waiting := none } ∧
        t.notices.attn = false ∧ t.supply.pfail = false ∧ t.display.activity = .off ∧ t.table = s.table ∧
        settingsKept s t) ∧
    (∀ (s : State) (c : Instr) (mode : ModeStrap) (rate : Rate) (held : Bool),
      (c = .resetPinRelease mode rate ∧ s.power.phase = .resetHeld ∧ held = true ∨
        c = .powerOn held mode rate ∧ s.power.phase = .off) →
      ∃ t : State, exec c s = .next t ∧ t.power = { phase := .starting, resetDue := none } ∧
        t.service = (if s.charterWord 31 = 0 then .service else if mode = .commission then .commissioning
          else .uncommissioned) ∧
        t.host = { rate := rate, inService := none, waiting := none, discarded := 0 } ∧
        (∀ f, t.engine f =
          { link := .up, fails := 0, answered := 0, failed := 0, strays := 0, bad := 0, queue := [], pass := none
            next := none, timeout := (s.engine f).timeout, retries := (s.engine f).retries }) ∧
        t.reserve =
          { state := .stale .normal, scarcity := 0, surplus := 0, leaving := 0, position := 0, timer := none
            previous := none, last := none, flags := { scarce := false, surplus := false, stale := true }, accepted := 0
            bad := 0, repeats := 0, outOfRange := 0, settings := s.reserve.settings } ∧
        t.store = { s.store with late := 0, deliveries := [], books := s.store.books.map dueAgain } ∧
        t.settlement = { computation := none, deferral := .none } ∧
        (∀ n, t.notices.cell n = { flag := false, count := 0, mask := (s.notices.cell n).mask }) ∧
        t.calendar.bLast = s.calendar.bLast ∧ t.calendar.held = s.calendar.held ∧
        (held = true → t.calendar.now = s.calendar.now ∧ t.calendar.valid = s.calendar.valid) ∧
        (held = false → t.calendar.now =
            { year := 2000, month := 1, day := 1, hour := 0, minute := 0, second := 0 } ∧ t.calendar.valid = false) ∧
        t.calendar.aligning = false ∧ t.notices.attn = false ∧ t.supply.pfail = false ∧ t.display.activity = .off ∧
        t.table = s.table ∧ settingsKept s t) ∧
    (∀ (s : State) (order : List StartEvent), s.power.phase = .starting →
      let due : List StartEvent := [.notices, .catchUp, .evaluation, .pageStart, .firstLine]
      let after := fun (c : Instr) (u : State) => match exec c u with
        | .next t => t
        | .fault _ => u
        | .refused _ => u
      let event := fun (u : State) (examined : Bool) (e : StartEvent) => match e with
        | .notices => if u.calendar.valid then u.notify .restarted else (u.notify .restarted).notify .clockInvalid
        | .catchUp => match u.intervalLength with
          | some len =>
            if u.calendar.valid = true ∧ u.calendar.bLast < u.calendar.now.minutes / len then
              u.boundaryEvent len (u.calendar.now.minutes / len)
            else u
          | none => u
        | .evaluation => allSlots.foldl
            (fun (v : State) (i : Slot) => match (v.household i).settings with
              | some g => if g.policy = .auto then v.evaluate i else v
              | none => v)
            u
        | .pageStart =>
          let d := u.display
          let dark := fun a : Activity => { d with
            activity := a, current := none, glyphs := Vector.replicate 8 .blank
            marks := { minus := false, overflow := false, opened := false, stale := false }, framesLeft := 0, fetch := none }
          let lit := if d.activity = .showing then { d with framesLeft := 0 } else dark .showing
          { u with display := match d.mode with
            | .scroll => { lit with fetch := some .first }
            | .hold => { lit with fetch := some .held }
            | .off => dark .off }
        | .firstLine => match u.host.inService with
          | some { line := line, stage := .held } => u.takeLine line
          | _ => u
        | .settling => after .settlingStart u
        | .latch =>
          if examined then after .pageLatch u
          else { u with display := (after .pageLatch { u with store := { u.store with books := [] } }).display }
        | .service => match u.host.inService with
          | some { line := .request r args, stage := .taken } =>
            if examined then after (instrOf r args) u
            else if reachesArray r args = true ∧ u.store.deliveries ≠ [] then u
            else served u r args
          | _ => u
      ∃ (ns : Notices) (t : State), exec (.startupEnd order) s = .next t ∧
        ns.attn = false ∧ (∀ n, ns.cell n = { flag := false, count := 0, mask := (s.notices.cell n).mask }) ∧
        let u : State := { s with
          power := { phase := .running, resetDue := none }
          supply := { warning := false, lowRun := 0, goodRun := 0, pfail := true }
          notices := ns }
        t = ((order.eraseDups ++ due.filter fun e => e ∉ order).foldl
          (fun p e => (event p.1 p.2 e, p.2 || e = .settling)) (u, u.startable.isNone)).1) ∧
    (∀ (s : State) (order : List StartEvent), s.power.phase = .starting →
      (∀ e ∈ order, e ≠ .settling ∧ e ≠ .latch ∧ e ≠ .service) →
      ∃ t : State, exec (.startupEnd order) s = .next t ∧ t.power = { phase := .running, resetDue := none } ∧
        t.supply = { warning := false, lowRun := 0, goodRun := 0, pfail := true } ∧
        (t.notices.cell .restarted).flag = true ∧ (t.notices.cell .restarted).count = 1 ∧
        ((t.notices.cell .clockInvalid).flag = true ↔ s.calendar.valid = false) ∧
        ((∀ len, s.intervalLength = some len → s.calendar.valid = true →
            s.calendar.now.minutes / len ≤ s.calendar.bLast) → t.calendar = s.calendar ∧ t.store = s.store) ∧
        (∀ len, s.intervalLength = some len → s.calendar.valid = true → s.calendar.bLast < s.calendar.now.minutes / len →
          t.calendar = { s.calendar with bLast := s.calendar.now.minutes / len, held := false }) ∧
        (s.display.mode = .off → t.display.activity = .off) ∧
        (s.display.mode = .hold → t.display.fetch = some .held) ∧
        (s.display.mode = .scroll → t.display.fetch = some .first) ∧
        settingsKept s t ∧ ∀ i, t.household i = { s.household i with wanted := (t.household i).wanted }) ∧
    (∀ s : State,
      (s.power.phase = .off → exec .resetPinAssert s = .next { s with power := { s.power with phase := .offHeld } }) ∧
      (s.power.phase = .offHeld →
        (∀ mode rate, exec (.resetPinRelease mode rate) s = .next { s with power := { s.power with phase := .off } }) ∧
        ∀ held mode rate,
          exec (.powerOn held mode rate) s =
            .next { s with
              power := { phase := .resetHeld, resetDue := none }
              calendar :=
                if held then s.calendar
                else
                  { s.calendar with
                    now := { year := 2000, month := 1, day := 1, hour := 0, minute := 0, second := 0 }
                    valid := false, aligning := false } })) ∧
    (∀ s : State, s.power.phase = .running → s.charter.program ≠ none →
      let due := fun d : Option ResetDue => ({ s with power := { s.power with resetDue := d } } : State)
      let held := s.power.resetDue = some .held ∨ s.power.resetDue = some .powerLostHeld
      let unpowered := s.power.resetDue = some .powerLost ∨ s.power.resetDue = some .powerLostHeld
      (unpowered → exec .resetPinAssert s = .next (due (some .powerLostHeld))) ∧
      (¬unpowered → exec .resetPinAssert s = .next (due (some .held))) ∧
      (held → exec .powerLoss s = .next (due (some .powerLostHeld))) ∧
      (¬held → exec .powerLoss s = .next (due (some .powerLost))) ∧
      ∀ mode rate,
        (s.power.resetDue = some .held →
          exec (.resetPinRelease mode rate) s = .next (due (some (.released mode rate)))) ∧
        (s.power.resetDue = some .powerLostHeld →
          exec (.resetPinRelease mode rate) s = .next (due (some .powerLost))) ∧
        (¬held → exec (.resetPinRelease mode rate) s = .next s)) ∧
    ∀ (s : State) (c : Instr) (d : ResetDue), s.power = { phase := .running, resetDue := some d } →
      c = .charterProgramCompletion ∧ (∃ w v, s.charter.program = some (.word w v)) ∨
        c = .lockCompletion ∧ s.charter.program = some .lock →
      ∃ t k : State, exec c { s with power := { phase := .running, resetDue := none } } = .next t ∧
        exec .resetPinAssert t = .next k ∧
        (d = .held → exec c s = .next k) ∧
        (d = .powerLost → exec c s = exec .powerLoss t) ∧
        (d = .powerLostHeld → exec c s = exec .powerLoss k) ∧
        ∀ mode rate, d = .released mode rate → exec c s = exec (.resetPinRelease mode rate) k

/-- Every step keeps the reserve watch in its ranges, its settings legal and its accumulator true to its state (R136, R149,
R152), the households, caps, floors and levies within the charter's values in effect, also through a charter program (R15, R16,
R21), and every balance and the fund within the balance limit (R20, R36); the machine right after reset has all three. -/
def Obligations.SettingsValuesAndBalancesStayInRange : Prop :=
  (∀ s t : State, s.reserveSound → step s = .next t → t.reserveSound) ∧
    (∀ s t : State, s.valuesSound → step s = .next t → t.valuesSound) ∧
    (∀ s t : State, s.limitsSound → step s = .next t → t.limitsSound) ∧
    State.reset.reserveSound ∧ State.reset.valuesSound ∧ State.reset.limitsSound

/-- The machine right after reset is sound in every block: the accounts and books, the table, the queues, the journal, the
notices, the charter, the calendar and the schedule. What it holds beyond the factory's values is log 3's choice. -/
def Obligations.ResetStateIsSound : Prop :=
  State.reset.accountsSound ∧ State.reset.tableSound ∧ State.reset.queuesSound ∧ State.reset.subsSound ∧
    State.reset.journal.sound ∧ State.reset.noticesSound ∧ State.reset.charterSound ∧ State.reset.calendarSound ∧
    State.reset.tariffSound
end

