-- ==== Sys2Proof/Laws/Arbiter.lean ====
section
/-! SUPPORT. What the store arbiter grants, said once. -/

namespace Sys2Proof.Machine

/-- An access is made, or nothing happens. -/
theorem State.atGrant_cases (s : State) (r : Requester) (ended : Bool) (access : State → State) :
    s.atGrant r ended access = access s ∨ s.atGrant r ended access = s := by
  unfold State.atGrant; split <;> simp

/-- A requester that waits alone at the top of the order is granted the array. -/
theorem State.atGrant_of {s : State} {r : Requester} {ended : Bool} (h : s.arbiterNext ended = some r)
    (access : State → State) : s.atGrant r ended access = access s := by
  simp [State.atGrant, h]

/-- A requester that is not next makes no access. -/
theorem State.atGrant_not {s : State} {r : Requester} {ended : Bool} (h : s.arbiterNext ended ≠ some r)
    (access : State → State) : s.atGrant r ended access = s := by
  simp [State.atGrant, h]

/-- The settlement engine is granted the array whenever it waits (R185). -/
theorem State.arbiterNext_engine {s : State} {ended : Bool} (h : s.waits ended .engine = true) :
    s.arbiterNext ended = some .engine := by
  simp [State.arbiterNext, h]

/-- The snapshot intake is granted the array when it waits and the engine does not (R185). -/
theorem State.arbiterNext_intake {s : State} {ended : Bool} (e : s.waits ended .engine = false)
    (h : s.waits ended .intake = true) : s.arbiterNext ended = some .intake := by
  simp [State.arbiterNext, e, h]

/-- The display controller is granted the array when it alone waits (R185). -/
theorem State.arbiterNext_display {s : State} {ended : Bool} (e : s.waits ended .engine = false)
    (i : s.waits ended .intake = false) (l : s.waits ended .hostLine = false) (h : s.waits ended .display = true) :
    s.arbiterNext ended = some .display := by
  simp [State.arbiterNext, e, i, l, h]

/-- A posting attempt always has the first place (R93). -/
theorem State.atGrant_attemptPosting (s : State) : s.atGrant .engine true State.attemptPosting = s.attemptPosting := by
  by_cases h : s.waits true .engine = true
  · exact State.atGrant_of (State.arbiterNext_engine h) _
  · have none : s.settlement.computation = none := by
      cases c : s.settlement.computation with
      | none => rfl
      | some _ => simp [State.waits, c] at h
    have idle : s.attemptPosting = s := by simp [State.attemptPosting, none]
    rcases s.atGrant_cases .engine true State.attemptPosting with g | g <;> simp [g, idle]

/-- A book is taken whenever one can be: nothing goes ahead of it (R68, R185). -/
theorem State.atGrant_startSettling (s : State) : s.atGrant .engine false State.startSettling = s.startSettling := by
  by_cases h : s.waits false .engine = true
  · exact State.atGrant_of (State.arbiterNext_engine h) _
  · have none : s.startable = none := by
      cases c : s.startable with
      | none => rfl
      | some _ => simp [State.waits, c] at h
    have idle : s.startSettling = s := by simp [State.startSettling, none]
    rcases s.atGrant_cases .engine false State.startSettling with g | g <;> simp [g, idle]

end Sys2Proof.Machine
end

