-- ==== Sys2Proof/Laws/State.lean ====
section
/-! SUPPORT. What each named update of the state leaves: one lemma per field per update, and the lemmas of the engines and
of the household table. -/

namespace Sys2Proof.Machine

variable (s : State)

/-! ## withPending -/

@[simp] theorem State.withPending_pending (v : List Instr) : (s.withPending v).pending = v := rfl
@[simp] theorem State.withPending_power (v : List Instr) : (s.withPending v).power = s.power := rfl
@[simp] theorem State.withPending_charter (v : List Instr) : (s.withPending v).charter = s.charter := rfl
@[simp] theorem State.withPending_service (v : List Instr) : (s.withPending v).service = s.service := rfl
@[simp] theorem State.withPending_supply (v : List Instr) : (s.withPending v).supply = s.supply := rfl
@[simp] theorem State.withPending_calendar (v : List Instr) : (s.withPending v).calendar = s.calendar := rfl
@[simp] theorem State.withPending_tariff (v : List Instr) : (s.withPending v).tariff = s.tariff := rfl
@[simp] theorem State.withPending_table (v : List Instr) : (s.withPending v).table = s.table := rfl
@[simp] theorem State.withPending_fund (v : List Instr) : (s.withPending v).fund = s.fund := rfl
@[simp] theorem State.withPending_injection (v : List Instr) : (s.withPending v).injection = s.injection := rfl
@[simp] theorem State.withPending_store (v : List Instr) : (s.withPending v).store = s.store := rfl
@[simp] theorem State.withPending_settlement (v : List Instr) : (s.withPending v).settlement = s.settlement := rfl
@[simp] theorem State.withPending_journal (v : List Instr) : (s.withPending v).journal = s.journal := rfl
@[simp] theorem State.withPending_feederA (v : List Instr) : (s.withPending v).feederA = s.feederA := rfl
@[simp] theorem State.withPending_feederB (v : List Instr) : (s.withPending v).feederB = s.feederB := rfl
@[simp] theorem State.withPending_reserve (v : List Instr) : (s.withPending v).reserve = s.reserve := rfl
@[simp] theorem State.withPending_margin (v : List Instr) : (s.withPending v).margin = s.margin := rfl
@[simp] theorem State.withPending_display (v : List Instr) : (s.withPending v).display = s.display := rfl
@[simp] theorem State.withPending_host (v : List Instr) : (s.withPending v).host = s.host := rfl
@[simp] theorem State.withPending_notices (v : List Instr) : (s.withPending v).notices = s.notices := rfl

/-! ## withPower -/

@[simp] theorem State.withPower_pending (v : Power) : (s.withPower v).pending = s.pending := rfl
@[simp] theorem State.withPower_power (v : Power) : (s.withPower v).power = v := rfl
@[simp] theorem State.withPower_charter (v : Power) : (s.withPower v).charter = s.charter := rfl
@[simp] theorem State.withPower_service (v : Power) : (s.withPower v).service = s.service := rfl
@[simp] theorem State.withPower_supply (v : Power) : (s.withPower v).supply = s.supply := rfl
@[simp] theorem State.withPower_calendar (v : Power) : (s.withPower v).calendar = s.calendar := rfl
@[simp] theorem State.withPower_tariff (v : Power) : (s.withPower v).tariff = s.tariff := rfl
@[simp] theorem State.withPower_table (v : Power) : (s.withPower v).table = s.table := rfl
@[simp] theorem State.withPower_fund (v : Power) : (s.withPower v).fund = s.fund := rfl
@[simp] theorem State.withPower_injection (v : Power) : (s.withPower v).injection = s.injection := rfl
@[simp] theorem State.withPower_store (v : Power) : (s.withPower v).store = s.store := rfl
@[simp] theorem State.withPower_settlement (v : Power) : (s.withPower v).settlement = s.settlement := rfl
@[simp] theorem State.withPower_journal (v : Power) : (s.withPower v).journal = s.journal := rfl
@[simp] theorem State.withPower_feederA (v : Power) : (s.withPower v).feederA = s.feederA := rfl
@[simp] theorem State.withPower_feederB (v : Power) : (s.withPower v).feederB = s.feederB := rfl
@[simp] theorem State.withPower_reserve (v : Power) : (s.withPower v).reserve = s.reserve := rfl
@[simp] theorem State.withPower_margin (v : Power) : (s.withPower v).margin = s.margin := rfl
@[simp] theorem State.withPower_display (v : Power) : (s.withPower v).display = s.display := rfl
@[simp] theorem State.withPower_host (v : Power) : (s.withPower v).host = s.host := rfl
@[simp] theorem State.withPower_notices (v : Power) : (s.withPower v).notices = s.notices := rfl

/-! ## withCharter -/

@[simp] theorem State.withCharter_pending (v : Charter) : (s.withCharter v).pending = s.pending := rfl
@[simp] theorem State.withCharter_power (v : Charter) : (s.withCharter v).power = s.power := rfl
@[simp] theorem State.withCharter_charter (v : Charter) : (s.withCharter v).charter = v := rfl
@[simp] theorem State.withCharter_service (v : Charter) : (s.withCharter v).service = s.service := rfl
@[simp] theorem State.withCharter_supply (v : Charter) : (s.withCharter v).supply = s.supply := rfl
@[simp] theorem State.withCharter_calendar (v : Charter) : (s.withCharter v).calendar = s.calendar := rfl
@[simp] theorem State.withCharter_tariff (v : Charter) : (s.withCharter v).tariff = s.tariff := rfl
@[simp] theorem State.withCharter_table (v : Charter) : (s.withCharter v).table = s.table := rfl
@[simp] theorem State.withCharter_fund (v : Charter) : (s.withCharter v).fund = s.fund := rfl
@[simp] theorem State.withCharter_injection (v : Charter) : (s.withCharter v).injection = s.injection := rfl
@[simp] theorem State.withCharter_store (v : Charter) : (s.withCharter v).store = s.store := rfl
@[simp] theorem State.withCharter_settlement (v : Charter) : (s.withCharter v).settlement = s.settlement := rfl
@[simp] theorem State.withCharter_journal (v : Charter) : (s.withCharter v).journal = s.journal := rfl
@[simp] theorem State.withCharter_feederA (v : Charter) : (s.withCharter v).feederA = s.feederA := rfl
@[simp] theorem State.withCharter_feederB (v : Charter) : (s.withCharter v).feederB = s.feederB := rfl
@[simp] theorem State.withCharter_reserve (v : Charter) : (s.withCharter v).reserve = s.reserve := rfl
@[simp] theorem State.withCharter_margin (v : Charter) : (s.withCharter v).margin = s.margin := rfl
@[simp] theorem State.withCharter_display (v : Charter) : (s.withCharter v).display = s.display := rfl
@[simp] theorem State.withCharter_host (v : Charter) : (s.withCharter v).host = s.host := rfl
@[simp] theorem State.withCharter_notices (v : Charter) : (s.withCharter v).notices = s.notices := rfl

/-! ## withService -/

@[simp] theorem State.withService_pending (v : Service) : (s.withService v).pending = s.pending := rfl
@[simp] theorem State.withService_power (v : Service) : (s.withService v).power = s.power := rfl
@[simp] theorem State.withService_charter (v : Service) : (s.withService v).charter = s.charter := rfl
@[simp] theorem State.withService_service (v : Service) : (s.withService v).service = v := rfl
@[simp] theorem State.withService_supply (v : Service) : (s.withService v).supply = s.supply := rfl
@[simp] theorem State.withService_calendar (v : Service) : (s.withService v).calendar = s.calendar := rfl
@[simp] theorem State.withService_tariff (v : Service) : (s.withService v).tariff = s.tariff := rfl
@[simp] theorem State.withService_table (v : Service) : (s.withService v).table = s.table := rfl
@[simp] theorem State.withService_fund (v : Service) : (s.withService v).fund = s.fund := rfl
@[simp] theorem State.withService_injection (v : Service) : (s.withService v).injection = s.injection := rfl
@[simp] theorem State.withService_store (v : Service) : (s.withService v).store = s.store := rfl
@[simp] theorem State.withService_settlement (v : Service) : (s.withService v).settlement = s.settlement := rfl
@[simp] theorem State.withService_journal (v : Service) : (s.withService v).journal = s.journal := rfl
@[simp] theorem State.withService_feederA (v : Service) : (s.withService v).feederA = s.feederA := rfl
@[simp] theorem State.withService_feederB (v : Service) : (s.withService v).feederB = s.feederB := rfl
@[simp] theorem State.withService_reserve (v : Service) : (s.withService v).reserve = s.reserve := rfl
@[simp] theorem State.withService_margin (v : Service) : (s.withService v).margin = s.margin := rfl
@[simp] theorem State.withService_display (v : Service) : (s.withService v).display = s.display := rfl
@[simp] theorem State.withService_host (v : Service) : (s.withService v).host = s.host := rfl
@[simp] theorem State.withService_notices (v : Service) : (s.withService v).notices = s.notices := rfl

/-! ## withSupply -/

@[simp] theorem State.withSupply_pending (v : Supply) : (s.withSupply v).pending = s.pending := rfl
@[simp] theorem State.withSupply_power (v : Supply) : (s.withSupply v).power = s.power := rfl
@[simp] theorem State.withSupply_charter (v : Supply) : (s.withSupply v).charter = s.charter := rfl
@[simp] theorem State.withSupply_service (v : Supply) : (s.withSupply v).service = s.service := rfl
@[simp] theorem State.withSupply_supply (v : Supply) : (s.withSupply v).supply = v := rfl
@[simp] theorem State.withSupply_calendar (v : Supply) : (s.withSupply v).calendar = s.calendar := rfl
@[simp] theorem State.withSupply_tariff (v : Supply) : (s.withSupply v).tariff = s.tariff := rfl
@[simp] theorem State.withSupply_table (v : Supply) : (s.withSupply v).table = s.table := rfl
@[simp] theorem State.withSupply_fund (v : Supply) : (s.withSupply v).fund = s.fund := rfl
@[simp] theorem State.withSupply_injection (v : Supply) : (s.withSupply v).injection = s.injection := rfl
@[simp] theorem State.withSupply_store (v : Supply) : (s.withSupply v).store = s.store := rfl
@[simp] theorem State.withSupply_settlement (v : Supply) : (s.withSupply v).settlement = s.settlement := rfl
@[simp] theorem State.withSupply_journal (v : Supply) : (s.withSupply v).journal = s.journal := rfl
@[simp] theorem State.withSupply_feederA (v : Supply) : (s.withSupply v).feederA = s.feederA := rfl
@[simp] theorem State.withSupply_feederB (v : Supply) : (s.withSupply v).feederB = s.feederB := rfl
@[simp] theorem State.withSupply_reserve (v : Supply) : (s.withSupply v).reserve = s.reserve := rfl
@[simp] theorem State.withSupply_margin (v : Supply) : (s.withSupply v).margin = s.margin := rfl
@[simp] theorem State.withSupply_display (v : Supply) : (s.withSupply v).display = s.display := rfl
@[simp] theorem State.withSupply_host (v : Supply) : (s.withSupply v).host = s.host := rfl
@[simp] theorem State.withSupply_notices (v : Supply) : (s.withSupply v).notices = s.notices := rfl

/-! ## withCalendar -/

@[simp] theorem State.withCalendar_pending (v : Calendar) : (s.withCalendar v).pending = s.pending := rfl
@[simp] theorem State.withCalendar_power (v : Calendar) : (s.withCalendar v).power = s.power := rfl
@[simp] theorem State.withCalendar_charter (v : Calendar) : (s.withCalendar v).charter = s.charter := rfl
@[simp] theorem State.withCalendar_service (v : Calendar) : (s.withCalendar v).service = s.service := rfl
@[simp] theorem State.withCalendar_supply (v : Calendar) : (s.withCalendar v).supply = s.supply := rfl
@[simp] theorem State.withCalendar_calendar (v : Calendar) : (s.withCalendar v).calendar = v := rfl
@[simp] theorem State.withCalendar_tariff (v : Calendar) : (s.withCalendar v).tariff = s.tariff := rfl
@[simp] theorem State.withCalendar_table (v : Calendar) : (s.withCalendar v).table = s.table := rfl
@[simp] theorem State.withCalendar_fund (v : Calendar) : (s.withCalendar v).fund = s.fund := rfl
@[simp] theorem State.withCalendar_injection (v : Calendar) : (s.withCalendar v).injection = s.injection := rfl
@[simp] theorem State.withCalendar_store (v : Calendar) : (s.withCalendar v).store = s.store := rfl
@[simp] theorem State.withCalendar_settlement (v : Calendar) : (s.withCalendar v).settlement = s.settlement := rfl
@[simp] theorem State.withCalendar_journal (v : Calendar) : (s.withCalendar v).journal = s.journal := rfl
@[simp] theorem State.withCalendar_feederA (v : Calendar) : (s.withCalendar v).feederA = s.feederA := rfl
@[simp] theorem State.withCalendar_feederB (v : Calendar) : (s.withCalendar v).feederB = s.feederB := rfl
@[simp] theorem State.withCalendar_reserve (v : Calendar) : (s.withCalendar v).reserve = s.reserve := rfl
@[simp] theorem State.withCalendar_margin (v : Calendar) : (s.withCalendar v).margin = s.margin := rfl
@[simp] theorem State.withCalendar_display (v : Calendar) : (s.withCalendar v).display = s.display := rfl
@[simp] theorem State.withCalendar_host (v : Calendar) : (s.withCalendar v).host = s.host := rfl
@[simp] theorem State.withCalendar_notices (v : Calendar) : (s.withCalendar v).notices = s.notices := rfl

/-! ## withTariff -/

@[simp] theorem State.withTariff_pending (v : Tariff) : (s.withTariff v).pending = s.pending := rfl
@[simp] theorem State.withTariff_power (v : Tariff) : (s.withTariff v).power = s.power := rfl
@[simp] theorem State.withTariff_charter (v : Tariff) : (s.withTariff v).charter = s.charter := rfl
@[simp] theorem State.withTariff_service (v : Tariff) : (s.withTariff v).service = s.service := rfl
@[simp] theorem State.withTariff_supply (v : Tariff) : (s.withTariff v).supply = s.supply := rfl
@[simp] theorem State.withTariff_calendar (v : Tariff) : (s.withTariff v).calendar = s.calendar := rfl
@[simp] theorem State.withTariff_tariff (v : Tariff) : (s.withTariff v).tariff = v := rfl
@[simp] theorem State.withTariff_table (v : Tariff) : (s.withTariff v).table = s.table := rfl
@[simp] theorem State.withTariff_fund (v : Tariff) : (s.withTariff v).fund = s.fund := rfl
@[simp] theorem State.withTariff_injection (v : Tariff) : (s.withTariff v).injection = s.injection := rfl
@[simp] theorem State.withTariff_store (v : Tariff) : (s.withTariff v).store = s.store := rfl
@[simp] theorem State.withTariff_settlement (v : Tariff) : (s.withTariff v).settlement = s.settlement := rfl
@[simp] theorem State.withTariff_journal (v : Tariff) : (s.withTariff v).journal = s.journal := rfl
@[simp] theorem State.withTariff_feederA (v : Tariff) : (s.withTariff v).feederA = s.feederA := rfl
@[simp] theorem State.withTariff_feederB (v : Tariff) : (s.withTariff v).feederB = s.feederB := rfl
@[simp] theorem State.withTariff_reserve (v : Tariff) : (s.withTariff v).reserve = s.reserve := rfl
@[simp] theorem State.withTariff_margin (v : Tariff) : (s.withTariff v).margin = s.margin := rfl
@[simp] theorem State.withTariff_display (v : Tariff) : (s.withTariff v).display = s.display := rfl
@[simp] theorem State.withTariff_host (v : Tariff) : (s.withTariff v).host = s.host := rfl
@[simp] theorem State.withTariff_notices (v : Tariff) : (s.withTariff v).notices = s.notices := rfl

/-! ## withTable -/

@[simp] theorem State.withTable_pending (v : Vector Household 96) : (s.withTable v).pending = s.pending := rfl
@[simp] theorem State.withTable_power (v : Vector Household 96) : (s.withTable v).power = s.power := rfl
@[simp] theorem State.withTable_charter (v : Vector Household 96) : (s.withTable v).charter = s.charter := rfl
@[simp] theorem State.withTable_service (v : Vector Household 96) : (s.withTable v).service = s.service := rfl
@[simp] theorem State.withTable_supply (v : Vector Household 96) : (s.withTable v).supply = s.supply := rfl
@[simp] theorem State.withTable_calendar (v : Vector Household 96) : (s.withTable v).calendar = s.calendar := rfl
@[simp] theorem State.withTable_tariff (v : Vector Household 96) : (s.withTable v).tariff = s.tariff := rfl
@[simp] theorem State.withTable_table (v : Vector Household 96) : (s.withTable v).table = v := rfl
@[simp] theorem State.withTable_fund (v : Vector Household 96) : (s.withTable v).fund = s.fund := rfl
@[simp] theorem State.withTable_injection (v : Vector Household 96) : (s.withTable v).injection = s.injection := rfl
@[simp] theorem State.withTable_store (v : Vector Household 96) : (s.withTable v).store = s.store := rfl
@[simp] theorem State.withTable_settlement (v : Vector Household 96) : (s.withTable v).settlement = s.settlement := rfl
@[simp] theorem State.withTable_journal (v : Vector Household 96) : (s.withTable v).journal = s.journal := rfl
@[simp] theorem State.withTable_feederA (v : Vector Household 96) : (s.withTable v).feederA = s.feederA := rfl
@[simp] theorem State.withTable_feederB (v : Vector Household 96) : (s.withTable v).feederB = s.feederB := rfl
@[simp] theorem State.withTable_reserve (v : Vector Household 96) : (s.withTable v).reserve = s.reserve := rfl
@[simp] theorem State.withTable_margin (v : Vector Household 96) : (s.withTable v).margin = s.margin := rfl
@[simp] theorem State.withTable_display (v : Vector Household 96) : (s.withTable v).display = s.display := rfl
@[simp] theorem State.withTable_host (v : Vector Household 96) : (s.withTable v).host = s.host := rfl
@[simp] theorem State.withTable_notices (v : Vector Household 96) : (s.withTable v).notices = s.notices := rfl

/-! ## withFund -/

@[simp] theorem State.withFund_pending (v : Int) : (s.withFund v).pending = s.pending := rfl
@[simp] theorem State.withFund_power (v : Int) : (s.withFund v).power = s.power := rfl
@[simp] theorem State.withFund_charter (v : Int) : (s.withFund v).charter = s.charter := rfl
@[simp] theorem State.withFund_service (v : Int) : (s.withFund v).service = s.service := rfl
@[simp] theorem State.withFund_supply (v : Int) : (s.withFund v).supply = s.supply := rfl
@[simp] theorem State.withFund_calendar (v : Int) : (s.withFund v).calendar = s.calendar := rfl
@[simp] theorem State.withFund_tariff (v : Int) : (s.withFund v).tariff = s.tariff := rfl
@[simp] theorem State.withFund_table (v : Int) : (s.withFund v).table = s.table := rfl
@[simp] theorem State.withFund_fund (v : Int) : (s.withFund v).fund = v := rfl
@[simp] theorem State.withFund_injection (v : Int) : (s.withFund v).injection = s.injection := rfl
@[simp] theorem State.withFund_store (v : Int) : (s.withFund v).store = s.store := rfl
@[simp] theorem State.withFund_settlement (v : Int) : (s.withFund v).settlement = s.settlement := rfl
@[simp] theorem State.withFund_journal (v : Int) : (s.withFund v).journal = s.journal := rfl
@[simp] theorem State.withFund_feederA (v : Int) : (s.withFund v).feederA = s.feederA := rfl
@[simp] theorem State.withFund_feederB (v : Int) : (s.withFund v).feederB = s.feederB := rfl
@[simp] theorem State.withFund_reserve (v : Int) : (s.withFund v).reserve = s.reserve := rfl
@[simp] theorem State.withFund_margin (v : Int) : (s.withFund v).margin = s.margin := rfl
@[simp] theorem State.withFund_display (v : Int) : (s.withFund v).display = s.display := rfl
@[simp] theorem State.withFund_host (v : Int) : (s.withFund v).host = s.host := rfl
@[simp] theorem State.withFund_notices (v : Int) : (s.withFund v).notices = s.notices := rfl

/-! ## withInjection -/

@[simp] theorem State.withInjection_pending (v : Int) : (s.withInjection v).pending = s.pending := rfl
@[simp] theorem State.withInjection_power (v : Int) : (s.withInjection v).power = s.power := rfl
@[simp] theorem State.withInjection_charter (v : Int) : (s.withInjection v).charter = s.charter := rfl
@[simp] theorem State.withInjection_service (v : Int) : (s.withInjection v).service = s.service := rfl
@[simp] theorem State.withInjection_supply (v : Int) : (s.withInjection v).supply = s.supply := rfl
@[simp] theorem State.withInjection_calendar (v : Int) : (s.withInjection v).calendar = s.calendar := rfl
@[simp] theorem State.withInjection_tariff (v : Int) : (s.withInjection v).tariff = s.tariff := rfl
@[simp] theorem State.withInjection_table (v : Int) : (s.withInjection v).table = s.table := rfl
@[simp] theorem State.withInjection_fund (v : Int) : (s.withInjection v).fund = s.fund := rfl
@[simp] theorem State.withInjection_injection (v : Int) : (s.withInjection v).injection = v := rfl
@[simp] theorem State.withInjection_store (v : Int) : (s.withInjection v).store = s.store := rfl
@[simp] theorem State.withInjection_settlement (v : Int) : (s.withInjection v).settlement = s.settlement := rfl
@[simp] theorem State.withInjection_journal (v : Int) : (s.withInjection v).journal = s.journal := rfl
@[simp] theorem State.withInjection_feederA (v : Int) : (s.withInjection v).feederA = s.feederA := rfl
@[simp] theorem State.withInjection_feederB (v : Int) : (s.withInjection v).feederB = s.feederB := rfl
@[simp] theorem State.withInjection_reserve (v : Int) : (s.withInjection v).reserve = s.reserve := rfl
@[simp] theorem State.withInjection_margin (v : Int) : (s.withInjection v).margin = s.margin := rfl
@[simp] theorem State.withInjection_display (v : Int) : (s.withInjection v).display = s.display := rfl
@[simp] theorem State.withInjection_host (v : Int) : (s.withInjection v).host = s.host := rfl
@[simp] theorem State.withInjection_notices (v : Int) : (s.withInjection v).notices = s.notices := rfl

/-! ## withStore -/

@[simp] theorem State.withStore_pending (v : BookStore) : (s.withStore v).pending = s.pending := rfl
@[simp] theorem State.withStore_power (v : BookStore) : (s.withStore v).power = s.power := rfl
@[simp] theorem State.withStore_charter (v : BookStore) : (s.withStore v).charter = s.charter := rfl
@[simp] theorem State.withStore_service (v : BookStore) : (s.withStore v).service = s.service := rfl
@[simp] theorem State.withStore_supply (v : BookStore) : (s.withStore v).supply = s.supply := rfl
@[simp] theorem State.withStore_calendar (v : BookStore) : (s.withStore v).calendar = s.calendar := rfl
@[simp] theorem State.withStore_tariff (v : BookStore) : (s.withStore v).tariff = s.tariff := rfl
@[simp] theorem State.withStore_table (v : BookStore) : (s.withStore v).table = s.table := rfl
@[simp] theorem State.withStore_fund (v : BookStore) : (s.withStore v).fund = s.fund := rfl
@[simp] theorem State.withStore_injection (v : BookStore) : (s.withStore v).injection = s.injection := rfl
@[simp] theorem State.withStore_store (v : BookStore) : (s.withStore v).store = v := rfl
@[simp] theorem State.withStore_settlement (v : BookStore) : (s.withStore v).settlement = s.settlement := rfl
@[simp] theorem State.withStore_journal (v : BookStore) : (s.withStore v).journal = s.journal := rfl
@[simp] theorem State.withStore_feederA (v : BookStore) : (s.withStore v).feederA = s.feederA := rfl
@[simp] theorem State.withStore_feederB (v : BookStore) : (s.withStore v).feederB = s.feederB := rfl
@[simp] theorem State.withStore_reserve (v : BookStore) : (s.withStore v).reserve = s.reserve := rfl
@[simp] theorem State.withStore_margin (v : BookStore) : (s.withStore v).margin = s.margin := rfl
@[simp] theorem State.withStore_display (v : BookStore) : (s.withStore v).display = s.display := rfl
@[simp] theorem State.withStore_host (v : BookStore) : (s.withStore v).host = s.host := rfl
@[simp] theorem State.withStore_notices (v : BookStore) : (s.withStore v).notices = s.notices := rfl

/-! ## withSettlement -/

@[simp] theorem State.withSettlement_pending (v : Settlement) : (s.withSettlement v).pending = s.pending := rfl
@[simp] theorem State.withSettlement_power (v : Settlement) : (s.withSettlement v).power = s.power := rfl
@[simp] theorem State.withSettlement_charter (v : Settlement) : (s.withSettlement v).charter = s.charter := rfl
@[simp] theorem State.withSettlement_service (v : Settlement) : (s.withSettlement v).service = s.service := rfl
@[simp] theorem State.withSettlement_supply (v : Settlement) : (s.withSettlement v).supply = s.supply := rfl
@[simp] theorem State.withSettlement_calendar (v : Settlement) : (s.withSettlement v).calendar = s.calendar := rfl
@[simp] theorem State.withSettlement_tariff (v : Settlement) : (s.withSettlement v).tariff = s.tariff := rfl
@[simp] theorem State.withSettlement_table (v : Settlement) : (s.withSettlement v).table = s.table := rfl
@[simp] theorem State.withSettlement_fund (v : Settlement) : (s.withSettlement v).fund = s.fund := rfl
@[simp] theorem State.withSettlement_injection (v : Settlement) : (s.withSettlement v).injection = s.injection := rfl
@[simp] theorem State.withSettlement_store (v : Settlement) : (s.withSettlement v).store = s.store := rfl
@[simp] theorem State.withSettlement_settlement (v : Settlement) : (s.withSettlement v).settlement = v := rfl
@[simp] theorem State.withSettlement_journal (v : Settlement) : (s.withSettlement v).journal = s.journal := rfl
@[simp] theorem State.withSettlement_feederA (v : Settlement) : (s.withSettlement v).feederA = s.feederA := rfl
@[simp] theorem State.withSettlement_feederB (v : Settlement) : (s.withSettlement v).feederB = s.feederB := rfl
@[simp] theorem State.withSettlement_reserve (v : Settlement) : (s.withSettlement v).reserve = s.reserve := rfl
@[simp] theorem State.withSettlement_margin (v : Settlement) : (s.withSettlement v).margin = s.margin := rfl
@[simp] theorem State.withSettlement_display (v : Settlement) : (s.withSettlement v).display = s.display := rfl
@[simp] theorem State.withSettlement_host (v : Settlement) : (s.withSettlement v).host = s.host := rfl
@[simp] theorem State.withSettlement_notices (v : Settlement) : (s.withSettlement v).notices = s.notices := rfl

/-! ## withJournal -/

@[simp] theorem State.withJournal_pending (v : Journal) : (s.withJournal v).pending = s.pending := rfl
@[simp] theorem State.withJournal_power (v : Journal) : (s.withJournal v).power = s.power := rfl
@[simp] theorem State.withJournal_charter (v : Journal) : (s.withJournal v).charter = s.charter := rfl
@[simp] theorem State.withJournal_service (v : Journal) : (s.withJournal v).service = s.service := rfl
@[simp] theorem State.withJournal_supply (v : Journal) : (s.withJournal v).supply = s.supply := rfl
@[simp] theorem State.withJournal_calendar (v : Journal) : (s.withJournal v).calendar = s.calendar := rfl
@[simp] theorem State.withJournal_tariff (v : Journal) : (s.withJournal v).tariff = s.tariff := rfl
@[simp] theorem State.withJournal_table (v : Journal) : (s.withJournal v).table = s.table := rfl
@[simp] theorem State.withJournal_fund (v : Journal) : (s.withJournal v).fund = s.fund := rfl
@[simp] theorem State.withJournal_injection (v : Journal) : (s.withJournal v).injection = s.injection := rfl
@[simp] theorem State.withJournal_store (v : Journal) : (s.withJournal v).store = s.store := rfl
@[simp] theorem State.withJournal_settlement (v : Journal) : (s.withJournal v).settlement = s.settlement := rfl
@[simp] theorem State.withJournal_journal (v : Journal) : (s.withJournal v).journal = v := rfl
@[simp] theorem State.withJournal_feederA (v : Journal) : (s.withJournal v).feederA = s.feederA := rfl
@[simp] theorem State.withJournal_feederB (v : Journal) : (s.withJournal v).feederB = s.feederB := rfl
@[simp] theorem State.withJournal_reserve (v : Journal) : (s.withJournal v).reserve = s.reserve := rfl
@[simp] theorem State.withJournal_margin (v : Journal) : (s.withJournal v).margin = s.margin := rfl
@[simp] theorem State.withJournal_display (v : Journal) : (s.withJournal v).display = s.display := rfl
@[simp] theorem State.withJournal_host (v : Journal) : (s.withJournal v).host = s.host := rfl
@[simp] theorem State.withJournal_notices (v : Journal) : (s.withJournal v).notices = s.notices := rfl

/-! ## withFeederA -/

@[simp] theorem State.withFeederA_pending (v : Engine) : (s.withFeederA v).pending = s.pending := rfl
@[simp] theorem State.withFeederA_power (v : Engine) : (s.withFeederA v).power = s.power := rfl
@[simp] theorem State.withFeederA_charter (v : Engine) : (s.withFeederA v).charter = s.charter := rfl
@[simp] theorem State.withFeederA_service (v : Engine) : (s.withFeederA v).service = s.service := rfl
@[simp] theorem State.withFeederA_supply (v : Engine) : (s.withFeederA v).supply = s.supply := rfl
@[simp] theorem State.withFeederA_calendar (v : Engine) : (s.withFeederA v).calendar = s.calendar := rfl
@[simp] theorem State.withFeederA_tariff (v : Engine) : (s.withFeederA v).tariff = s.tariff := rfl
@[simp] theorem State.withFeederA_table (v : Engine) : (s.withFeederA v).table = s.table := rfl
@[simp] theorem State.withFeederA_fund (v : Engine) : (s.withFeederA v).fund = s.fund := rfl
@[simp] theorem State.withFeederA_injection (v : Engine) : (s.withFeederA v).injection = s.injection := rfl
@[simp] theorem State.withFeederA_store (v : Engine) : (s.withFeederA v).store = s.store := rfl
@[simp] theorem State.withFeederA_settlement (v : Engine) : (s.withFeederA v).settlement = s.settlement := rfl
@[simp] theorem State.withFeederA_journal (v : Engine) : (s.withFeederA v).journal = s.journal := rfl
@[simp] theorem State.withFeederA_feederA (v : Engine) : (s.withFeederA v).feederA = v := rfl
@[simp] theorem State.withFeederA_feederB (v : Engine) : (s.withFeederA v).feederB = s.feederB := rfl
@[simp] theorem State.withFeederA_reserve (v : Engine) : (s.withFeederA v).reserve = s.reserve := rfl
@[simp] theorem State.withFeederA_margin (v : Engine) : (s.withFeederA v).margin = s.margin := rfl
@[simp] theorem State.withFeederA_display (v : Engine) : (s.withFeederA v).display = s.display := rfl
@[simp] theorem State.withFeederA_host (v : Engine) : (s.withFeederA v).host = s.host := rfl
@[simp] theorem State.withFeederA_notices (v : Engine) : (s.withFeederA v).notices = s.notices := rfl

/-! ## withFeederB -/

@[simp] theorem State.withFeederB_pending (v : Engine) : (s.withFeederB v).pending = s.pending := rfl
@[simp] theorem State.withFeederB_power (v : Engine) : (s.withFeederB v).power = s.power := rfl
@[simp] theorem State.withFeederB_charter (v : Engine) : (s.withFeederB v).charter = s.charter := rfl
@[simp] theorem State.withFeederB_service (v : Engine) : (s.withFeederB v).service = s.service := rfl
@[simp] theorem State.withFeederB_supply (v : Engine) : (s.withFeederB v).supply = s.supply := rfl
@[simp] theorem State.withFeederB_calendar (v : Engine) : (s.withFeederB v).calendar = s.calendar := rfl
@[simp] theorem State.withFeederB_tariff (v : Engine) : (s.withFeederB v).tariff = s.tariff := rfl
@[simp] theorem State.withFeederB_table (v : Engine) : (s.withFeederB v).table = s.table := rfl
@[simp] theorem State.withFeederB_fund (v : Engine) : (s.withFeederB v).fund = s.fund := rfl
@[simp] theorem State.withFeederB_injection (v : Engine) : (s.withFeederB v).injection = s.injection := rfl
@[simp] theorem State.withFeederB_store (v : Engine) : (s.withFeederB v).store = s.store := rfl
@[simp] theorem State.withFeederB_settlement (v : Engine) : (s.withFeederB v).settlement = s.settlement := rfl
@[simp] theorem State.withFeederB_journal (v : Engine) : (s.withFeederB v).journal = s.journal := rfl
@[simp] theorem State.withFeederB_feederA (v : Engine) : (s.withFeederB v).feederA = s.feederA := rfl
@[simp] theorem State.withFeederB_feederB (v : Engine) : (s.withFeederB v).feederB = v := rfl
@[simp] theorem State.withFeederB_reserve (v : Engine) : (s.withFeederB v).reserve = s.reserve := rfl
@[simp] theorem State.withFeederB_margin (v : Engine) : (s.withFeederB v).margin = s.margin := rfl
@[simp] theorem State.withFeederB_display (v : Engine) : (s.withFeederB v).display = s.display := rfl
@[simp] theorem State.withFeederB_host (v : Engine) : (s.withFeederB v).host = s.host := rfl
@[simp] theorem State.withFeederB_notices (v : Engine) : (s.withFeederB v).notices = s.notices := rfl

/-! ## withReserve -/

@[simp] theorem State.withReserve_pending (v : Reserve) : (s.withReserve v).pending = s.pending := rfl
@[simp] theorem State.withReserve_power (v : Reserve) : (s.withReserve v).power = s.power := rfl
@[simp] theorem State.withReserve_charter (v : Reserve) : (s.withReserve v).charter = s.charter := rfl
@[simp] theorem State.withReserve_service (v : Reserve) : (s.withReserve v).service = s.service := rfl
@[simp] theorem State.withReserve_supply (v : Reserve) : (s.withReserve v).supply = s.supply := rfl
@[simp] theorem State.withReserve_calendar (v : Reserve) : (s.withReserve v).calendar = s.calendar := rfl
@[simp] theorem State.withReserve_tariff (v : Reserve) : (s.withReserve v).tariff = s.tariff := rfl
@[simp] theorem State.withReserve_table (v : Reserve) : (s.withReserve v).table = s.table := rfl
@[simp] theorem State.withReserve_fund (v : Reserve) : (s.withReserve v).fund = s.fund := rfl
@[simp] theorem State.withReserve_injection (v : Reserve) : (s.withReserve v).injection = s.injection := rfl
@[simp] theorem State.withReserve_store (v : Reserve) : (s.withReserve v).store = s.store := rfl
@[simp] theorem State.withReserve_settlement (v : Reserve) : (s.withReserve v).settlement = s.settlement := rfl
@[simp] theorem State.withReserve_journal (v : Reserve) : (s.withReserve v).journal = s.journal := rfl
@[simp] theorem State.withReserve_feederA (v : Reserve) : (s.withReserve v).feederA = s.feederA := rfl
@[simp] theorem State.withReserve_feederB (v : Reserve) : (s.withReserve v).feederB = s.feederB := rfl
@[simp] theorem State.withReserve_reserve (v : Reserve) : (s.withReserve v).reserve = v := rfl
@[simp] theorem State.withReserve_margin (v : Reserve) : (s.withReserve v).margin = s.margin := rfl
@[simp] theorem State.withReserve_display (v : Reserve) : (s.withReserve v).display = s.display := rfl
@[simp] theorem State.withReserve_host (v : Reserve) : (s.withReserve v).host = s.host := rfl
@[simp] theorem State.withReserve_notices (v : Reserve) : (s.withReserve v).notices = s.notices := rfl

/-! ## withMargin -/

@[simp] theorem State.withMargin_pending (v : Nat) : (s.withMargin v).pending = s.pending := rfl
@[simp] theorem State.withMargin_power (v : Nat) : (s.withMargin v).power = s.power := rfl
@[simp] theorem State.withMargin_charter (v : Nat) : (s.withMargin v).charter = s.charter := rfl
@[simp] theorem State.withMargin_service (v : Nat) : (s.withMargin v).service = s.service := rfl
@[simp] theorem State.withMargin_supply (v : Nat) : (s.withMargin v).supply = s.supply := rfl
@[simp] theorem State.withMargin_calendar (v : Nat) : (s.withMargin v).calendar = s.calendar := rfl
@[simp] theorem State.withMargin_tariff (v : Nat) : (s.withMargin v).tariff = s.tariff := rfl
@[simp] theorem State.withMargin_table (v : Nat) : (s.withMargin v).table = s.table := rfl
@[simp] theorem State.withMargin_fund (v : Nat) : (s.withMargin v).fund = s.fund := rfl
@[simp] theorem State.withMargin_injection (v : Nat) : (s.withMargin v).injection = s.injection := rfl
@[simp] theorem State.withMargin_store (v : Nat) : (s.withMargin v).store = s.store := rfl
@[simp] theorem State.withMargin_settlement (v : Nat) : (s.withMargin v).settlement = s.settlement := rfl
@[simp] theorem State.withMargin_journal (v : Nat) : (s.withMargin v).journal = s.journal := rfl
@[simp] theorem State.withMargin_feederA (v : Nat) : (s.withMargin v).feederA = s.feederA := rfl
@[simp] theorem State.withMargin_feederB (v : Nat) : (s.withMargin v).feederB = s.feederB := rfl
@[simp] theorem State.withMargin_reserve (v : Nat) : (s.withMargin v).reserve = s.reserve := rfl
@[simp] theorem State.withMargin_margin (v : Nat) : (s.withMargin v).margin = v := rfl
@[simp] theorem State.withMargin_display (v : Nat) : (s.withMargin v).display = s.display := rfl
@[simp] theorem State.withMargin_host (v : Nat) : (s.withMargin v).host = s.host := rfl
@[simp] theorem State.withMargin_notices (v : Nat) : (s.withMargin v).notices = s.notices := rfl

/-! ## withDisplay -/

@[simp] theorem State.withDisplay_pending (v : Display) : (s.withDisplay v).pending = s.pending := rfl
@[simp] theorem State.withDisplay_power (v : Display) : (s.withDisplay v).power = s.power := rfl
@[simp] theorem State.withDisplay_charter (v : Display) : (s.withDisplay v).charter = s.charter := rfl
@[simp] theorem State.withDisplay_service (v : Display) : (s.withDisplay v).service = s.service := rfl
@[simp] theorem State.withDisplay_supply (v : Display) : (s.withDisplay v).supply = s.supply := rfl
@[simp] theorem State.withDisplay_calendar (v : Display) : (s.withDisplay v).calendar = s.calendar := rfl
@[simp] theorem State.withDisplay_tariff (v : Display) : (s.withDisplay v).tariff = s.tariff := rfl
@[simp] theorem State.withDisplay_table (v : Display) : (s.withDisplay v).table = s.table := rfl
@[simp] theorem State.withDisplay_fund (v : Display) : (s.withDisplay v).fund = s.fund := rfl
@[simp] theorem State.withDisplay_injection (v : Display) : (s.withDisplay v).injection = s.injection := rfl
@[simp] theorem State.withDisplay_store (v : Display) : (s.withDisplay v).store = s.store := rfl
@[simp] theorem State.withDisplay_settlement (v : Display) : (s.withDisplay v).settlement = s.settlement := rfl
@[simp] theorem State.withDisplay_journal (v : Display) : (s.withDisplay v).journal = s.journal := rfl
@[simp] theorem State.withDisplay_feederA (v : Display) : (s.withDisplay v).feederA = s.feederA := rfl
@[simp] theorem State.withDisplay_feederB (v : Display) : (s.withDisplay v).feederB = s.feederB := rfl
@[simp] theorem State.withDisplay_reserve (v : Display) : (s.withDisplay v).reserve = s.reserve := rfl
@[simp] theorem State.withDisplay_margin (v : Display) : (s.withDisplay v).margin = s.margin := rfl
@[simp] theorem State.withDisplay_display (v : Display) : (s.withDisplay v).display = v := rfl
@[simp] theorem State.withDisplay_host (v : Display) : (s.withDisplay v).host = s.host := rfl
@[simp] theorem State.withDisplay_notices (v : Display) : (s.withDisplay v).notices = s.notices := rfl

/-! ## withHost -/

@[simp] theorem State.withHost_pending (v : HostLine) : (s.withHost v).pending = s.pending := rfl
@[simp] theorem State.withHost_power (v : HostLine) : (s.withHost v).power = s.power := rfl
@[simp] theorem State.withHost_charter (v : HostLine) : (s.withHost v).charter = s.charter := rfl
@[simp] theorem State.withHost_service (v : HostLine) : (s.withHost v).service = s.service := rfl
@[simp] theorem State.withHost_supply (v : HostLine) : (s.withHost v).supply = s.supply := rfl
@[simp] theorem State.withHost_calendar (v : HostLine) : (s.withHost v).calendar = s.calendar := rfl
@[simp] theorem State.withHost_tariff (v : HostLine) : (s.withHost v).tariff = s.tariff := rfl
@[simp] theorem State.withHost_table (v : HostLine) : (s.withHost v).table = s.table := rfl
@[simp] theorem State.withHost_fund (v : HostLine) : (s.withHost v).fund = s.fund := rfl
@[simp] theorem State.withHost_injection (v : HostLine) : (s.withHost v).injection = s.injection := rfl
@[simp] theorem State.withHost_store (v : HostLine) : (s.withHost v).store = s.store := rfl
@[simp] theorem State.withHost_settlement (v : HostLine) : (s.withHost v).settlement = s.settlement := rfl
@[simp] theorem State.withHost_journal (v : HostLine) : (s.withHost v).journal = s.journal := rfl
@[simp] theorem State.withHost_feederA (v : HostLine) : (s.withHost v).feederA = s.feederA := rfl
@[simp] theorem State.withHost_feederB (v : HostLine) : (s.withHost v).feederB = s.feederB := rfl
@[simp] theorem State.withHost_reserve (v : HostLine) : (s.withHost v).reserve = s.reserve := rfl
@[simp] theorem State.withHost_margin (v : HostLine) : (s.withHost v).margin = s.margin := rfl
@[simp] theorem State.withHost_display (v : HostLine) : (s.withHost v).display = s.display := rfl
@[simp] theorem State.withHost_host (v : HostLine) : (s.withHost v).host = v := rfl
@[simp] theorem State.withHost_notices (v : HostLine) : (s.withHost v).notices = s.notices := rfl

/-! ## withNotices -/

@[simp] theorem State.withNotices_pending (v : Notices) : (s.withNotices v).pending = s.pending := rfl
@[simp] theorem State.withNotices_power (v : Notices) : (s.withNotices v).power = s.power := rfl
@[simp] theorem State.withNotices_charter (v : Notices) : (s.withNotices v).charter = s.charter := rfl
@[simp] theorem State.withNotices_service (v : Notices) : (s.withNotices v).service = s.service := rfl
@[simp] theorem State.withNotices_supply (v : Notices) : (s.withNotices v).supply = s.supply := rfl
@[simp] theorem State.withNotices_calendar (v : Notices) : (s.withNotices v).calendar = s.calendar := rfl
@[simp] theorem State.withNotices_tariff (v : Notices) : (s.withNotices v).tariff = s.tariff := rfl
@[simp] theorem State.withNotices_table (v : Notices) : (s.withNotices v).table = s.table := rfl
@[simp] theorem State.withNotices_fund (v : Notices) : (s.withNotices v).fund = s.fund := rfl
@[simp] theorem State.withNotices_injection (v : Notices) : (s.withNotices v).injection = s.injection := rfl
@[simp] theorem State.withNotices_store (v : Notices) : (s.withNotices v).store = s.store := rfl
@[simp] theorem State.withNotices_settlement (v : Notices) : (s.withNotices v).settlement = s.settlement := rfl
@[simp] theorem State.withNotices_journal (v : Notices) : (s.withNotices v).journal = s.journal := rfl
@[simp] theorem State.withNotices_feederA (v : Notices) : (s.withNotices v).feederA = s.feederA := rfl
@[simp] theorem State.withNotices_feederB (v : Notices) : (s.withNotices v).feederB = s.feederB := rfl
@[simp] theorem State.withNotices_reserve (v : Notices) : (s.withNotices v).reserve = s.reserve := rfl
@[simp] theorem State.withNotices_margin (v : Notices) : (s.withNotices v).margin = s.margin := rfl
@[simp] theorem State.withNotices_display (v : Notices) : (s.withNotices v).display = s.display := rfl
@[simp] theorem State.withNotices_host (v : Notices) : (s.withNotices v).host = s.host := rfl
@[simp] theorem State.withNotices_notices (v : Notices) : (s.withNotices v).notices = v := rfl

/-! ## Engines -/

@[simp] theorem State.withEngine_engine (f : Feeder) (e : Engine) : (s.withEngine f e).engine f = e := by cases f <;> rfl

@[simp] theorem State.withEngine_self (f : Feeder) : s.withEngine f (s.engine f) = s := by cases f <;> rfl

theorem State.withEngine_engine_other {f g : Feeder} (h : f ≠ g) (e : Engine) : (s.withEngine f e).engine g = s.engine g := by
  cases f <;> cases g <;> first | rfl | exact absurd rfl h

@[simp] theorem State.withEngine_pending (f : Feeder) (e : Engine) : (s.withEngine f e).pending = s.pending := by cases f <;> rfl
@[simp] theorem State.withEngine_power (f : Feeder) (e : Engine) : (s.withEngine f e).power = s.power := by cases f <;> rfl
@[simp] theorem State.withEngine_charter (f : Feeder) (e : Engine) : (s.withEngine f e).charter = s.charter := by cases f <;> rfl
@[simp] theorem State.withEngine_service (f : Feeder) (e : Engine) : (s.withEngine f e).service = s.service := by cases f <;> rfl
@[simp] theorem State.withEngine_supply (f : Feeder) (e : Engine) : (s.withEngine f e).supply = s.supply := by cases f <;> rfl
@[simp] theorem State.withEngine_calendar (f : Feeder) (e : Engine) : (s.withEngine f e).calendar = s.calendar := by cases f <;> rfl
@[simp] theorem State.withEngine_tariff (f : Feeder) (e : Engine) : (s.withEngine f e).tariff = s.tariff := by cases f <;> rfl
@[simp] theorem State.withEngine_table (f : Feeder) (e : Engine) : (s.withEngine f e).table = s.table := by cases f <;> rfl
@[simp] theorem State.withEngine_fund (f : Feeder) (e : Engine) : (s.withEngine f e).fund = s.fund := by cases f <;> rfl
@[simp] theorem State.withEngine_injection (f : Feeder) (e : Engine) : (s.withEngine f e).injection = s.injection := by cases f <;> rfl
@[simp] theorem State.withEngine_store (f : Feeder) (e : Engine) : (s.withEngine f e).store = s.store := by cases f <;> rfl
@[simp] theorem State.withEngine_settlement (f : Feeder) (e : Engine) : (s.withEngine f e).settlement = s.settlement := by cases f <;> rfl
@[simp] theorem State.withEngine_journal (f : Feeder) (e : Engine) : (s.withEngine f e).journal = s.journal := by cases f <;> rfl
@[simp] theorem State.withEngine_reserve (f : Feeder) (e : Engine) : (s.withEngine f e).reserve = s.reserve := by cases f <;> rfl
@[simp] theorem State.withEngine_margin (f : Feeder) (e : Engine) : (s.withEngine f e).margin = s.margin := by cases f <;> rfl
@[simp] theorem State.withEngine_display (f : Feeder) (e : Engine) : (s.withEngine f e).display = s.display := by cases f <;> rfl
@[simp] theorem State.withEngine_host (f : Feeder) (e : Engine) : (s.withEngine f e).host = s.host := by cases f <;> rfl
@[simp] theorem State.withEngine_notices (f : Feeder) (e : Engine) : (s.withEngine f e).notices = s.notices := by cases f <;> rfl

/-! ## Households -/

@[simp] theorem State.withHousehold_same (i : Slot) (h : Household) : (s.withHousehold i h).household i = h := by
  simp [State.withHousehold, State.household, State.withTable]

theorem State.withHousehold_other {i j : Slot} (hij : i ≠ j) (h : Household) :
    (s.withHousehold i h).household j = s.household j := by
  simp only [State.withHousehold, State.household, State.withTable]
  exact Vector.getElem_set_ne _ _ (fun e => hij (Fin.ext e))

theorem State.withHousehold_household (i j : Slot) (h : Household) :
    (s.withHousehold i h).household j = if i = j then h else s.household j := by
  by_cases e : i = j
  · subst e; simp
  · simp [e, State.withHousehold_other]

@[simp] theorem State.withHousehold_pending (i : Slot) (h : Household) : (s.withHousehold i h).pending = s.pending := rfl
@[simp] theorem State.withHousehold_power (i : Slot) (h : Household) : (s.withHousehold i h).power = s.power := rfl
@[simp] theorem State.withHousehold_charter (i : Slot) (h : Household) : (s.withHousehold i h).charter = s.charter := rfl
@[simp] theorem State.withHousehold_service (i : Slot) (h : Household) : (s.withHousehold i h).service = s.service := rfl
@[simp] theorem State.withHousehold_supply (i : Slot) (h : Household) : (s.withHousehold i h).supply = s.supply := rfl
@[simp] theorem State.withHousehold_calendar (i : Slot) (h : Household) : (s.withHousehold i h).calendar = s.calendar := rfl
@[simp] theorem State.withHousehold_tariff (i : Slot) (h : Household) : (s.withHousehold i h).tariff = s.tariff := rfl
@[simp] theorem State.withHousehold_fund (i : Slot) (h : Household) : (s.withHousehold i h).fund = s.fund := rfl
@[simp] theorem State.withHousehold_injection (i : Slot) (h : Household) : (s.withHousehold i h).injection = s.injection := rfl
@[simp] theorem State.withHousehold_store (i : Slot) (h : Household) : (s.withHousehold i h).store = s.store := rfl
@[simp] theorem State.withHousehold_settlement (i : Slot) (h : Household) : (s.withHousehold i h).settlement = s.settlement := rfl
@[simp] theorem State.withHousehold_journal (i : Slot) (h : Household) : (s.withHousehold i h).journal = s.journal := rfl
@[simp] theorem State.withHousehold_feederA (i : Slot) (h : Household) : (s.withHousehold i h).feederA = s.feederA := rfl
@[simp] theorem State.withHousehold_feederB (i : Slot) (h : Household) : (s.withHousehold i h).feederB = s.feederB := rfl
@[simp] theorem State.withHousehold_reserve (i : Slot) (h : Household) : (s.withHousehold i h).reserve = s.reserve := rfl
@[simp] theorem State.withHousehold_margin (i : Slot) (h : Household) : (s.withHousehold i h).margin = s.margin := rfl
@[simp] theorem State.withHousehold_display (i : Slot) (h : Household) : (s.withHousehold i h).display = s.display := rfl
@[simp] theorem State.withHousehold_host (i : Slot) (h : Household) : (s.withHousehold i h).host = s.host := rfl
@[simp] theorem State.withHousehold_notices (i : Slot) (h : Household) : (s.withHousehold i h).notices = s.notices := rfl
@[simp] theorem State.household_withPending (v : List Instr) (i : Slot) : (s.withPending v).household i = s.household i := rfl
@[simp] theorem State.household_withPower (v : Power) (i : Slot) : (s.withPower v).household i = s.household i := rfl
@[simp] theorem State.household_withCharter (v : Charter) (i : Slot) : (s.withCharter v).household i = s.household i := rfl
@[simp] theorem State.household_withService (v : Service) (i : Slot) : (s.withService v).household i = s.household i := rfl
@[simp] theorem State.household_withSupply (v : Supply) (i : Slot) : (s.withSupply v).household i = s.household i := rfl
@[simp] theorem State.household_withCalendar (v : Calendar) (i : Slot) : (s.withCalendar v).household i = s.household i := rfl
@[simp] theorem State.household_withTariff (v : Tariff) (i : Slot) : (s.withTariff v).household i = s.household i := rfl
@[simp] theorem State.household_withFund (v : Int) (i : Slot) : (s.withFund v).household i = s.household i := rfl
@[simp] theorem State.household_withInjection (v : Int) (i : Slot) : (s.withInjection v).household i = s.household i := rfl
@[simp] theorem State.household_withStore (v : BookStore) (i : Slot) : (s.withStore v).household i = s.household i := rfl
@[simp] theorem State.household_withSettlement (v : Settlement) (i : Slot) : (s.withSettlement v).household i = s.household i := rfl
@[simp] theorem State.household_withJournal (v : Journal) (i : Slot) : (s.withJournal v).household i = s.household i := rfl
@[simp] theorem State.household_withFeederA (v : Engine) (i : Slot) : (s.withFeederA v).household i = s.household i := rfl
@[simp] theorem State.household_withFeederB (v : Engine) (i : Slot) : (s.withFeederB v).household i = s.household i := rfl
@[simp] theorem State.household_withReserve (v : Reserve) (i : Slot) : (s.withReserve v).household i = s.household i := rfl
@[simp] theorem State.household_withMargin (v : Nat) (i : Slot) : (s.withMargin v).household i = s.household i := rfl
@[simp] theorem State.household_withDisplay (v : Display) (i : Slot) : (s.withDisplay v).household i = s.household i := rfl
@[simp] theorem State.household_withHost (v : HostLine) (i : Slot) : (s.withHost v).household i = s.household i := rfl
@[simp] theorem State.household_withNotices (v : Notices) (i : Slot) : (s.withNotices v).household i = s.household i := rfl
@[simp] theorem State.household_withEngine (f : Feeder) (e : Engine) (i : Slot) :
    (s.withEngine f e).household i = s.household i := by cases f <;> rfl

end Sys2Proof.Machine
end

