-- ==== Sys2Proof/Laws/Ops.lean ====
section
/-! SUPPORT. What each shared operation can do: numbers read from a request, tables written out, the journal's appends, the
notices, the supply command queues, the held books and the evaluations. -/

namespace Sys2Proof

@[simp] theorem tabulate_getElem {α : Type} (n : Nat) (f : Fin n → α) (i : Nat) (h : i < n) :
    (tabulate n f)[i] = f ⟨i, h⟩ := by
  simp [tabulate]

theorem tabulate_at {α : Type} (n : Nat) (f : Fin n → α) (i : Fin n) : (tabulate n f)[i] = f i := by simp

end Sys2Proof

namespace Sys2Proof.Machine

/-! ## Numbers -/

theorem natIn_of_natural (lo hi n : Nat) : natIn lo hi (n : Int) = if lo ≤ n ∧ n ≤ hi then some n else none := by
  simp [natIn]

theorem natIn_isSome (lo hi : Nat) (n : Int) : (natIn lo hi n).isSome = true ↔ (lo : Int) ≤ n ∧ n ≤ hi := by
  unfold natIn; split <;> simp_all

theorem natIn_some {lo hi : Nat} {n : Int} {k : Nat} (h : natIn lo hi n = some k) : (k : Int) = n ∧ lo ≤ k ∧ k ≤ hi := by
  unfold natIn at h; split at h <;> simp_all; omega

theorem natIn_none {lo hi : Nat} {n : Int} (h : natIn lo hi n = none) : ¬((lo : Int) ≤ n ∧ n ≤ hi) := by
  unfold natIn at h; split at h <;> simp_all

@[simp] theorem slotOf_slotNumber (i : Slot) : slotOf (slotNumber i : Int) = some i := by
  have := i.isLt
  unfold slotOf slotNumber
  rw [dif_pos (by omega)]
  congr 1; ext; simp

theorem slotOf_some {n : Int} {i : Slot} (h : slotOf n = some i) : n = slotNumber i := by
  unfold slotOf at h
  split at h
  · cases h; simp [slotNumber]; omega
  · cases h

theorem slotOf_none {n : Int} : slotOf n = none ↔ ¬(1 ≤ n ∧ n ≤ 96) := by
  unfold slotOf; split <;> simp_all

theorem slotNumber_injective {i j : Slot} (h : slotNumber i = slotNumber j) : i = j := by
  simp only [slotNumber] at h; ext; omega

@[simp] theorem mem_allSlots (i : Slot) : i ∈ allSlots := List.mem_finRange i

theorem bump_le (c n : Nat) : bump c n ≤ c := Nat.min_le_right _ _

/-! ## Running -/

@[simp] theorem whileRunning_of_running {f : State → State} {s : State} (h : s.power.phase = .running) :
    whileRunning f s = f s := by
  simp [whileRunning, State.running, h]

theorem whileRunning_otherwise {f : State → State} {s : State} (h : s.power.phase ≠ .running) : whileRunning f s = s := by
  simp [whileRunning, State.running, h]

theorem whileRunning_cases (f : State → State) (s : State) :
    (s.power.phase = .running ∧ whileRunning f s = f s) ∨ (s.power.phase ≠ .running ∧ whileRunning f s = s) := by
  by_cases h : s.power.phase = .running
  · exact .inl ⟨h, whileRunning_of_running h⟩
  · exact .inr ⟨h, whileRunning_otherwise h⟩

/-! ## The journal -/

/-- What an append does: the next number's record at the young end, and the number after it; nothing when EXHAUSTED. -/
theorem Journal.append_cases (j : Journal) (body : RecordBody) :
    (∃ q, j.nextSeq = some q ∧
        j.append body = { records := j.records ++ [{ seq := q, body := body }], nextSeq := nextSequence q }) ∨
      (j.nextSeq = none ∧ j.append body = j) := by
  unfold Journal.append
  cases h : j.nextSeq with
  | some q => exact .inl ⟨q, rfl, rfl⟩
  | none => exact .inr ⟨rfl, rfl⟩

theorem Journal.hasRoom_iff (j : Journal) (records lines : Nat) :
    j.hasRoom records lines = true ↔
      j.records.length + records ≤ 64 ∧ j.lineCount + lines ≤ 3072 ∧ j.numbersFor records = true := by
  unfold Journal.hasRoom
  rw [Bool.and_eq_true, Bool.and_eq_true, decide_eq_true_iff, decide_eq_true_iff]
  exact and_assoc

theorem State.record_eq (s : State) (body : RecordBody) : s.record body = s.withJournal (s.journal.append body) := rfl

theorem State.retry_eq (s : State) : s.retry = s.withSettlement { s.settlement with deferral := .none } := rfl

/-! ## Notices -/

theorem Notice.index_injective {m n : Notice} (h : m.index = n.index) : m = n := by
  cases m <;> cases n <;> first | rfl | exact absurd h (by decide)

theorem mem_noticeOrder (n : Notice) : n ∈ noticeOrder := by cases n <;> decide

theorem noticeOrder_at (n : Notice) : noticeOrder[n.index.val]? = some n := by cases n <;> rfl

@[simp] theorem Notices.setCell_same (ns : Notices) (n : Notice) (c : NoticeCell) : (ns.setCell n c).cell n = c := by
  simp [Notices.setCell, Notices.cell]

theorem Notices.setCell_other {m n : Notice} (h : m ≠ n) (ns : Notices) (c : NoticeCell) :
    (ns.setCell m c).cell n = ns.cell n := by
  simp only [Notices.setCell, Notices.cell]
  exact Vector.getElem_set_ne _ _ (fun e => h (Notice.index_injective (Fin.ext e)))

/-- ATTN's operation changes ATTN alone. -/
theorem State.driveAttn_eq (s : State) :
    s.driveAttn = { s with notices := { s.notices with attn := s.running && s.notices.wantsAttention } } := rfl

@[simp] theorem State.driveAttn_cell (s : State) (n : Notice) : s.driveAttn.notices.cell n = s.notices.cell n := rfl

/-- Setting a notice changes the notices alone. -/
theorem State.notify_eq (s : State) (n : Notice) : s.notify n = { s with notices := (s.notify n).notices } := rfl

/-- What setting a notice does to a notice: the flag and the count of the one set, nothing to the others. -/
theorem State.notify_cell (s : State) (m n : Notice) :
    (s.notify m).notices.cell n =
      if m = n then { s.notices.cell n with flag := true, count := ((s.notices.cell n).count + 1) % 256 }
      else s.notices.cell n := by
  by_cases h : m = n
  · subst h; simp [State.notify]
  · simp [State.notify, h, Notices.setCell_other]

@[simp] theorem State.notify_pending (s : State) (n : Notice) : (s.notify n).pending = s.pending := rfl
@[simp] theorem State.notify_power (s : State) (n : Notice) : (s.notify n).power = s.power := rfl
@[simp] theorem State.notify_charter (s : State) (n : Notice) : (s.notify n).charter = s.charter := rfl
@[simp] theorem State.notify_service (s : State) (n : Notice) : (s.notify n).service = s.service := rfl
@[simp] theorem State.notify_supply (s : State) (n : Notice) : (s.notify n).supply = s.supply := rfl
@[simp] theorem State.notify_calendar (s : State) (n : Notice) : (s.notify n).calendar = s.calendar := rfl
@[simp] theorem State.notify_tariff (s : State) (n : Notice) : (s.notify n).tariff = s.tariff := rfl
@[simp] theorem State.notify_table (s : State) (n : Notice) : (s.notify n).table = s.table := rfl
@[simp] theorem State.notify_household (s : State) (n : Notice) (i : Slot) : (s.notify n).household i = s.household i := rfl
@[simp] theorem State.notify_fund (s : State) (n : Notice) : (s.notify n).fund = s.fund := rfl
@[simp] theorem State.notify_injection (s : State) (n : Notice) : (s.notify n).injection = s.injection := rfl
@[simp] theorem State.notify_store (s : State) (n : Notice) : (s.notify n).store = s.store := rfl
@[simp] theorem State.notify_settlement (s : State) (n : Notice) : (s.notify n).settlement = s.settlement := rfl
@[simp] theorem State.notify_journal (s : State) (n : Notice) : (s.notify n).journal = s.journal := rfl
@[simp] theorem State.notify_feederA (s : State) (n : Notice) : (s.notify n).feederA = s.feederA := rfl
@[simp] theorem State.notify_feederB (s : State) (n : Notice) : (s.notify n).feederB = s.feederB := rfl
@[simp] theorem State.notify_engine (s : State) (n : Notice) (f : Feeder) : (s.notify n).engine f = s.engine f := by
  cases f <;> rfl
@[simp] theorem State.notify_reserve (s : State) (n : Notice) : (s.notify n).reserve = s.reserve := rfl
@[simp] theorem State.notify_margin (s : State) (n : Notice) : (s.notify n).margin = s.margin := rfl
@[simp] theorem State.notify_display (s : State) (n : Notice) : (s.notify n).display = s.display := rfl
@[simp] theorem State.notify_host (s : State) (n : Notice) : (s.notify n).host = s.host := rfl

/-- Setting a notice a number of times changes the notices alone. -/
theorem State.notifyTimes_eq (s : State) (n : Notice) (k : Nat) :
    s.notifyTimes n k = { s with notices := (s.notifyTimes n k).notices } := by
  induction k generalizing s with
  | zero => rfl
  | succ k ih => exact (ih (s.notify n)).trans rfl

/-! ## Queues -/

/-- What an offer does: replaced in place, joined at the tail, or QUEUE_OVERFLOW. -/
theorem State.offer_cases (s : State) (f : Feeder) (i : Slot) (r : Relay) :
    (inQueue (s.engine f).queue i = true ∧
        s.offer f i r =
          s.withEngine f
            { s.engine f with queue := (s.engine f).queue.map fun e => if e.slot = i then { e with command := r } else e }) ∨
      (inQueue (s.engine f).queue i = false ∧ (s.engine f).queue.length < 16 ∧
        s.offer f i r =
          s.withEngine f { s.engine f with queue := (s.engine f).queue ++ [{ slot := i, command := r }] }) ∨
      (inQueue (s.engine f).queue i = false ∧ 16 ≤ (s.engine f).queue.length ∧ s.offer f i r = s.notify .queueOverflow) := by
  unfold State.offer offerTo
  by_cases h : inQueue (s.engine f).queue i = true
  · exact .inl ⟨h, by simp [h]⟩
  · by_cases k : (s.engine f).queue.length < Config.maxQueue
    · exact .inr (.inl ⟨by simpa using h, k, by simp [h, k]⟩)
    · exact .inr (.inr ⟨by simpa using h, Nat.le_of_not_lt k, by simp [h, k]⟩)

/-- What an evaluation does: nothing, or the decision written and the household offered. -/
theorem State.evaluate_cases (s : State) (i : Slot) :
    s.evaluate i = s ∨
      ∃ c, (s.household i).settings = some c ∧ (s.household i).member.evaluated = true ∧
        s.decision c (s.household i) ≠ (s.household i).wanted ∧
        s.evaluate i = s.want i c (s.decision c (s.household i)) := by
  unfold State.evaluate
  cases h : (s.household i).settings with
  | none => exact .inl (by simp [h])
  | some c =>
    by_cases m : (s.household i).member.evaluated = true
    · by_cases d : s.decision c (s.household i) = (s.household i).wanted
      · exact .inl (by simp [h, d])
      · exact .inr ⟨c, rfl, m, d, by simp [h, m, d]⟩
    · exact .inl (by simp [h, m])

/-! ## Books -/

/-- Changing the books of a boundary changes the held books alone. -/
theorem State.mapBook_eq (s : State) (boundary : Nat) (f : Book → Book) :
    s.mapBook boundary f =
      { s with store := { s.store with
          books := s.store.books.map fun b => if b.boundary = boundary then f b else b } } := rfl

/-- The book of a boundary after a change that keeps boundaries. -/
theorem State.mapBook_bookOf (s : State) (boundary n : Nat) (f : Book → Book) (keep : ∀ b, (f b).boundary = b.boundary) :
    (s.mapBook boundary f).bookOf n = (s.bookOf n).map fun b => if b.boundary = boundary then f b else b := by
  simp only [State.mapBook, State.bookOf, State.withStore, List.find?_map]
  have same : ((fun b : Book => decide (b.boundary = n)) ∘ fun b => if b.boundary = boundary then f b else b) =
      fun b : Book => decide (b.boundary = n) := by
    funext b; simp only [Function.comp]; split <;> simp [keep]
  rw [same]

/-- The test for COMPLETE changes the held books alone. -/
theorem State.testComplete_eq (s : State) (boundary : Nat) :
    s.testComplete boundary = { s with store := { s.store with books := (s.testComplete boundary).store.books } } := rfl

theorem Book.closeMissing_entry (b : Book) (c : Cause) (i : Slot) : (b.closeMissing c).entries[i] = b.entries[i].miss := by
  simp [Book.closeMissing]

end Sys2Proof.Machine
end

