-- ==== Sys2Proof/Laws/Requests.lean ====
section
/-! SUPPORT. What a request command can do, and the checks that the blocks share, said once. -/

namespace Sys2Proof.Machine

/-- A request command is its block's service put into the host line. -/
theorem exec_instrOf (r : Req) (args : List Tok) (s : State) :
    exec (instrOf r args) s = .next (s.requestCommand r args (serveRequest r args s)) := by
  cases r <;> rfl

/-- A request whose line is the one to serve is served (R182, log 4). -/
theorem requestCommand_serves {s : State} {r : Req} {args : List Tok} (h : s.serves r args) (served : Served) :
    s.requestCommand r args served = s.finish (.request r args) served := by
  obtain ⟨running, free | taken, granted⟩ := h
  · simp [State.requestCommand, running, free, granted]
  · simp [State.requestCommand, running, taken, granted]

/-- The one lemma of a served request. -/
theorem exec_serves {s : State} {r : Req} {args : List Tok} (h : s.serves r args) :
    exec (instrOf r args) s = .next (s.finish (.request r args) (serveRequest r args s)) := by
  rw [exec_instrOf, requestCommand_serves h]

@[simp] theorem State.finish_refused (s : State) (r : Req) (args : List Tok) (reply : Reply) :
    s.finish (.request r args) (.refused reply) = s.answering r args reply := rfl

@[simp] theorem State.finish_refuse (s : State) (r : Req) (args : List Tok) (k : Kw) :
    s.finish (.request r args) (refuse k) = s.answering r args [[.kw .NO, .kw k]] := rfl

@[simp] theorem State.finish_done (s t : State) (r : Req) (args : List Tok) (reply : Reply) :
    s.finish (.request r args) (.done t reply) = t.answering r args reply := rfl

@[simp] theorem State.finish_programming (s t : State) (r : Req) (args : List Tok) :
    s.finish (.request r args) (.programming t) = t.awaiting r args := rfl

/-! ## Shared checks -/

theorem State.ifCommissioned_of {s : State} (h : s.service ≠ .uncommissioned) (k : Served) : s.ifCommissioned k = k := by
  simp [State.ifCommissioned, h]

theorem State.ifCommissioned_refuses {s : State} (h : s.service = .uncommissioned) (k : Served) :
    s.ifCommissioned k = refuse .STATE := by
  simp [State.ifCommissioned, h]

theorem State.ifWritable_of {s : State} (h : s.service ≠ .uncommissioned) (w : s.supply.warning = false) (k : Served) :
    s.ifWritable k = k := by
  simp [State.ifWritable, State.ifCommissioned, h, w]

theorem State.ifWritable_held {s : State} (h : s.service ≠ .uncommissioned) (w : s.supply.warning = true) (k : Served) :
    s.ifWritable k = refuse .HELD := by
  simp [State.ifWritable, State.ifCommissioned, h, w]

theorem State.onSlot_of {s : State} (h : s.service ≠ .uncommissioned) (w : s.supply.warning = false) (i : Slot)
    (k : Slot → Served) : s.onSlot (slotNumber i) k = k i := by
  simp [State.onSlot, State.ifWritable_of h w]

theorem State.onSlot_refuses {s : State} (h : s.service ≠ .uncommissioned) (w : s.supply.warning = false) {n : Int}
    (out : slotOf n = none) (k : Slot → Served) : s.onSlot n k = refuse .RANGE := by
  simp [State.onSlot, State.ifWritable_of h w, out]

end Sys2Proof.Machine
end

