-- ==== Sys2Proof/Laws/Startup.lean ====
section
/-! SUPPORT. The events of the end of a start-up: which are taken, each once, and what each of them is. -/

namespace Sys2Proof.Machine

theorem nodup_eraseDups (order : List StartEvent) : order.eraseDups.Nodup := by
  induction h : order.length using Nat.strongRecOn generalizing order with
  | _ n ih =>
    cases order with
    | nil => simp
    | cons e rest =>
      have shorter : (rest.filter fun b => !b == e).length < n := by
        have := List.length_filter_le (fun b => !b == e) rest
        simp only [List.length_cons] at h; omega
      rw [List.eraseDups_cons, List.nodup_cons]
      exact ⟨by simp [List.mem_eraseDups], ih _ shorter _ rfl⟩

/-- Every event given and every due event is taken, and no other (R206). -/
@[simp] theorem mem_startSequence (order : List StartEvent) (e : StartEvent) :
    e ∈ startSequence order ↔ e ∈ order ∨ e ∈ startEventsDue := by
  by_cases h : e ∈ order <;> simp [startSequence, List.mem_eraseDups, h]

/-- No event is taken twice (R206). -/
theorem nodup_startSequence (order : List StartEvent) : (startSequence order).Nodup := by
  have due : startEventsDue.Nodup := by decide
  rw [startSequence, List.nodup_append]
  refine ⟨nodup_eraseDups order, due.sublist List.filter_sublist, ?_⟩
  intro a ha b hb hab
  subst hab
  simp [List.mem_eraseDups] at ha hb
  exact hb.2 ha

/-! ## Each event -/

@[simp] theorem State.takeStartEvent_settling (s : State) (examined : Bool) :
    s.takeStartEvent examined .settling = s.startSettling :=
  s.atGrant_startSettling

theorem State.takeHeldLine_held {s : State} {line : Line} (h : s.host.inService = some { line := line, stage := .held }) :
    s.takeHeldLine = s.takeLine line := by
  simp [State.takeHeldLine, h]

theorem State.takeHeldLine_none {s : State} (h : s.host.inService = none) : s.takeHeldLine = s := by
  simp [State.takeHeldLine, h]

/-- Once the engine has examined, a requester waits as at any other time (R185). -/
@[simp] theorem State.waitsNow_true (s : State) (r : Requester) : s.waitsNow true r = s.waits false r := by
  simp [State.waitsNow]

/-- Until it has examined, the engine waits for nothing (R68, R206). -/
@[simp] theorem State.waitsNow_engine (s : State) : s.waitsNow false .engine = false := by
  simp [State.waitsNow]

/-- Once the engine has examined, the first line's request is served as by its own command (R182, R185). -/
theorem State.serveTaken_request {s : State} {r : Req} {args : List Tok} (run : s.power.phase = .running)
    (h : s.host.inService = some { line := .request r args, stage := .taken }) :
    s.serveTaken true = s.requestCommand r args (serveRequest r args s) := by
  cases a : reachesArray r args <;> cases b : s.waits false .engine <;> cases c : s.waits false .intake <;>
    simp [State.serveTaken, State.requestCommand, State.mayServe, h, run, a, b, c]

/-- Before that it is served whatever book is DUE, when no delivery waits. -/
theorem State.serveTaken_ahead {s : State} {r : Req} {args : List Tok} (none : s.store.deliveries = [])
    (h : s.host.inService = some { line := .request r args, stage := .taken }) :
    s.serveTaken false = s.finish (.request r args) (serveRequest r args s) := by
  simp [State.serveTaken, State.waitsNow, State.waits, h, none]

/-- Once the engine has examined, the latch is the grant of PAGE_LATCH (R171, R185). -/
theorem State.takeStartEvent_latch (s : State) :
    s.takeStartEvent true .latch = s.atGrant .display false State.latchPage := by
  cases a : s.waits false .engine <;> cases b : s.waits false .intake <;> cases c : s.waits false .hostLine <;>
    cases d : s.waits false .display <;> simp [State.takeStartEvent, State.atGrant, State.arbiterNext, a, b, c, d]
  cases f : s.display.fetch with
  | none => simp [State.latchPage, f]
  | some _ => simp [State.waits, f] at d

end Sys2Proof.Machine
end

