-- ==== Sys2Proof/Tests/Slice0.lean ====
section
/-! SUPPORT. Tests of the model on fixed values, their expected results from the manual's own examples and tables or worked
out by hand from its rules; the smoke test of WellFormed; and for every statement a witness of its hypotheses. -/

open Sys2Proof Sys2Proof.Machine

namespace Sys2Proof.Tests

-- One proof at a time: in parallel, the pending kernel evaluations hold a thread and its stack each.
set_option Elab.async false

/-! ## WellFormed -/

def rx (text : List Char) : List RxChar := text.map fun c => { code := BitVec.ofNat 8 c.toNat, stopHigh := true }

theorem test_wf_request : (Instr.topup [.num 12, .num (-5)]).wellFormed = true := by decide
theorem test_wf_refuses_a_word_with_a_space : (Instr.ident [.other ['X', ' ']]).wellFormed = false := by decide
theorem test_wf_refuses_a_number_as_another_word : (Instr.ident [.other ['4', '2']]).wellFormed = false := by decide
theorem test_wf_refuses_an_empty_word : (Instr.ident [.other []]).wellFormed = false := by decide
theorem test_wf_refuses_an_event_named_twice : (Instr.startupEnd [.catchUp, .catchUp]).wellFormed = false := by decide
theorem test_wf_refuses_a_long_line : (Instr.ident [.other (List.replicate 155 'X')]).wellFormed = false := by decide +kernel
theorem test_wf_refuses_a_terminator :
    (Instr.hostLineComplete [{ code := 73, stopHigh := true }, { code := 13, stopHigh := true }]).wellFormed = false := by
  decide
theorem test_wf_refuses_a_feeder_frame_of_wrong_length :
    (Instr.feederFrameReceived ⟨.A, false⟩ [7, 35, 0, 0, 0]).wellFormed = false := by decide
theorem test_wf_refuses_an_unknown_kind : (Instr.feederFrameReceived ⟨.A, false⟩ [7, 99, 0, 0, 0]).wellFormed = false := by
  decide
theorem test_wf_refuses_a_plant_frame_of_wrong_length :
    (Instr.plantFrameReceived (97 :: List.replicate 10 0)).wellFormed = false := by decide
theorem test_wf_refuses_a_wrong_frame_code :
    (Instr.plantFrameReceived (98 :: List.replicate 11 0)).wellFormed = false := by decide

/-! ## The manual's examples -/

/-- The NOTE of R113. -/
theorem test_crc_of_the_nine_digits : crc [49, 50, 51, 52, 53, 54, 55, 56, 57] = 10673 := by decide +kernel

/-- Section 1.8. -/
theorem test_boundary_883236 :
    boundaryInstant 15 883236 = ⟨2025, 3, 10, 9, 0, 0⟩ ∧ (boundaryInstant 15 883236).weekday = .MON ∧
      boundaryAt 15 ⟨2025, 3, 10, 9, 52, 10⟩ = 883239 ∧ boundaryAt 15 ⟨2025, 3, 10, 9, 31, 5⟩ = 883238 := by decide +kernel

theorem test_align_rounds_both_ways :
    (⟨2025, 3, 10, 10, 14, 40⟩ : DateTime).align = some ⟨2025, 3, 10, 10, 15, 0⟩ ∧
      (⟨2025, 3, 10, 10, 15, 20⟩ : DateTime).align = some ⟨2025, 3, 10, 10, 15, 0⟩ := by decide

/-- R1: February of a leap year, and of a common one. -/
theorem test_tick_carries_over_february :
    (⟨2024, 2, 28, 23, 59, 59⟩ : DateTime).tick = some ⟨2024, 2, 29, 0, 0, 0⟩ ∧
      (⟨2025, 2, 28, 23, 59, 59⟩ : DateTime).tick = some ⟨2025, 3, 1, 0, 0, 0⟩ := by decide

/-- The schedule of section 1.11. -/
def schedule : Tariff :=
  let week : List Weekday := [.MON, .TUE, .WED, .THU, .FRI]
  let b0 : Band := ⟨true, weekdayOrder, 0, 0⟩
  { bands := ((((Tariff.default.bands.set 0 b0).set 1 ⟨true, week, 360, 1⟩).set 2 ⟨true, week, 1080, 2⟩).set 3
      ⟨true, [.SAT, .SUN], 600, 3⟩).set 4 ⟨true, week, 360, 3⟩
    sets := Tariff.default.sets }

theorem test_worked_resolution :
    [883236, 883272, 883273, 883296, 883297, 883721].map (fun b => schedule.resolve (boundaryInstant 15 (b - 1))) =
      [1, 1, 2, 2, 0, 3] := by decide

/-- A vector of amounts that lists some slots. -/
def amounts (xs : List (Nat × Nat)) : Vector Nat 96 := tabulate 96 fun i => (xs.lookup (i.val + 1)).getD 0

/-- Section 4.7: sellers long. -/
theorem test_worked_case_sellers_long :
    ([1, 3, 5].map fun i => longShare 2001 2500 (amounts [(2, 1700), (4, 700), (6, 100)]) i) = [1361, 560, 80] := by decide

/-- Section 4.8: buyers long, equal remainders. -/
theorem test_worked_case_buyers_long :
    ([0, 2, 3].map fun i => longShare 1000 3000 (amounts [(1, 1100), (3, 1100), (4, 800)]) i) = [367, 367, 266] := by decide

/-- Section 4.8, slots 1, 3 and 5: forward, capped, ahead. -/
theorem test_worked_judgements :
    judge 4000 50 10000 11100 = .forward 1100 11100 ∧ judge 1100 50 40000 43250 = .capped 1100 41100 ∧
      judge 4000 50 80012 80000 = .ahead ∧ judge 4000 11 80012 80000 = .regression := by decide

/-- Section 4.7, slots 1 and 2: money. -/
theorem test_worked_money :
    let p : PriceSet := ⟨180, 90, 70, 260, 340, 20⟩
    let d : Nat → Nat → Option Derived := fun i e => some ⟨i, e, [], none, .zero⟩
    ((slotResult p ReserveFlags.empty 0 (d 1201 0) 1201).debit, (slotResult p ReserveFlags.empty 1 (d 300 2000) 1361).levy,
        (slotResult p ReserveFlags.empty 1 (d 300 2000) 1361).credit) = (216180, 4899, 270591) := by decide

/-- Section 9.6, slot 2 and slot 40. -/
theorem test_household_page_digits :
    householdGlyphs 1 (hundredths 1270591) =
        #v[.digit 0, .digit 2, .blank, .blank, .blank, .digit 1, .digit 2, .digit 7] ∧
      householdGlyphs 39 (hundredths 1250000000) =
        #v[.digit 4, .digit 0, .blank, .digit 9, .digit 9, .digit 9, .digit 9, .digit 9] := by decide

/-- R180, R183: a line in small letters with an extra space; a line of spaces; an unknown name. -/
theorem test_lines_received :
    receiveLine (rx ['j', 'r', 'e', 'l', 'e', 'a', 's', 'e', ' ', ' ', '2', '5', '0']) =
        some (.request .JRELEASE [.num 250]) ∧
      receiveLine (rx [' ', ' ']) = none ∧ receiveLine (rx ['H', 'E', 'L', 'L', 'O']) = some .unknown := by decide

/-! ## States of the tests -/

/-- The state in which a command leaves the part. -/
def after (c : Instr) (s : State) : State :=
  match exec c s with
  | .next t => t
  | _ => s

/-- A charter of 96 households, 15 minutes, grace 1, cap ceiling 65535, levy ceiling 200, floor minimum 100, tolerance 50. -/
def words : Vector Word16 32 :=
  (((((((Vector.replicate 32 65535).set 0 4711).set 1 96).set 2 15).set 3 1).set 5 200).set 6 100).set 7 50

def chartered : State := { State.reset with charter := { words := words, program := none } }

/-- The part in SERVICE. -/
def serving : State :=
  { State.reset with charter := { words := words.set 31 0, program := none }, service := .service }

def warned (s : State) : State := { s with supply := { warning := true, lowRun := 4, goodRun := 0, pfail := false } }
def unready (s : State) : State := { s with service := .uncommissioned }
def journalOut (s : State) : State := { s with journal := { records := [], nextSeq := none } }

/-- A line in service that is not a request's. -/
def busy (s : State) : State :=
  { s with host := { s.host with inService := some { line := .bad, stage := .replying [[.kw .NO, .kw .SYNTAX]] } } }

def terms : Settings := { feeder := .A, addr := 7, cap := 1000, floor := -5000000, policy := .auto, shown := true }

def member (m : MemberState) (balance : Int) : Household :=
  { member := m, settings := some terms, bases := some { imp := 0, exp := 0 }, balance := balance, misses := 0
    wanted := .closed, confirmed := none }

/-- A household in slot 1. -/
def town (s : State) (h : Household) : State := s.withHousehold 0 h

def prices : PriceSet := ⟨180, 90, 70, 260, 340, 20⟩

/-- A book with one entry, of slot 1. -/
def book (b : Nat) (st : BookState) (e : Entry) : Book :=
  { boundary := b, span := 1, state := st, setIx := 0, prices := prices, flags := ReserveFlags.empty, marked := true
    markA := true, markB := true, entries := (Vector.replicate 96 .excluded).set 0 e }

def snap : Snapshot := { imp := 100, exp := 40, status := .ok, relay := .closed }

/-- The part in SERVICE with an ACTIVE household, with these books and b_last. -/
def ledger (last : Nat) (bs : List Book) : State :=
  let s := town serving (member .active 10)
  { s with calendar := { s.calendar with bLast := last, valid := true }, store := { s.store with books := bs } }

theorem serves_of {s : State} {r : Req} {args : List Tok} (h : s.power.phase = .running) (k : s.host.inService = none)
    (g : s.mayServe r args = true := by decide) : s.serves r args := ⟨h, .inl k, g⟩

/-- The three premises that most requests share. -/
def ready (s : State) (r : Req) (args : List Tok) : Prop :=
  s.serves r args ∧ s.service ≠ .uncommissioned ∧ s.supply.warning = false

theorem ready_of {s : State} {r : Req} {args : List Tok} (h : s.power.phase = .running) (k : s.host.inService = none)
    (c : s.service ≠ .uncommissioned) (w : s.supply.warning = false) (g : s.mayServe r args = true := by decide) :
    ready s r args := ⟨serves_of h k g, c, w⟩

/-! ## Commands of the tests -/

/-- R206, log 3: the machine right after reset is the factory's part after its first start-up and page latch. -/
theorem test_first_start_reaches_reset :
    let s := after .pageLatch (after (.startupEnd []) (after (.powerOn false .commission .high)
      { State.reset with power := { phase := .off, resetDue := none } }))
    s.power = State.reset.power ∧ s.service = State.reset.service ∧ s.host = State.reset.host ∧
      s.notices = State.reset.notices ∧ s.display = State.reset.display ∧ s.calendar = State.reset.calendar ∧
      s.supply = State.reset.supply := by decide +kernel

/-- R24: the household just enrolled, and its MEMBER record. -/
theorem test_hhenrol :
    let s := after (.hhenrol [.num 96, .kw .B, .num 247, .num 65535, .num (-100000000), .kw .MANUAL, .kw .NO]) chartered
    (s.household 95).settings = some ⟨.B, 247, 65535, -100000000, .manual, false⟩ ∧ s.journal.nextSeq = some 2 ∧
      s.reply = some [[.kw .OK, .kw .ENROLLED, .num 1]] := by decide

/-- R38: a top-up that brings a LEAVING household to 0 vacates it. -/
theorem test_topup_vacates :
    let s := after (.topup [.num 1, .num 30]) (town chartered (member .leaving (-30)))
    (s.household 0).member = .vacant ∧ s.injection = 30 ∧ s.reply = some [[.kw .OK, .num 0, .num 1, .kw .VACANT]] := by
  decide

/-- R49: with six books held the boundary event opens none. -/
theorem test_seventh_book_is_not_opened :
    let s := (ledger 6 ((List.range 6).map fun k => book (k + 1) (.due .complete) .missing)).boundaryEvent 15 7
    s.store.books.length = 6 ∧ s.store.carried = 1 ∧ (s.notices.cell .span).flag = true := by decide

/-- R182: of three lines that come at once one is served, one waits, one is discarded. -/
theorem test_lines_in_a_burst :
    let c := Instr.hostLineComplete (rx ['I', 'D', 'E', 'N', 'T'])
    let s := after c (after c (after c State.reset))
    s.host.waiting = some (.request .IDENT []) ∧ s.host.discarded = 1 := by decide

/-- R196: a program of word 2 with the calendar INVALID sets b_last to 0, and is answered. -/
theorem test_chrprog_word_2 :
    let s := after .charterProgramCompletion (after (.chrprog [.num 2, .num 15])
      { State.reset with calendar := { State.reset.calendar with bLast := 9 } })
    s.charterWord 2 = 15 ∧ s.calendar.bLast = 0 ∧ s.reply = some [[.kw .OK, .num 2, .num 15]] := by decide

/-! ## Witnesses: a state and operands that meet the hypotheses of each statement, clause by clause -/

theorem witness_StepRunsTheFrontCommand : State.reset.pending = [] := rfl

theorem witness_CommandsAnswerNextWhateverTheState :
    (let s := busy State.reset;
      s.power.phase = .running ∧ s.host.inService ≠ none ∧
        s.host.inService ≠ some { line := .request .IDENT [], stage := .taken } ∧ s.host.waiting = none) ∧
    (let s := after (.ident []) (busy State.reset);
      s.power.phase = .running ∧ s.host.inService ≠ none ∧
        s.host.inService ≠ some { line := .request .IDENT [], stage := .taken } ∧ s.host.waiting ≠ none) ∧
    (after .powerLoss State.reset).power.phase = .off ∧ (after .resetPinAssert State.reset).power.phase = .resetHeld ∧
    (after .powerLoss (after .resetPinAssert State.reset)).power.phase = .offHeld ∧
    (Instr.markSent .A).request = none := by decide

theorem witness_RefusedAndReportingRequestsChangeNothing :
    State.reset.serves .CLKALIGN [] ∧
      (∃ t : State, exec (instrOf .CLKALIGN []) State.reset = .next t ∧ t.reply = some ((.kw .NO :: [.kw .STATE]) :: [])) ∧
      .CLKREAD ∈ readingRequests ∧ State.reset.serves .CLKREAD [] :=
  ⟨serves_of rfl rfl, ⟨after (.clkalign []) State.reset, rfl, by decide⟩, by decide, serves_of rfl rfl⟩

theorem witness_RequestsAreRefusedInWarningAndUncommissioned :
    ((warned State.reset).serves .CLKSET [] ∧ wellWorded .CLKSET [] = false) ∧
      ((warned State.reset).serves .RLYCFG [.kw .MARGIN, .num 0] ∧ writes .RLYCFG [.kw .MARGIN, .num 0] = true ∧
        wellWorded .RLYCFG [.kw .MARGIN, .num 0] = true ∧ (warned State.reset).supply.warning = true) ∧
      ((warned serving).serves .CHRLOCK [] ∧ serving.locked = true ∧ serving.service ≠ .commissioning ∧
        (warned serving).serves .WIPE [] ∧ writes .WIPE [] = true ∧ State.reset.locked = false) ∧
      .JSTAT ∉ servedUncommissioned ∧ (unready State.reset).serves .JSTAT [] ∧ wellWorded .JSTAT [] = true ∧
      (unready State.reset).service = .uncommissioned :=
  ⟨⟨serves_of rfl rfl, rfl⟩, ⟨serves_of rfl rfl, rfl, rfl, rfl⟩,
    ⟨serves_of rfl rfl, by decide, by decide, serves_of rfl rfl, by decide, by decide⟩, by decide, serves_of rfl rfl,
    rfl, rfl⟩

/-- R14, R25, R191: a band without its start, a keyword twice, no pair; ALL among the names of NOTMASK. -/
theorem test_word_forms :
    wellWorded .BANDSET [.num 0, .kw .ON, .kw .ALL, .num 1] = false ∧
      wellWorded .HHEDIT [.num 1, .kw .CAP, .num 5, .kw .CAP, .num 5] = false ∧ wellWorded .HHEDIT [.num 1] = false ∧
      wellWorded .HHEDIT [.num 1, .kw .SHOW, .kw .NO, .kw .CAP, .num 5] = true ∧
      wellWorded .NOTMASK [.kw .ALL, .kw .ON, .kw .METER_SILENT, .kw .OFF] = true := by decide

theorem witness_TickAndAlignFollowTheCalendar :
    (validDateTime lastMoment = true ∧ lastMoment.tick = none) ∧
      (let t : DateTime := ⟨2099, 12, 31, 23, 59, 29⟩;
        validDateTime t = true ∧ t.tick = some ⟨2099, 12, 31, 23, 59, 30⟩ ∧ t.align = none) ∧
      (let t : DateTime := ⟨2000, 1, 1, 0, 0, 28⟩;
        validDateTime t = true ∧ t.tick = some ⟨2000, 1, 1, 0, 0, 29⟩ ∧ t.align = some ⟨2000, 1, 1, 0, 0, 0⟩) ∧
      (let t : DateTime := ⟨2000, 1, 31, 23, 59, 29⟩;
        validDateTime t = true ∧ t.tick = some ⟨2000, 1, 31, 23, 59, 30⟩ ∧ t.align = some ⟨2000, 2, 1, 0, 0, 0⟩) ∧
      (⟨2000, 2, 29, 23, 59, 59⟩ : DateTime).tick = some ⟨2000, 3, 1, 0, 0, 0⟩ ∧
      (⟨2000, 2, 28, 23, 59, 59⟩ : DateTime).tick = some ⟨2000, 2, 29, 0, 0, 0⟩ ∧
      (⟨2000, 12, 31, 23, 59, 59⟩ : DateTime).tick = some ⟨2001, 1, 1, 0, 0, 0⟩ := by decide

theorem witness_BoundaryNumbersAndInstantsAgree :
    (legalLength 5 = true ∧ 10519199 * 5 < 52596000) ∧ (legalLength 60 = true ∧ 0 * 60 < 52596000) := by decide

/-- The calendar VALID at a time with a last boundary given, under 15 minutes. -/
def clocked (t : DateTime) (last : Nat) (aligning : Bool) : State :=
  { chartered with calendar := { now := t, valid := true, aligning := aligning, bLast := last, held := false } }

theorem witness_CalendarStepGivesBoundaryEvents :
    State.reset.calendar.valid = false ∧
      (let s := clocked ⟨2000, 1, 1, 0, 14, 59⟩ 0 false;
        s.calendar.valid = true ∧ s.calendar.aligning = false ∧ s.calendar.now.tick = some ⟨2000, 1, 1, 0, 15, 0⟩ ∧
          s.intervalLength = some 15 ∧ s.power.phase = .running ∧
          (⟨2000, 1, 1, 0, 15, 0⟩ : DateTime).minutes = (s.calendar.bLast + 1) * 15) ∧
      (let s := clocked ⟨2000, 1, 1, 0, 14, 59⟩ 1 false;
        s.calendar.now.tick = some ⟨2000, 1, 1, 0, 15, 0⟩ ∧
          (⟨2000, 1, 1, 0, 15, 0⟩ : DateTime).minutes ≠ (s.calendar.bLast + 1) * 15) ∧
      (let s := clocked lastMoment 0 false;
        s.calendar.valid = true ∧ s.calendar.aligning = false ∧ s.calendar.now.tick = none) := by decide

theorem witness_AlignmentsGoFromClkalignToCompletion :
    (ready (clocked ⟨2000, 1, 1, 0, 14, 40⟩ 0 false) .CLKALIGN [] ∧
      (clocked ⟨2000, 1, 1, 0, 14, 40⟩ 0 false).calendar.valid = true) ∧
    (ready State.reset .CLKALIGN [] ∧ State.reset.calendar.valid = false) ∧
    (let s := clocked ⟨2000, 1, 1, 0, 14, 40⟩ 0 true;
      ready s .CLKALIGN [] ∧ ready s .CLKSET [.num 2025, .num 3, .num 10, .num 9, .num 52, .num 10] ∧
        s.calendar.aligning = true ∧ s.calendar.valid = true ∧ s.calendar.now.align = some ⟨2000, 1, 1, 0, 15, 0⟩ ∧
        s.intervalLength = some 15 ∧ (⟨2000, 1, 1, 0, 15, 0⟩ : DateTime).minutes = (s.calendar.bLast + 1) * 15) ∧
    (clocked ⟨2000, 1, 1, 0, 14, 20⟩ 0 true).calendar.now.align = some ⟨2000, 1, 1, 0, 14, 0⟩ ∧
    (clocked ⟨2099, 12, 31, 23, 59, 29⟩ 0 true).calendar.now.align = none :=
  ⟨⟨ready_of rfl rfl (by decide) rfl, rfl⟩, ⟨ready_of rfl rfl (by decide) rfl, rfl⟩,
    ⟨ready_of rfl rfl (by decide) rfl, ready_of rfl rfl (by decide) rfl, by decide⟩, by decide, by decide⟩

def passing (ph : Phase) : Pass :=
  { plan := { boundary := 1, instant := ⟨2000, 1, 1, 0, 15, 0⟩, items := [] }, phase := ph, stopping := false }

/-- A state with a pass in flight on feeder A. -/
def inPass (s : State) (ph : Phase) : State := s.withEngine .A { s.engine .A with pass := some (passing ph) }

def asking (a : Ask) (tries : Nat) (st : TryStage) : Exchange :=
  { ask := a, slot := 0, addr := 7, triesLeft := tries, timeout := 200, stage := st, vacated := false }

theorem witness_BoundaryEventsRetryAndBuildPasses :
    (serving.notices.cell .queueOverflow).count ≤ 255 ∧ (warned serving).supply.warning = true ∧
      (serving.supply.warning = false ∧ (serving.engine .A).pass = none) ∧
      (passing .guard).phase = .guard ∧ ((inPass serving .guard).engine .A).pass = some (passing .guard) ∧
      (passing .mark).phase ≠ .guard ∧ ((inPass serving .mark).engine .A).pass = some (passing .mark) := by decide

theorem witness_ClksetSetsTheClock :
    (let t : DateTime := ⟨2100, 1, 1, 0, 0, 0⟩;
      ready State.reset .CLKSET [.num t.year, .num t.month, .num t.day, .num t.hour, .num t.minute, .num t.second] ∧
        validDateTime t = false ∧ State.reset.calendar.aligning = false) ∧
    (let t : DateTime := ⟨2099, 12, 31, 23, 59, 59⟩;
      validDateTime t = true ∧ State.reset.intervalLength = none ∧
        ready chartered .CLKSET [.num t.year, .num t.month, .num t.day, .num t.hour, .num t.minute, .num t.second] ∧
        chartered.intervalLength = some 15 ∧ chartered.calendar.bLast < t.minutes / 15) ∧
    (⟨2000, 1, 1, 0, 14, 59⟩ : DateTime).minutes / 15 ≤ chartered.calendar.bLast :=
  ⟨⟨ready_of rfl rfl (by decide) rfl, by decide⟩, ⟨by decide, by decide, ready_of rfl rfl (by decide) rfl, by decide⟩,
    by decide⟩

theorem witness_BandsetAndPricesetWriteTheSchedule :
    (weekdaysOf (.kw .ALL) = some weekdayOrder ∧
      ready State.reset .BANDSET [.num (15 : BandIx).val, .kw .ON, .kw .ALL, .num (1439 : Nat), .num (3 : SetIx).val]) ∧
    ready State.reset .BANDSET [.num (0 : BandIx).val, .kw .OFF] ∧
    (let p : PriceSet := ⟨65535, 65535, 0, 65535, 65535, 200⟩;
      ready chartered .PRICESET [.num (3 : SetIx).val, .num p.community, .num p.feed, .num p.feedSurplus, .num p.plant,
          .num p.plantScarcity, .num p.levy] ∧
        (p.feedSurplus ≤ p.feed ∧ p.feed ≤ p.community ∧ p.community ≤ p.plant ∧ p.plant ≤ p.plantScarcity) ∧
        p.plantScarcity ≤ 65535 ∧ p.levy ≤ 200 ∧ p.levy ≤ chartered.levyCeiling) ∧
    ¬((1 : Nat) ≤ State.reset.levyCeiling) :=
  ⟨⟨by decide, ready_of rfl rfl (by decide) rfl⟩, ready_of rfl rfl (by decide) rfl,
    ⟨ready_of rfl rfl (by decide) rfl, by decide⟩, by decide⟩

/-- A band entry of the schedule applies on Monday 2025-03-10 at 06:00. -/
def appliesAtSix (e : BandIx) : Prop :=
  (schedule.bands[e]).used = true ∧ (⟨2025, 3, 10, 6, 0, 0⟩ : DateTime).weekday ∈ (schedule.bands[e]).weekdays ∧
    (schedule.bands[e]).start ≤ 6 * 60 + 0

/-- Entries 1 and 4 start at the same minute; the lower number has it. -/
theorem witness_BandResolutionTakesTheLatestStart :
    (∀ e : BandIx, (Tariff.default.bands[e]).used = false) ∧ appliesAtSix 1 ∧ appliesAtSix 4 ∧
      ∀ k, appliesAtSix k → (schedule.bands[k]).start < (schedule.bands[(1 : BandIx)]).start ∨
        ((schedule.bands[k]).start = (schedule.bands[(1 : BandIx)]).start ∧ (1 : BandIx) ≤ k) := by
  simp only [appliesAtSix]; decide

theorem witness_CalendarReadsReport :
    State.reset.serves .CLKREAD [] ∧ (unready (warned State.reset)).serves .BANDREAD [.num (15 : BandIx).val] ∧
      State.reset.serves .PRICEREAD [.kw .ALL] :=
  ⟨serves_of rfl rfl, serves_of rfl rfl, serves_of rfl rfl⟩

theorem reset_household (i : Slot) : State.reset.household i = Household.wiped := by simp [State.reset, State.household]

theorem witness_CalendarAndTariffStaySound :
    let s := { clocked ⟨2000, 1, 1, 0, 14, 59⟩ 0 false with pending := [.calendarStep] }
    s.calendarSound ∧ s.tariffSound ∧ ∃ t : State, step s = .next t :=
  ⟨⟨by decide, by decide, by decide⟩, ⟨fun i => by revert i; simp only [PriceSet.sound]; decide,
    fun e => by revert e; simp only [Band.sound]; decide⟩, _, rfl⟩

theorem witness_HhenrolEnrolsAVacantSlot :
    (ready chartered .HHENROL [.num (slotNumber 0), .kw (feederKw .A), .num (247 : Nat), .num (65535 : Nat),
        .num (-100000000), .kw Policy.auto.kw, .kw .YES] ∧ (chartered.household 0).member = .vacant ∧
      chartered.memberCount < chartered.householdLimit ∧
      (∀ j : Slot, j ≠ 0 → chartered.boundTo .A 247 j = false) ∧ 65535 ≤ chartered.capCeiling ∧
      chartered.lowestFloor ≤ -100000000 ∧ chartered.journal.hasRoom 1 1 = true) ∧
    (journalOut chartered).journal.hasRoom 1 1 = false ∧
    ¬((1 : Nat) ≤ 0) ∧ State.reset.householdLimit ≤ State.reset.memberCount ∧
    ((town chartered (member .active 0)).household 0).member ≠ .vacant :=
  ⟨⟨ready_of rfl rfl (by decide) rfl, by decide⟩, by decide, by decide, by decide, by decide⟩

/-- A table of VACANT slots alone. -/
theorem wiped_sound : chartered.tableSound :=
  ⟨fun i => by rw [show chartered.household i = _ from reset_household i]; exact ⟨by decide, nofun⟩,
    fun i j c d hc => by rw [show chartered.household i = _ from reset_household i] at hc; cases hc⟩

theorem witness_HheditWritesThePairsGiven :
    (let s := town chartered (member .active 0);
      ready s .HHEDIT [.num (slotNumber 0), .kw .CAP, .num 65535, .kw .ADDR, .num 247] ∧
        pairs readEdit [.kw .CAP, .num 65535, .kw .ADDR, .num 247] = some [(.CAP, .num 65535), (.ADDR, .num 247)] ∧
        (s.household 0).settings = some terms ∧ s.editBusy 0 terms [(.CAP, .num 65535), (.ADDR, .num 247)] = false ∧
        s.editAll terms [(.CAP, .num 65535), (.ADDR, .num 247)] = some { terms with cap := 65535, addr := 247 } ∧
        bindingPair [(.CAP, .num 65535), (.ADDR, .num 247)] = true ∧
        (∀ j : Slot, j ≠ 0 → s.boundTo .A 247 j = false) ∧ s.editAll terms [(.CAP, .num 0)] = none) ∧
    (inPass (town chartered (member .active 0)) (.snapshot (asking (.snapshot 1) 2 .waiting))).editBusy 0 terms
      [(.ADDR, .num 247)] = true ∧
    (((town chartered (member .active 0)).withHousehold 1
      { member .active 0 with settings := some { terms with addr := 247 } }).boundTo .A 247 1 = true) ∧
    (chartered.household 0).settings = none ∧ chartered.tableSound ∧ (chartered.household 0).member = .vacant ∧
    ready chartered .HHEDIT [.num (slotNumber 0), .kw .CAP, .num 1] :=
  ⟨⟨ready_of rfl rfl (by decide) rfl, by decide⟩, by decide, by decide, by decide, wiped_sound, by decide,
    ready_of rfl rfl (by decide) rfl⟩

theorem witness_SuspendResumeRebaseMoveTheState :
    (ready (town chartered (member .active 0)) .HHSUSPEND [.num (slotNumber 0)] ∧
      ready (town chartered (member .suspended 0)) .HHRESUME [.num (slotNumber 0)] ∧
      ready (town chartered (member .fault 0)) .HHREBASE [.num (slotNumber 0)]) ∧
    (((town chartered (member .active 0)).household 0).member = .active ∧
      ((town chartered (member .suspended 0)).household 0).member = .suspended ∧
      ((town chartered (member .fault 0)).household 0).member = .fault ∧
      (town chartered (member .fault 0)).settlingFor 0 = false ∧
      (ledger 1 [book 1 (.settling .complete) .missing]).settlingFor 0 = true ∧
      chartered.journal.hasRoom 1 1 = true ∧ (journalOut chartered).journal.hasRoom 1 1 = false) :=
  ⟨⟨ready_of rfl rfl (by decide) rfl, ready_of rfl rfl (by decide) rfl, ready_of rfl rfl (by decide) rfl⟩, by decide⟩

theorem witness_HhwithdrawVacatesOrLeaves :
    ready (town chartered (member .active 0)) .HHWITHDRAW [.num (slotNumber 0)] ∧
      (let s := town chartered (member .active 0);
        (s.household 0).member = .active ∧ s.journal.hasRoom 1 1 = true ∧
          (∀ b ∈ s.store.books, b.entries[(0 : Slot)] = .excluded) ∧ (s.household 0).balance = 0) ∧
      ((town chartered (member .active 1)).household 0).balance ≠ 0 ∧
      ¬(∀ b ∈ (ledger 1 [book 1 .opened .pending]).store.books, b.entries[(0 : Slot)] = .excluded) ∧
      ((town chartered (member .leaving 0)).household 0).member = .leaving ∧
      (State.reset.notices.cell .substDropped).count ≤ 255 ∧ (State.reset.engine .A).inFlight = none ∧
      ∃ p, ((inPass serving (.supply (asking (.supply .closed) 2 .waiting))).engine .A).inFlight =
        some (p, asking (.supply .closed) 2 .waiting) :=
  ⟨ready_of rfl rfl (by decide) rfl, by decide, by decide, by decide, by decide, by decide, rfl, _, rfl⟩

theorem witness_TopupAndAdjustMoveOneBalance :
    (ready (town chartered (member .leaving (-30))) .TOPUP [.num (slotNumber 0), .num 30] ∧
      ready (town chartered (member .active 0)) .ADJUST [.num (slotNumber 0), .num (-1000000000000)]) ∧
    (let s := town chartered (member .leaving (-30));
      (s.household 0).member = .leaving ∧ (∀ b ∈ s.store.books, b.entries[(0 : Slot)] = .excluded) ∧
        (s.household 0).balance + 30 = 0 ∧ s.journal.hasRoom 2 2 = true ∧ s.journal.hasRoom 1 1 = true) ∧
    ((journalOut chartered).journal.hasRoom 2 2 = false ∧ (journalOut chartered).journal.hasRoom 1 1 = false) ∧
    (((town chartered (member .active 140737488355327)).household 0).balance + 1 > 140737488355327) ∧
    (chartered.household 0).member = .vacant :=
  ⟨⟨ready_of rfl rfl (by decide) rfl, ready_of rfl rfl (by decide) rfl⟩, by decide, by decide, by decide, by decide⟩

theorem witness_FundAndHouseholdReads :
    ready chartered .FUND [.num (-1000000000000)] ∧ ready chartered .FUNDREAD [] ∧
      ready (town chartered (member .active 0)) .HHREAD [.num (slotNumber 0)] ∧ ready chartered .HHREAD [.kw .ALL] ∧
      (chartered.fund + -1000000000000 ≥ -140737488355327 ∧ chartered.journal.hasRoom 1 1 = true ∧
        (journalOut chartered).journal.hasRoom 1 1 = false ∧ (chartered.household 95).member = .vacant ∧
        ((town chartered (member .active 0)).household 0).settings = some terms) :=
  ⟨ready_of rfl rfl (by decide) rfl, ready_of rfl rfl (by decide) rfl, ready_of rfl rfl (by decide) rfl,
    ready_of rfl rfl (by decide) rfl, by decide⟩

theorem town_household (s : State) (h : Household) (i : Slot) :
    (town s h).household i = if i = 0 then h else s.household i := by
  rcases i with ⟨i, hi⟩
  cases i <;> simp [town, State.household, State.withHousehold, State.withTable, Fin.ext_iff]

/-- A table whose slot 1 alone is used. -/
theorem town_sound {s : State} {h : Household} (k : ∀ i, s.household i = Household.wiped) (hs : h.sound) :
    (town s h).tableSound := by
  refine ⟨fun i => ?_, fun i j c d hc hd _ _ => ?_⟩
  · rw [town_household]
    split
    · exact hs
    · rw [k]; exact ⟨by decide, nofun⟩
  · rw [town_household] at hc hd
    by_cases hi : i = 0 <;> by_cases hj : j = 0 <;> simp_all [Household.wiped]

theorem active_sound : (member .active 0).sound := ⟨by decide, fun c h => by cases h; decide⟩

theorem witness_HouseholdTableStaysSound :
    let s := { (town chartered (member .active 0)) with pending := [.relay [.num 1, .kw .OPEN]] }
    s.tableSound ∧ ∃ t : State, step s = .next t :=
  ⟨town_sound (s := chartered) reset_household active_sound, _, rfl⟩


/-! ### Books -/

/-- A state whose one waiting delivery is a snapshot of slot 1 for boundary 1. -/
def delivered (s : State) : State :=
  { s with store := { s.store with deliveries := [{ feeder := .A, slot := 0, boundary := 1, snap := some snap }] } }

theorem witness_BoundaryEventOpensABookOrCarriesItsStep :
    (serving.service = .service ∧ serving.supply.warning = false ∧ serving.store.books.length < 6) ∧
      ((warned serving).service = .service ∧ (warned serving).supply.warning = true) ∧
      6 ≤ (ledger 6 ((List.range 6).map fun k => book (k + 1) (.due .complete) .missing)).store.books.length ∧
      chartered.service ≠ .service := by decide

theorem witness_DeliveriesAreFiledOrLate :
    ((delivered (warned serving)).supply.warning = true ∧ (delivered (warned serving)).store.deliveries ≠ []) ∧
      (∀ b, (delivered serving).bookOf 1 = some b → b.state ≠ .opened) ∧
      (delivered (ledger 1 [book 1 (.due .grace) .missing])).bookOf 1 = some (book 1 (.due .grace) .missing) ∧
      (delivered (ledger 1 [book 1 .opened .missing])).bookOf 1 = some (book 1 .opened .missing) ∧
      (let b := book 1 .opened .pending;
        (delivered (ledger 1 [b])).bookOf 1 = some b ∧ b.entries[(0 : Slot)] = .pending ∧ b.marked = true) ∧
      ({ book 1 .opened .pending with marked := false } : Book).marked = false ∧
      (delivered serving).startable = none ∧ (delivered (ledger 1 [book 1 .opened .pending])).startable = none ∧
      (delivered (ledger 1 [book 1 (.due .grace) .missing])).startable ≠ none :=
  ⟨by decide, nofun, rfl, rfl, ⟨rfl, rfl, rfl⟩, rfl, by decide, by decide, by decide⟩

theorem witness_ClosenowForcesTheOldestOpenBook :
    (ready (ledger 1 []) .CLOSENOW [] ∧ ∀ b ∈ (ledger 1 []).store.books, b.state ≠ .opened) ∧
      (let due := book 1 (.due .complete) .missing;
        let opened := book 2 .opened .pending;
        let s := { ledger 3 [due, opened, book 3 .opened .pending] with
          settlement := { computation := none, deferral := .journalFull } };
        ready s .CLOSENOW [] ∧ s.store.books = [due] ++ opened :: [book 3 .opened .pending] ∧ due.state ≠ .opened ∧
          opened.state = .opened ∧ ∀ k ∈ [due] ++ [book 3 .opened .pending], k.boundary ≠ opened.boundary) :=
  ⟨⟨ready_of rfl rfl (by decide) rfl, nofun⟩, ready_of rfl rfl (by decide) rfl, rfl, by decide, rfl, by decide⟩

/-- A state with these substitution entries. -/
def covering (s : State) (es : List Sub) : State := { s with store := { s.store with subs := es } }

theorem witness_SubstitutionRequestsEditTheTable :
    (let s := covering (ledger 1 [book 1 .opened .pending]) [⟨0, 1, 5, 5, true⟩];
      ready s .SUBSET [.num (slotNumber 0), .num (1 : Nat), .num (1000 : Nat), .num (0 : Nat)] ∧
        ready s .SUBOFF [.num (slotNumber 0), .num (1 : Nat)] ∧ ready s .SUBCLR [.num (slotNumber 0), .num (65 : Nat)] ∧
        (s.tooLate 1 = false ∧ s.tooLate 65 = false ∧ 65 ≤ s.calendar.bLast + 64 ∧
          (s.household 0).settings = some terms ∧ 1000 ≤ terms.cap ∧ ¬(1001 ≤ terms.cap) ∧
          (∃ e ∈ s.store.subs, e.slot = 0 ∧ e.boundary = 1) ∧ (∀ e ∈ s.store.subs, ¬(e.slot = 0 ∧ e.boundary = 65)) ∧
          s.store.subs.length < 8)) ∧
      (ledger 1 [book 1 (.due .complete) .missing]).tooLate 1 = true ∧
      8 ≤ (covering serving ((List.range 8).map fun k => ⟨0, k + 1, 0, 0, true⟩)).store.subs.length :=
  ⟨⟨ready_of rfl rfl (by decide) rfl, ready_of rfl rfl (by decide) rfl, ready_of rfl rfl (by decide) rfl, by decide⟩,
    by decide, by decide⟩

/-- A held book OPEN and one closed; no held book at b_last, below the oldest and above both; a book that its cover completes, and
one that stays OPEN (R50, R56). -/
theorem witness_SubstitutionBoundaries :
    (ledger 1 [book 1 .opened .pending]).bookOf 1 = some (book 1 .opened .pending) ∧
      (ledger 3 [book 2 .opened .pending]).bookOf 3 = none ∧
      (ledger 0 [book 2 .opened .pending]).bookOf 1 = none ∧ 1 < (book 2 .opened .pending).boundary ∧
      (let s := covering (ledger 1 [book 1 .opened .pending]) [⟨0, 1, 5, 5, true⟩];
        s.covers 1 0 = true ∧ (s.testComplete 1).bookOf 1 = some (book 1 (.due .complete) .pending)) ∧
      ((ledger 1 [book 1 .opened .pending]).testComplete 1).bookOf 1 = some (book 1 .opened .pending) := by decide

theorem witness_BookReadsReport :
    let s := ledger 1 [book 1 .opened .pending]
    ready s .BOOKS [] ∧ ready s .SUBREAD [] ∧ ready s .BOOKREAD [.num (book 1 .opened .pending).boundary] ∧
      ready s .BOOKREAD [.num (book 1 .opened .pending).boundary, .num (slotNumber 95)] ∧
      s.bookOf (book 1 .opened .pending).boundary = some (book 1 .opened .pending) ∧
      s.bookOf (book 2 .opened .pending).boundary = none :=
  ⟨ready_of rfl rfl (by decide) rfl, ready_of rfl rfl (by decide) rfl, ready_of rfl rfl (by decide) rfl,
    ready_of rfl rfl (by decide) rfl, rfl, rfl⟩

theorem opened_store : (ledger 1 [book 1 .opened .pending]).storeSound :=
  ⟨by decide, by decide, by decide, by decide, by decide, nofun,
    (by decide : ∀ b ∈ (ledger 1 [book 1 .opened .pending]).store.books, b.isSettling = false)⟩

theorem witness_BookStoreStaysSound :
    let s := { ledger 1 [book 1 .opened .pending] with pending := [.closenow []] }
    s.storeSound ∧ ∃ t : State, step s = .next t :=
  ⟨opened_store, _, rfl⟩

/-! ### Settlement and journal -/

theorem witness_SettlingStartTakesTheOldestDueBook :
    (State.reset.power.phase = .running ∧ State.reset.startable = none) ∧
      (let b := book 1 (.due .complete) (.received snap);
        let s := ledger 2 [b, book 2 .opened .pending];
        s.power.phase = .running ∧ s.settlement = { computation := none, deferral := .none } ∧ s.service = .service ∧
          s.supply.warning = false ∧ s.store.books = b :: [book 2 .opened .pending] ∧ b.state = .due .complete ∧
          ∀ k ∈ [book 2 .opened .pending], k.boundary ≠ b.boundary) :=
  ⟨⟨rfl, rfl⟩, rfl, rfl, rfl, rfl, rfl, rfl, by decide⟩

theorem witness_DerivationFollowsTheRules :
    let x := fun e m b => ({ entry := e, member := m, cap := 4000, bases := b } : SlotInput)
    let zero : Option Bases := some ⟨0, 0⟩
    ((x .missing .fault none).member = .fault ∧ (x (.received snap) .enrolled none).bases = none ∧
        (x (.received snap) .active zero).bases = zero ∧ (x (.substituted 1 2) .active zero).bases = zero ∧
        (x .missing .active zero).bases ≠ none ∧ (x .notHeld .active zero).bases ≠ none ∧ (x .missing .active none).bases = none) ∧
      (judge 4000 50 0 100 = .forward 100 100 ∧ judge 4000 50 100 0 = .regression) ∧
      ((65535 : Word32).toNat + 4294967296 - (0 : Word32).toNat) % 4294967296 = 65535 ∧
      ((2147483647 : Word32).toNat + 4294967296 - (0 : Word32).toNat) % 4294967296 = 2147483647 ∧
      ((0 : Word32).toNat + 4294967296 - (65535 : Word32).toNat) % 4294967296 = 4294967296 - 65535 ∧
      ((0 : Word32).toNat + 4294967296 - (65536 : Word32).toNat) % 4294967296 = 4294967296 - 65536 := by decide

theorem witness_SharesSumToMAndMoneyIsConserved :
    1000 ≤ total (amounts [(1, 1100), (3, 1100), (4, 800)]) ∧ 3000 ≤ total (amounts [(1, 1100), (3, 1100), (4, 800)]) := by
  decide

/-- A computation in which slot 1 buys 100 Wh, slot 2 sells 40 Wh, and no other slot trades. -/
theorem witness_ComputationsHaveBuyersAndSellers :
    ∃ c : Computation, (∃ r ∈ c.results, 0 < r.demand ∧ r.matched = 40 ∧ r.residual = 60) ∧
      (∃ r ∈ c.results, 0 < r.supply ∧ r.matched = 40) ∧ ∃ r ∈ c.results, r.demand = 0 ∧ r.supply = 0 :=
  ⟨⟨1, 1, prices, ReserveFlags.empty, 50,
      ((Vector.replicate 96 ⟨.excluded, .vacant, 0, none⟩).set 0 ⟨.substituted 100 0, .active, 1000, some ⟨0, 0⟩⟩).set 1
        ⟨.substituted 0 40, .active, 1000, some ⟨0, 0⟩⟩⟩, by decide +kernel⟩

/-- The settlement of a book in which slot 1 takes 100 Wh, with this fund. -/
def settling (fund : Int) : State :=
  let inputs : Vector SlotInput 96 := (Vector.replicate 96 ⟨.excluded, .vacant, 0, none⟩).set 0
    ⟨.received snap, .active, 1000, some { imp := 0, exp := 40 }⟩
  { ledger 1 [book 1 (.settling .complete) (.received snap)] with
    fund := fund
    settlement := { computation := some ⟨1, 1, prices, ReserveFlags.empty, 50, inputs⟩, deferral := .none } }

/-- That book has this many lines, each inside the balance limit, and this fund change. -/
theorem witness_PostingAppliesAllOrNothing :
    ∃ c b, (∀ fund, (settling fund).settlement.computation = some c ∧ (settling fund).bookOf c.boundary = some b) ∧
      (let s := settling 0;
        s.journal.hasRoom 1 (s.listed b c.results).length = true ∧
        (∀ r ∈ s.listed b c.results, withinLimit ((s.household r.slot).balance + r.credit - r.debit) = true) ∧
        withinLimit (s.fund + fundChange c.results) = true) ∧
      ((journalOut (settling 0)).journal.hasRoom 1 ((journalOut (settling 0)).listed b c.results).length = false) ∧
      withinLimit ((settling 140737488355327).fund + fundChange c.results) = false :=
  ⟨_, _, fun _ => ⟨rfl, rfl⟩, by decide +kernel, by decide +kernel, by decide +kernel⟩

/-- The same household LEAVING with what the posting takes: it is vacated (R90). -/
theorem witness_PostingVacatesAndMoves :
    ∃ c b, (∀ h : Household, ((settling 0).withHousehold 0 h).settlement.computation = some c ∧
        ((settling 0).withHousehold 0 h).bookOf c.boundary = some b) ∧
      (let s := (settling 0).withHousehold 0 (member .leaving 26000);
        s.journal.hasRoom 1 (s.listed b c.results).length = true ∧
        (∀ r ∈ s.listed b c.results, withinLimit ((s.household r.slot).balance + r.credit - r.debit) = true) ∧
        withinLimit (s.fund + fundChange c.results) = true ∧ ∃ r ∈ c.results, s.postingVacates b r = true) ∧
      (∃ r ∈ c.results, (settling 0).postingVacates b r = false ∧ r.derived = none) ∧
      (∃ r ∈ c.results, (settling 0).postingVacates b r = false ∧ r.derived ≠ none) ∧
      (serving.notices.cell .householdFault).count ≤ 255 ∧ (settling 0).intervalLength = some 15 ∧
      b.state = .settling .complete :=
  ⟨_, _, fun _ => ⟨rfl, rfl⟩, by decide +kernel, by decide +kernel, by decide +kernel, by decide, by decide, rfl⟩

/-- R81, R85, R91: that household's posting, worked out by hand: 100 Wh at 260 µcr. -/
theorem test_posting_moves_the_money :
    let s := after .postingAttempt (settling 0)
    (s.household 0).balance = -25990 ∧ s.fund = 26000 ∧ s.injection = 0 ∧ s.store.books = [] ∧
      (s.notices.cell .settled).flag = true := by decide +kernel

theorem witness_EveryMicrocreditStaysAccountedFor :
    let s := { ledger 1 [book 1 .opened .pending] with injection := 10, pending := [.topup [.num 1, .num 5]] }
    s.accountsSound ∧ ∃ t : State, step s = .next t := by
  refine ⟨⟨opened_store, ⟨by decide +kernel, nofun⟩, by decide +kernel, by decide +kernel⟩, _, rfl⟩

/-- A journal that holds two records, the newer with the highest number. -/
def lastRecords : Journal :=
  { records := [⟨4294967294, .fund 1 1⟩, ⟨4294967295, .fund (-1) 0⟩], nextSeq := none }

theorem witness_JournalStaysConsecutiveAndBounded :
    let s := { serving with journal := lastRecords, pending := [.jrelease [.num 4294967294]] }
    s.journal.sound ∧ (∃ t : State, step s = .next t) ∧ State.reset.journal.sound :=
  ⟨⟨by decide, by decide, by simp [lastRecords, consecutive], by simp [lastRecords, Journal.nextFits], by decide⟩, ⟨_, rfl⟩,
    ⟨by decide, by decide, trivial, by simp [State.reset, Journal.nextFits], by decide⟩⟩

theorem witness_JreleaseRemovesTheOldRecords :
    let s := { serving with journal := { lastRecords with records := [⟨5, .fund 1 1⟩, ⟨6, .fund 1 2⟩] } }
    ready s .JRELEASE [.num (6 : Nat)] ∧ ready s .JRELEASE [.num (7 : Nat)] ∧
      ((∃ r, s.journal.records.getLast? = some r ∧ r.seq < 7) ∧ ∀ r, s.journal.records.getLast? = some r → r.seq ≥ 6) :=
  ⟨ready_of rfl rfl (by decide) rfl, ready_of rfl rfl (by decide) rfl, ⟨_, rfl, by decide⟩, by simp⟩

theorem witness_JreadAndJstatReport :
    let s := { serving with journal := lastRecords }
    ready s .JSTAT [] ∧ ready s .JREAD [.num (4294967295 : Nat)] ∧ ready s .JREAD [.kw .OLDEST] ∧
      (∀ r ∈ s.journal.records, r.seq ≠ 0) ∧
      s.journal.records = [⟨4294967294, .fund 1 1⟩] ++ ⟨4294967295, .fund (-1) 0⟩ :: [] ∧
      (∀ k ∈ [(⟨4294967294, .fund 1 1⟩ : JournalRecord)], k.seq ≠ 4294967295) ∧ serving.journal.records = [] ∧
      serving.journal.nextSeq = some 1 ∧ 0 < 1 :=
  ⟨ready_of rfl rfl (by decide) rfl, ready_of rfl rfl (by decide) rfl, ready_of rfl rfl (by decide) rfl, by decide⟩

/-! ### Feeders -/

theorem witness_FramesAreHeardAsTheyAreBuilt :
    ((1 : Byte) ≠ 0 ∧ (247 : Byte) ≠ 0) ∧ ([7] : List Byte).length < 2 ∧ hear [7, 99, 0, 0, 0] = .bad ∧
      hear [7, 35, 0, 1, 0] = .bad ∧ hear [7, 35, 0, 1, 0, 0] = .bad ∧ hear (withCrc [7, 50, 2]) = .bad ∧
      hear (withCrc ([7, 34] ++ List.replicate 10 0 ++ [3, 0])) = .bad ∧ hear (withCrc [0, 35, 0, 1]) = .stray ∧
      hear (withCrc [7, 33, 0, 1]) = .stray := by decide +kernel

/-- The part in SERVICE with an ACTIVE household, an OPEN book and this engine on feeder A. -/
def linked (e : Engine) : State := (ledger 1 [book 1 .opened .pending]).withEngine .A e

/-- An engine with a pass in a phase, with these waiting entries and items. -/
def engaged (ph : Phase) (q : List QueueEntry) (items : List SnapItem) : Engine :=
  { Engine.fresh with
    queue := q
    pass := some { plan := ⟨1, ⟨2000, 1, 1, 0, 15, 0⟩, items⟩, phase := ph, stopping := false } }

def item : SnapItem := { boundary := 1, slot := 0, addr := 7 }

theorem witness_PassesGoFromMarkToRequests :
    (linked (engaged .mark [] [])).bookOf 1 = some (book 1 .opened .pending) ∧
      (let e := { engaged .mark [] [] with next := some (passing .mark).plan };
        ((linked e).engine .A).next = some (passing .mark).plan ∧ (linked e).power.phase = .running) ∧
      ((engaged .mark [] []).next = none ∧ (passing .mark).stopping = false ∧
        ({ passing .mark with stopping := true } : Pass).stopping = true) ∧
      (let s := linked (engaged .guard [⟨0, .opened⟩, ⟨0, .closed⟩] [item]);
        (s.engine .A).queue = [⟨0, .opened⟩] ++ ⟨0, .closed⟩ :: [] ∧ Relay.opened ≠ (s.household 0).wanted ∧
          (s.household 0).member ≠ .vacant ∧ Relay.closed = (s.household 0).wanted ∧
          (s.household 0).settings = some terms) ∧
      (let s := linked (engaged .guard [] [{ item with addr := 8 }, item]);
        (s.engine .A).queue = [] ∧ s.itemStands .A { item with addr := 8 } = false ∧ s.itemStands .A item = true) ∧
      (let x := asking (.snapshot 1) 2 .sending;
        ∃ p, ((linked (engaged (.snapshot x) [] [])).engine .A).inFlight = some (p, x) ∧ x.stage = .sending) ∧
      (serving.bookOf 1 = none ∧
        ((ledger 1 [book 1 .opened .notHeld]).reportMark .A 1).bookOf 1 = some (book 1 (.due .complete) .notHeld) ∧
        ((ledger 1 [book 1 .opened .pending]).reportMark .A 1).bookOf 1 = some (book 1 .opened .pending)) :=
  ⟨rfl, ⟨rfl, rfl⟩, by decide, by decide, by decide, ⟨_, rfl, rfl⟩, by decide⟩

theorem witness_ResponseTimeoutRetriesThenFails :
    (let x := asking (.snapshot 1) 2 .waiting;
      let s := linked (engaged (.snapshot x) [] []);
      s.power.phase = .running ∧ (∃ p, (s.engine .A).inFlight = some (p, x)) ∧ x.stage = .waiting ∧ x.triesLeft ≠ 0 ∧
        s.withdrawsNow x = false) ∧
      (let x := asking (.supply .opened) 2 .waiting;
        (linked (engaged (.supply x) [] [])).withdrawsNow x = true) ∧
      (let x := asking (.supply .opened) 0 .waiting;
        let e := { engaged (.supply x) [] [] with fails := 5 };
        (∃ p, ((linked e).engine .A).inFlight = some (p, x)) ∧ x.triesLeft = 0 ∧ e.link = .up ∧ e.fails + 1 = 6 ∧
          x.vacated = false ∧ (linked e).supply.warning = false) ∧
      (let x := asking (.supply .opened) 1 .resending;
        ∃ p, ((linked (engaged (.supply x) [] [])).engine .A).inFlight = some (p, x) ∧ x.stage = .resending) ∧
      (let e := { engaged .guard [] [] with next := some (passing .mark).plan };
        e.next = some (passing .mark).plan ∧ (engaged .guard [] []).next = none ∧
          ({ passing .guard with stopping := true } : Pass).stopping = true ∧ (passing .guard).stopping = false) ∧
      (let x := asking (.snapshot 1) 0 .waiting;
        let s := linked (engaged (.snapshot x) [] []);
        let p := { passing (.snapshot x) with plan := { (passing .guard).plan with items := [item] } };
        p.phase = .snapshot x ∧ p.plan.items = [] ++ item :: [] ∧ s.itemStands .A item = true ∧
          s.itemStands .A { item with addr := 8 } = false ∧ (passing (.supply x)).phase = .supply x) :=
  ⟨⟨rfl, ⟨_, rfl⟩, rfl, by decide, by decide⟩, by decide, ⟨⟨_, rfl⟩, rfl, rfl, rfl, rfl, rfl⟩, ⟨_, rfl, rfl⟩,
    ⟨rfl, rfl, rfl, rfl⟩, rfl, rfl, by decide, by decide, rfl⟩

theorem witness_FeederFramesAreJudged :
    (serving.power.phase = .running ∧ (linked (engaged .mark [] [])).feederA.frameDue = true ∧
        (serving.engine .A).frameDue = false ∧ (serving.engine .A).inFlight = none ∧ hear [7] = .bad ∧
        hear (withCrc [7, 49, 0]) = .stray ∧ hear (withCrc [7, 50, 1]) = .reply 7 (.supplied .closed)) ∧
      (let x := asking (.snapshot 1) 2 .waiting;
        let s := linked (engaged (.snapshot x) [] []);
        s.supply.warning = false ∧ (∃ p, (s.engine .A).inFlight = some (p, x)) ∧ x.stage ≠ .sending ∧ x.vacated = false ∧
          x.ask = .snapshot 1 ∧
          hear (withCrc ([7, 34] ++ bytes16 1 ++ [0, 0, 0, 100] ++ [0, 0, 0, 40] ++ [0, 1])) =
            .reply x.addr (.snap (BitVec.ofNat 16 1) snap) ∧
          hear (withCrc ([7, 35] ++ bytes16 1)) = .reply x.addr (.notHeld (BitVec.ofNat 16 1))) ∧
      (let x := asking (.supply .opened) 2 .waiting;
        x.ask = .supply .opened ∧ hear (withCrc [7, 50, 1]) = .reply x.addr (.supplied .closed) ∧
          hear (withCrc [7, 50, 0]) = .reply x.addr (.supplied .opened)) ∧
      (let x := asking (.snapshot 1) 2 .overrun;
        ∃ p, ((linked (engaged (.snapshot x) [] [])).engine .A).inFlight = some (p, x) ∧ x.stage = .overrun ∧
          ((linked (engaged (.snapshot x) [] [])).engine .A).frameDue = false ∧ x.answers 7 (.supplied .closed) = false) ∧
      (let x := asking (.supply .closed) 1 .resending;
        Engine.fresh.pass = none ∧ x.stage ≠ .sending ∧ (engaged (.supply x) [] []).pass = some (passing (.supply x)) ∧
          (passing (.supply x)).exchange = some x ∧ (asking (.snapshot 1) 2 .sending).stage = .sending ∧
          (passing (.supply (asking (.snapshot 1) 2 .waiting))).exchange = some (asking (.snapshot 1) 2 .waiting)) := by
  refine ⟨by decide +kernel, ⟨rfl, ⟨_, rfl⟩, by decide, rfl, rfl, by decide +kernel, by decide +kernel⟩, ⟨rfl, ?_, ?_⟩,
    ⟨_, rfl, rfl, rfl, rfl⟩, rfl, by decide, rfl, rfl, rfl, rfl⟩ <;> decide +kernel

theorem witness_FeederRequestsReportAndSet :
    (ready serving .FEEDER [.kw (feederKw .A)] ∧ ready serving .FEEDER [.kw .ALL] ∧
      ready serving .FEEDER [.kw (feederKw .B), .kw .QUEUE] ∧ ready serving .FDRFORCE [.kw (feederKw .A), .kw .ON] ∧
      ready serving .FDRFORCE [.kw (feederKw .A), .kw .OFF]) ∧
      ready serving .FDRTIMING [.kw (feederKw .A), .num (2000 : Nat), .num (3 : Nat)] ∧
      ¬(20 ≤ 19 ∧ 19 ≤ 2000 ∧ 3 ≤ 3) :=
  ⟨⟨ready_of rfl rfl (by decide) rfl, ready_of rfl rfl (by decide) rfl, ready_of rfl rfl (by decide) rfl,
      ready_of rfl rfl (by decide) rfl, ready_of rfl rfl (by decide) rfl⟩,
    ready_of rfl rfl (by decide) rfl, by decide⟩

theorem witness_FeederEventsLeaveTheOtherEngine :
    Feeder.A ≠ .B ∧ ∃ t : State, exec (.markSent .A) (linked (engaged .mark [] [])) = .next t := ⟨by decide, _, rfl⟩

/-! ### Reserve and limiter -/

/-- A plant frame with a sequence number, a charge and a frequency. -/
def plant (q : Byte) (charge freq : Word16) : List Byte := withCrc ([97, q] ++ bytes16 charge ++ bytes16 freq ++ [0, 0, 0, 0])

/-- The part in SERVICE with its watch live in a state, sampling every `d`th frame, this sequence number its last. -/
def watching (c : Condition) (d : Nat) (q : Option Nat) : State :=
  { serving with reserve := { Reserve.fresh with
      state := .live c, scarcity := 2, leaving := 2, previous := q, settings := { ReserveSettings.default with divisor := d } } }

theorem witness_PlantFramesMoveTheReserveState :
    (serving.power.phase = .running ∧ plantFrameOf [97] = none ∧ serving.reserve.state = .stale .normal ∧
      plantFrameOf (plant 5 249 65000) = some ⟨5, 249, 65000, 0⟩ ∧ plantFrameOf (plant 5 1001 50000) = some ⟨5, 1001, 50000, 0⟩ ∧
      serving.reserve.previous ≠ some 5 ∧ (watching .normal 1 (some 5)).reserve.previous = some 5) ∧
      ((watching .normal 2 none).reserve.position + 1 < 2 ∧
        (watching .normal 1 none).reserve.settings.divisor ≤ (watching .normal 1 none).reserve.position + 1 ∧
        (watching .scarce 1 none).reserve.state = .live .scarce) ∧
      ((watching .normal 1 none).reserve.settings.count ≤ (watching .normal 1 none).reserve.scarcity + 1 ∧
        ¬((watching .normal 1 none).reserve.settings.count ≤ 0) ∧
        (watching .surplus 1 none).reserve.state = .live .surplus ∧
        (watching .surplus 1 none).reserve.settings.count ≤ (watching .surplus 1 none).reserve.leaving + 1 ∧
        plantFrameOf (plant 5 250 50000) = some ⟨5, 250, 50000, 0⟩) ∧
      plantFrameOf (List.replicate 12 0) = none ∧ plantFrameOf (97 :: List.replicate 11 0) = none := by decide +kernel

theorem witness_ReserveRequestsSetAndReport :
    (ready serving .RESCFG [.kw .SOCLOW, .num 1000, .kw .SOCHYST, .num 0] ∧
      pairs readReserve [.kw .SOCLOW, .num 1000, .kw .SOCHYST, .num 0] = some [(.SOCLOW, 1000), (.SOCHYST, 0)] ∧
      serving.reserve.settings.edit [(.SOCLOW, 1000), (.SOCHYST, 0)] =
        some { ReserveSettings.default with socLow := 1000, socHyst := 0 } ∧
      serving.reserve.settings.edit [(.SOCLOW, 1001)] = none ∧
      serving.reserve.settings.edit [(.SOCLOW, 951)] = some { ReserveSettings.default with socLow := 951 } ∧
      ¬(951 + 50 ≤ 1000)) ∧
      ready serving .RESREAD [] ∧ ready serving .RESREAD [.kw .CFG] :=
  ⟨⟨ready_of rfl rfl (by decide) rfl, by decide, by decide, by decide, by decide, by decide⟩,
    ready_of rfl rfl (by decide) rfl, ready_of rfl rfl (by decide) rfl⟩

theorem witness_EvaluationFollowsPolicyAndBalance :
    ((town serving (member .active 0)).household 0).settings = some terms ∧
      ((town serving (member .suspended 0)).household 0).member = .suspended ∧
      ((member .active (-5000001)).balance < terms.floor ∧ (member .active (-5000001)).wanted ≠ .opened) ∧
      (let s := linked (engaged .mark [⟨0, .closed⟩] []);
        (s.engine .A).queue = [] ++ ⟨0, .closed⟩ :: [] ∧ (s.engine .A).queue.length < 16) ∧
      (let s := linked (engaged .mark ((List.range 16).map fun k => ⟨Fin.ofNat 96 (k + 1), .closed⟩) []);
        (∀ e ∈ (s.engine .A).queue, e.slot ≠ 0) ∧ 16 ≤ (s.engine .A).queue.length) := by decide

theorem witness_RelayAndRlycfgAct :
    (ready (town serving (member .active 0)) .RELAY [.num (slotNumber 0), .kw .OPEN] ∧
      ready (town serving (member .active 0)) .RELAY [.num (slotNumber 95), .kw .CLOSED] ∧
      ((town serving { member .active 0 with settings := some { terms with policy := .manual } }).household 0).settings =
        some { terms with policy := .manual } ∧
      terms.policy ≠ .manual) ∧
      ready serving .RLYCFG [] ∧ ready serving .RLYCFG [.kw .MARGIN, .num (1000000000 : Nat)] ∧
      ready serving .RLYCFG [.kw .MARGIN, .num (1000000001 : Nat)] :=
  ⟨⟨ready_of rfl rfl (by decide) rfl, ready_of rfl rfl (by decide) rfl, by decide, by decide⟩,
    ready_of rfl rfl (by decide) rfl, ready_of rfl rfl (by decide) rfl, ready_of rfl rfl (by decide) rfl⟩

/-! ### Display -/

/-- The part in COMMISSIONING with this display and a shown household. -/
def glass (d : Display) : State := { town chartered (member .active (-1270591)) with display := d }

def screen (m : Mode) (a : Activity) (frames : Nat) (fetch : Option PageChoice) : Display :=
  { State.reset.display with mode := m, activity := a, framesLeft := frames, fetch := fetch }

theorem witness_PageLatchShowsTheChosenPage :
    (let s := glass (screen .scroll .showing 0 (some .first));
      s.power.phase = .running ∧ s.pageList = [] ++ .household 0 :: .reserve :: [.clock] ∧
        s.pageList = [.household 0, .reserve] ++ [.clock] ∧ s.choose .first = some (.household 0) ∧
        (s.household 0).member ≠ .vacant ∧ (s.household 0).balance.natAbs / 10000 ≤ 99999 ∧
        s.choose (.after (.household 0)) = some .reserve ∧ s.reserve.last = none ∧ s.choose .held = some .clock ∧
        s.calendar.valid = false) ∧
      (serving.choose .first = some .reserve ∧
        ({ serving with display := { serving.display with reserveOn := false, clockOn := false } } : State).choose .first =
          none ∧
        (serving.household 95).member = .vacant) ∧
      (clocked ⟨2025, 3, 10, 9, 52, 10⟩ 0 false).calendar.valid = true ∧
      (1000000000 : Int).natAbs / 10000 = 99999 + 1 ∧
      (let s := glass (screen .scroll .showing 0 (some .first));
        s.startable = none ∧ s.store.deliveries = [] ∧ s.host.inService = none ∧ s.display.activity = .showing ∧
          (ledger 1 [book 1 (.due .grace) .missing]).startable ≠ none ∧ (delivered serving).store.deliveries ≠ [] ∧
          (0 : Slot) < 95 ∧ .household 95 ∈ (s.withHousehold 95 (member .active 0)).pageList ∧
          (∀ k : Slot, 0 < k → k < 95 → .household k ∉ (s.withHousehold 95 (member .active 0)).pageList) ∧
          (∀ k : Slot, 0 < k → .household k ∉ s.pageList) ∧ chartered.display.activity ≠ .off) := by decide +kernel

theorem witness_DwellsEndByTheMode :
    (∀ m, let d := screen m .showing 1 none; d.activity = .showing ∧ d.fetch = none ∧ d.mode = m ∧ d.framesLeft = 1) ∧
      (∀ m, let d := screen m .blanking 1 none; d.activity = .blanking ∧ d.mode = m ∧ d.framesLeft = 1) ∧
      (1 < (screen .scroll .showing 2 none).framesLeft ∧ State.reset.power.phase = .running) :=
  ⟨fun _ => ⟨rfl, rfl, rfl, rfl⟩, fun _ => ⟨rfl, rfl, rfl⟩, by decide⟩

theorem witness_DisplayRequestsSetAndReport :
    (ready chartered .DISPCFG [.kw .MODE, .kw .HOLD, .kw .DWELL, .num 255] ∧
      pairs readDisplay [.kw .MODE, .kw .HOLD, .kw .DWELL, .num 255] = some [(.MODE, .mode .hold), (.DWELL, .num 255)] ∧
      chartered.display.editAll [(.MODE, .mode .hold), (.DWELL, .num 255)] =
        some { chartered.display with mode := .hold, dwell := 255 } ∧
      chartered.display.editAll [(.DWELL, .num 256)] = none ∧ chartered.pageVacant [(.DWELL, .num 255)] = false ∧
      chartered.pageVacant [(.PAGE, .page (.slot 96))] = true) ∧
      ready chartered .DISPREAD [] ∧ (screen .scroll .blanking 5 none).activity = .blanking ∧
      (ready (town chartered (member .active 0)) .DISPCFG [.kw .PAGE, .num 1] ∧
        pairs readDisplay [.kw .PAGE, .num 1] = some [(.PAGE, .page (.slot 1))] ∧
        chartered.display.editAll [(.PAGE, .page (.slot 1))] = some { chartered.display with heldPage := .household 0 } ∧
        (town chartered (member .active 0)).pageVacant [(.PAGE, .page (.slot 1))] = false) :=
  ⟨⟨ready_of rfl rfl (by decide) rfl, by decide, by decide, by decide, by decide, by decide⟩,
    ready_of rfl rfl (by decide) rfl, rfl, ready_of rfl rfl (by decide) rfl, by decide, by decide, by decide⟩

/-! ### Host line and notices -/

theorem witness_RequestLinesAreReceivedAsTheyAreWritten :
    requestWellFormed .BANDSET [.num 15, .kw .ON, .days [.SAT, .SUN], .num 1439, .num 3] = true ∧
      requestWellFormed .IDENT [.other ['X', '-', '1']] = true := by decide +kernel

theorem witness_CompleteLinesTakeTheirPlaces :
    ((∀ c ∈ rx [' '], c.stopHigh = true ∧ c.code = 32) ∧ (∃ c ∈ rx ['A'], ¬(c.stopHigh = true ∧ c.code = 32)) ∧
      160 < (rx (List.replicate 161 'A')).length ∧ (rx (List.replicate 160 'A')).length ≤ 160 ∧
      (∃ c ∈ [({ code := 127, stopHigh := true } : RxChar)], c.stopHigh = false ∨ c.code.toNat < 32 ∨ 126 < c.code.toNat)) ∧
      (State.reset.host.inService = none ∧ receiveLine (rx ['J', 'S', 'T', 'A', 'T']) = some (.request .JSTAT [])) ∧
      ((busy State.reset).host.waiting = none ∧ (after (.ident []) (busy State.reset)).host.waiting ≠ none ∧
        (busy State.reset).host.inService ≠ none) ∧
      ((busy State.reset).host.inService = some { line := .bad, stage := .replying [[.kw .NO, .kw .SYNTAX]] } ∧
        (after (.ident []) (busy State.reset)).host.waiting = some (.request .IDENT [])) ∧
      (let s := after (.hostLineComplete (rx ['J', 'S', 'T', 'A', 'T'])) (delivered serving);
        s.store.deliveries ≠ [] ∧ s.host.inService = some { line := .request .JSTAT [], stage := .taken } ∧
          reachesArray .JSTAT [] = true ∧ (ledger 1 [book 1 (.due .grace) .missing]).startable ≠ none ∧
          (settling 0).settlement.computation ≠ none) ∧
      (let s := after (.resetPinRelease .service .low) (after .resetPinAssert serving);
        let line := Line.request .JSTAT [];
        s.power.phase = .starting ∧ s.host.inService = none ∧ receiveLine (rx [' ']) = none ∧
          instrOf .JSTAT [] = .jstat [] ∧ (after (.jstat []) s).host.inService = some { line := line, stage := .held } ∧
          (after (.jstat []) (after (.jstat []) s)).host.waiting = some line) := by
  decide +kernel

theorem witness_CompleteLinesAreRefusedOrTaken :
    (∃ reply, serveRequest .CLKALIGN [] State.reset = .refused reply) ∧
      ∀ reply, serveRequest .JSTAT [] State.reset ≠ .refused reply :=
  ⟨⟨_, rfl⟩, fun reply h => by
    rw [show serveRequest .JSTAT [] State.reset = .done State.reset _ from rfl] at h; cases h⟩

theorem witness_IdentStatusNoticesChrreadReport :
    (unready State.reset).serves .IDENT [] ∧ (warned State.reset).serves .STATUS [] ∧
      State.reset.serves .NOTICES [.kw .ALL] ∧ State.reset.serves .CHRREAD [.num (31 : CharterIx).val] ∧
      State.reset.serves .CHRREAD [.num 32] :=
  ⟨serves_of rfl rfl, serves_of rfl rfl, serves_of rfl rfl, serves_of rfl rfl, serves_of rfl rfl⟩

theorem witness_NotackAndNotmaskMoveAttn :
    (State.reset.serves .NOTACK [.kw .RESTARTED, .num 1] ∧
      pairs readAck [.kw .RESTARTED, .num 1] = some [(.RESTARTED, 1)] ∧ pairs readAck [] = none ∧
      (∀ p ∈ [(Kw.RESTARTED, (255 : Int))], 0 ≤ p.2 ∧ p.2 ≤ 255) ∧ ∃ p ∈ [(Kw.RESTARTED, (256 : Int))], p.2 < 0 ∨ 255 < p.2) ∧
      ready State.reset .NOTMASK [] ∧ ready State.reset .NOTMASK [.kw .ALL, .kw .OFF, .kw .SPAN, .kw .ON] ∧
      pairs readMask [.kw .ALL, .kw .OFF, .kw .SPAN, .kw .ON] = some [(.ALL, false), (.SPAN, true)] :=
  ⟨⟨serves_of rfl rfl, by decide, by decide, by decide, by decide⟩, ready_of rfl rfl (by decide) rfl,
    ready_of rfl rfl (by decide) rfl, by decide⟩

theorem reset_reserve : State.reset.reserveSound :=
  ⟨by simp only [ReserveSettings.sound]; decide, by simp only [Reserve.countersSound]; decide, by decide, nofun,
    by decide, by decide, by decide, by decide⟩

theorem witness_SettingsValuesAndBalancesStayInRange :
    let s := { chartered with pending := [.rescfg [.kw .COUNT, .num 8]] }
    s.reserveSound ∧ s.valuesSound ∧ s.limitsSound ∧ ∃ t : State, step s = .next t := by
  have plain (i : Slot) : chartered.household i = Household.wiped := reset_household i
  exact ⟨reset_reserve,
    ⟨⟨by decide +kernel, fun i c h _ => absurd (show (chartered.household i).member = _ from by rw [plain]; rfl) h,
      fun i => by revert i; decide⟩, nofun⟩,
    ⟨fun i => by
      show -140737488355327 ≤ (chartered.household i).balance ∧ (chartered.household i).balance ≤ 140737488355327
      rw [plain]; decide, by decide, by decide⟩, _, rfl⟩

/-- Notices that the model holds in State.reset are sound. -/
theorem reset_notices : State.reset.noticesSound :=
  ⟨⟨fun _ => ⟨rfl, .restarted, rfl, rfl⟩, fun _ => rfl⟩, fun n => by cases n <;> decide⟩

theorem witness_TablesQueuesAndAttnStaySound :
    let s := { State.reset with pending := [.notmask [.kw .ALL, .kw .OFF]] }
    s.subsSound ∧ s.queuesSound ∧ s.noticesSound ∧ ∃ t : State, step s = .next t :=
  ⟨⟨by decide, by decide⟩, ⟨⟨by decide, by decide⟩, by decide, by decide⟩, reset_notices, _, rfl⟩

/-! ### Charter, supply, resets -/

def programming (s : State) (p : Program) (r : Req) (args : List Tok) : State :=
  { s with
    charter := { s.charter with program := some p }
    host := { s.host with inService := some { line := .request r args, stage := .programming } } }

theorem witness_CharterProgramsComplete :
    (ready chartered .CHRPROG [.num (1 : CharterIx).val, .num (96 : Word16).toNat] ∧ chartered.locked = false ∧
      chartered.service = .commissioning ∧ (96 : Word16) &&& chartered.charter.words[(1 : CharterIx)] = 96 ∧
      ¬((if 1 ≤ 96 ∧ 96 ≤ 96 then 96 else 0) < chartered.memberCount) ∧
      (97 : Word16) &&& chartered.charter.words[(1 : CharterIx)] ≠ 97) ∧
    (let s := programming chartered (.word 1 64) .CHRPROG [.num 1, .num 64];
      s.power = { phase := .running, resetDue := none } ∧ s.charter.program = some (.word 1 64) ∧
        s.host.inService = some { line := .request .CHRPROG [.num 1, .num 64], stage := .programming }) ∧
    (ready chartered .CHRLOCK [] ∧ (∀ w : CharterIx, w < 8 → lockRange w (chartered.charterWord w) = true) ∧
      ready State.reset .CHRLOCK [] ∧ lockRange 0 (State.reset.charterWord 0) = false) ∧
    (let s := programming chartered .lock .CHRLOCK [];
      s.charter.program = some .lock ∧ s.host.inService = some { line := .request .CHRLOCK [], stage := .programming }) :=
  ⟨⟨ready_of rfl rfl (by decide) rfl, by decide, by decide, by decide, by decide +kernel, by decide⟩, ⟨rfl, rfl, rfl⟩,
    ⟨ready_of rfl rfl (by decide) rfl, by decide, ready_of rfl rfl (by decide) rfl, by decide⟩, rfl, rfl⟩

theorem witness_CharterOnlyLosesBitsAndStaysLocked :
    let s := { programming chartered (.word 1 64) .CHRPROG [] with pending := [.charterProgramCompletion] }
    s.charterSound ∧ (∃ t : State, step s = .next t) ∧ serving.locked = true :=
  ⟨fun p h => by cases h; exact ⟨by decide, fun w v k => by cases k; decide⟩, ⟨_, rfl⟩, by decide⟩

theorem witness_WipeRestoresTheDefaults :
    (town chartered (member .active 0)).serves .WIPE [] ∧ (town chartered (member .active 0)).service = .commissioning ∧
      (town chartered (member .active 0)).supply.warning = false ∧
      (town chartered (member .active 0)).display.activity = .showing ∧
      (let s := { town chartered (member .active 0) with display := { State.reset.display with activity := .off } };
        s.serves .WIPE [] ∧ s.service = .commissioning ∧ s.supply.warning = false ∧ s.display.activity ≠ .showing) :=
  ⟨serves_of rfl rfl, rfl, rfl, rfl, serves_of rfl rfl, rfl, rfl, by decide⟩

theorem witness_SupplySamplesWarnAndRecover :
    (serving.power.phase = .running ∧ serving.supply.warning = false ∧ (warned serving).supply.warning = true) ∧
      ({ serving.supply with lowRun := 3 } : Supply).lowRun = 3 ∧ ((inPass serving .guard).engine .A).pass = some (passing .guard) ∧
      ({ (warned serving).supply with goodRun := 63 } : Supply).goodRun = 63 ∧ serving.supply.lowRun < 3 ∧
      (warned serving).supply.lowRun = 4 ∧ serving.supply.goodRun < 63 := by decide

theorem witness_ResetsKeepTheArrayAndStartAnew :
    (serving.power.phase = .running ∧ serving.charter.program = none) ∧
      ((after .resetPinAssert serving).power.phase = .resetHeld ∧ (after .powerLoss serving).power.phase = .off) ∧
      (let s := after (.resetPinRelease .service .low) (after .resetPinAssert serving);
        s.power.phase = .starting ∧ s.intervalLength = some 15 ∧ s.calendar.valid = false) ∧
      (let s := { clocked ⟨2025, 3, 10, 9, 52, 10⟩ 883238 false with power := { phase := .starting, resetDue := none } };
        s.power.phase = .starting ∧ s.intervalLength = some 15 ∧ s.calendar.valid = true ∧
          s.calendar.bLast < s.calendar.now.minutes / 15) ∧
      (∀ e ∈ [StartEvent.evaluation, .catchUp], e ≠ .settling ∧ e ≠ .latch ∧ e ≠ .service) ∧
      ((after .resetPinAssert (after .powerLoss serving)).power.phase = .offHeld) ∧
      (let s := programming chartered (.word 1 64) .CHRPROG [.num 1, .num 64];
        s.power.phase = .running ∧ s.charter.program = some (.word 1 64) ∧
          (after .resetPinAssert s).power = { phase := .running, resetDue := some .held } ∧
          (after .powerLoss s).power = { phase := .running, resetDue := some .powerLost } ∧
          (after .powerLoss (after .resetPinAssert s)).power = { phase := .running, resetDue := some .powerLostHeld } ∧
          (after (.resetPinRelease .service .low) (after .resetPinAssert s)).power =
            { phase := .running, resetDue := some (.released .service .low) }) := by decide +kernel

theorem witness_TheServedRequestIsTheCommand : (serving.serves .JSTAT [] ∧ State.reset.serves .CHRLOCK []) :=
  ⟨serves_of rfl rfl, serves_of rfl rfl⟩

/-- R205, R206: a pin held through a power-on keeps the part silent until its release. -/
theorem test_pin_held_through_power_on :
    let s := after (.powerOn true .service .low) (after .resetPinAssert (after .powerLoss serving))
    s.power.phase = .resetHeld ∧ (after (.startupEnd []) s).power.phase = .resetHeld ∧
      (after (.resetPinRelease .service .low) s).power.phase = .starting := by decide +kernel

/-- R185: a delivery and a due book go before a page; the page is latched when they are served. -/
theorem test_the_array_goes_by_priority :
    let s := { delivered (ledger 1 [book 1 (.due .grace) .missing]) with
      display := { State.reset.display with fetch := some .first } }
    (after .pageLatch s).display.fetch = some .first ∧ (after .snapshotDelivery s).store.deliveries ≠ [] ∧
      (let u := after .snapshotDelivery (after .settlingStart s);
        u.store.deliveries = [] ∧ (after .pageLatch u).display.fetch = none) := by decide +kernel

/-- R1, R10, R185: CLKALIGN reads and changes nothing in the array, so it is served while a delivery waits; CLKREAD reads
b_last there (R4), so it waits. -/
theorem test_clkalign_is_served_without_waiting :
    let s := { delivered State.reset with calendar := (clocked ⟨2000, 1, 1, 0, 14, 40⟩ 0 false).calendar }
    s.store.deliveries ≠ [] ∧ (after (.clkalign []) s).calendar.aligning = true ∧
      (after (.clkalign []) s).reply = some [[.kw .OK, .kw .ALIGN]] ∧ (after (.clkread []) s).reply = none := by
  decide +kernel

/-- R206: the line received in start-up is served before the catch-up boundary event or after it, and a DUE book is taken
before it or after it. -/
theorem test_the_events_of_a_start_up_come_in_either_order :
    let s := { ledger 883237 [book 883237 (.due .grace) .missing] with
      calendar := (clocked ⟨2025, 3, 10, 9, 52, 10⟩ 883237 false).calendar
      power := { phase := .starting, resetDue := none } }
    let t := after (.hostLineComplete (rx ['C', 'L', 'K', 'R', 'E', 'A', 'D'])) s
    let told := fun order => (after (.startupEnd order) t).reply
    t.host.inService = some { line := .request .CLKREAD [], stage := .held } ∧ t.reply = none ∧
      told [.settling, .firstLine, .service] ≠ told [.settling, .catchUp, .firstLine, .service] ∧
      told [.firstLine, .service] ≠ none ∧ told [.firstLine, .service] ≠ told [.settling, .catchUp, .firstLine, .service] ∧
      ((after (.startupEnd [.settling, .catchUp]) t).settlement.computation ≠ none ∧
        (after (.startupEnd [.catchUp, .settling]) t).settlement.computation ≠ none ∧
        (after (.startupEnd [.settling]) t).calendar.bLast = 883239) := by decide +kernel

/-- R205, R206: a reset by the pin in SERVICE, with an interval passed in start-up: one boundary event of its steps. -/
theorem test_reset_catches_up :
    let s := after (.startupEnd []) (after (.resetPinRelease .service .low) (after .resetPinAssert
      { serving with calendar := (clocked ⟨2025, 3, 10, 9, 52, 10⟩ 883237 false).calendar }))
    s.calendar.bLast = 883239 ∧ s.service = .service ∧ s.store.books.map Book.boundary = [883239] ∧
      (s.notices.cell .restarted).count = 1 := by decide +kernel

end Sys2Proof.Tests
end

section
/-! The settlement journal (chapter 5): what JRELEASE refuses and what it removes. -/

namespace Sys2Proof.Machine

/-! ## The newest number held -/

theorem Journal.beyond_iff (j : Journal) (n : Nat) :
    j.beyond n = true ↔ ∃ r, j.records.getLast? = some r ∧ r.seq < n := by
  unfold Journal.beyond Journal.newest
  cases j.records.getLast? with
  | none => simp
  | some r => simp

theorem Journal.not_beyond_iff (j : Journal) (n : Nat) :
    ¬j.beyond n = true ↔ ∀ r, j.records.getLast? = some r → n ≤ r.seq := by
  simp [Journal.beyond_iff]

/-! ## JRELEASE served (R104) -/

/-- A number in the range of sequence numbers is judged by the newest held record alone. -/
theorem serveRequest_jrelease {s : State} {n : Nat} (inRange : n ≤ Config.maxSequence) (h : s.service ≠ .uncommissioned)
    (w : s.supply.warning = false) :
    serveRequest .JRELEASE [.num n] s =
      if s.journal.beyond n then refuse .RANGE
      else .done (s.withJournal (s.journal.release n)).retry
        (okLine [.nat (s.journal.records.length - (s.journal.release n).records.length),
          .nat (s.journal.release n).records.length, .nat (s.journal.release n).lineCount]) := by
  change serveJrelease [.num n] s = _
  simp [serveJrelease, State.ifWritable_of h w, natIn_of_natural, inRange]

/-- Settles O35: the newest held number decides, and each case is the service that JRELEASE gets then. -/
theorem jreleaseRemovesTheOldRecords : Obligations.JreleaseRemovesTheOldRecords := by
  unfold Obligations.JreleaseRemovesTheOldRecords
  rintro s n args rfl inRange srv commissioned writable
  have served : exec (.jrelease [.num n]) s = _ := exec_serves srv
  rw [serveRequest_jrelease inRange commissioned writable] at served
  constructor
  · intro above
    rw [served, if_pos ((s.journal.beyond_iff n).mpr above), State.finish_refuse]
  · intro notAbove
    rw [served, if_neg ((s.journal.not_beyond_iff n).mpr notAbove), State.finish_done]
    -- `release` and `retry` are the two record updates of the statement, and `okLine` writes its reply.
    rfl

end Sys2Proof.Machine
end

section
/-! The requests that report the part itself, its notices and its charter words (R186, R187, R189, R195): the reply that each
gives to each of its forms. None of them checks the service state or the warning. -/

namespace Sys2Proof.Machine

/-! ## A request that changes nothing -/

/-- A request that its block serves with no change has only its reply put into the host line. -/
theorem exec_answers {s : State} {r : Req} {args : List Tok} {reply : Reply} (srv : s.serves r args)
    (served : serveRequest r args s = .done s reply) : exec (instrOf r args) s = .next (s.answering r args reply) := by
  rw [exec_serves srv, served, State.finish_done]

/-- A request that its block refuses has only the refusal put into the host line. -/
theorem exec_refuses {s : State} {r : Req} {args : List Tok} {reason : Kw} (srv : s.serves r args)
    (served : serveRequest r args s = refuse reason) :
    exec (instrOf r args) s = .next (s.answering r args [[.kw .NO, .kw reason]]) := by
  rw [exec_serves srv, served, State.finish_refuse]

/-! ## Reply fields -/

theorem Field.nat_eq (n : Nat) : Field.nat n = .num n := rfl

theorem baudOf_cast (r : Rate) :
    (baudOf r : Int) = match r with
      | .low => 9600
      | .high => 57600 := by
  cases r <;> rfl

/-- The keyword of the charter's lock follows word 31 (R186, R194). -/
theorem State.locked_keyword (s : State) {α : Type} (a b : α) :
    (if s.locked then a else b) = if s.charterWord 31 = 0 then a else b := by
  simp [State.locked]

/-! ## The notices in the order of their names -/

theorem map_index_noticeOrder : noticeOrder.map Notice.index = List.finRange 16 := by decide

/-- The cells stand in the order in which NOTICES reports them (R188, R189). -/
theorem Notices.toList_cells (ns : Notices) : ns.cells.toList = noticeOrder.map ns.cell := by
  have inOrder : ns.cells.toList = (List.finRange 16).map fun i => ns.cells[i] := by
    apply List.ext_getElem <;> simp
  rw [inOrder, ← map_index_noticeOrder, List.map_map]
  rfl

theorem Notices.flagsSet_eq (ns : Notices) : ns.flagsSet = noticeOrder.countP fun n => (ns.cell n).flag := by
  rw [Notices.flagsSet, ns.toList_cells, List.countP_map]
  rfl

theorem Notices.setFields_eq (ns : Notices) :
    ns.setFields =
      if (noticeOrder.filter fun n => (ns.cell n).flag) = [] then [.kw .NONE]
      else (noticeOrder.filter fun n => (ns.cell n).flag).flatMap fun n => [.kw n.kw, .num (ns.cell n).count] := by
  unfold Notices.setFields
  cases noticeOrder.filter fun n => (ns.cell n).flag with
  | nil => rfl
  | cons n rest => rw [if_neg (List.cons_ne_nil n rest)]; rfl

/-! ## Charter words by number -/

@[simp] theorem charterIxOf_word (w : CharterIx) : charterIxOf 31 (w.val : Int) = some w := by
  have inRange : w.val ≤ 31 := by omega
  simp [charterIxOf, natIn_of_natural, inRange]

theorem charterIxOf_outside {n : Int} (out : n < 0 ∨ 31 < n) : charterIxOf 31 n = none := by
  have notIn : ¬((0 : Nat) ≤ n ∧ n ≤ (31 : Nat)) := by omega
  rw [charterIxOf, natIn, if_neg notIn, Option.map_none]

/-! ## Words of no form of theirs answer NO SYNTAX -/

theorem serveIdent_malformed {args : List Tok} (h : args ≠ []) (s : State) : serveIdent args s = refuse .SYNTAX := by
  cases args with
  | nil => exact absurd rfl h
  | cons t rest => rfl

theorem serveStatus_malformed {args : List Tok} (h : args ≠ []) (s : State) : serveStatus args s = refuse .SYNTAX := by
  cases args with
  | nil => exact absurd rfl h
  | cons t rest => rfl

theorem serveNotices_malformed {args : List Tok} (given : args ≠ []) (all : args ≠ [.kw .ALL]) (s : State) :
    serveNotices args s = refuse .SYNTAX := by
  unfold serveNotices
  split
  next => exact absurd rfl given
  next => exact absurd rfl all
  next => rfl

theorem serveChrread_malformed {args : List Tok} (word : ∀ n, args ≠ [.num n]) (all : args ≠ [.kw .ALL]) (s : State) :
    serveChrread args s = refuse .SYNTAX := by
  unfold serveChrread
  split
  next n => exact absurd rfl (word n)
  next => exact absurd rfl all
  next => rfl

/-! ## What each of their forms reports -/

theorem serveNotices_set (s : State) : serveNotices [] s = .done s (okLine s.notices.setFields) := rfl

theorem serveNotices_all (s : State) :
    serveNotices [.kw .ALL] s = .done s (okLines [] (noticeOrder.map s.notices.line)) := rfl

theorem serveChrread_word (w : CharterIx) (s : State) :
    serveChrread [.num w.val] s = .done s (okLine (s.charterLine w)) := by
  simp [serveChrread]

theorem serveChrread_outside {n : Int} (out : n < 0 ∨ 31 < n) (s : State) :
    serveChrread [.num n] s = refuse .RANGE := by
  simp [serveChrread, charterIxOf_outside out]

theorem serveChrread_all (s : State) :
    serveChrread [.kw .ALL] s = .done s (okLines [] ((List.finRange 32).map s.charterLine)) := rfl

/-- Settles O52: each form of the four requests gets its report or its refusal, whatever the service state and the supply. -/
theorem identStatusNoticesChrreadReport : Obligations.IdentStatusNoticesChrreadReport := by
  unfold Obligations.IdentStatusNoticesChrreadReport
  refine ⟨fun s args srv => ⟨?ident, fun other => exec_refuses srv (serveIdent_malformed other s)⟩,
    fun s args srv => ⟨?status, fun other => exec_refuses srv (serveStatus_malformed other s)⟩,
    fun s args srv => ⟨?notices, ?noticesAll,
      fun given all => exec_refuses srv (serveNotices_malformed given all s)⟩,
    fun s args srv => ⟨?word, ?outside, ?words,
      fun word all => exec_refuses srv (serveChrread_malformed word all s)⟩⟩
  case ident =>
    rintro rfl
    refine exec_answers srv ?_
    simp only [serveRequest, serveIdent, okLine, State.cooperative, Field.nat_eq, State.locked_keyword, baudOf_cast]
    -- What is left is the revision 1, a natural number in the service and an integer in the reply.
    rfl
  case status =>
    rintro rfl
    refine exec_answers srv ?_
    simp only [serveRequest, serveStatus, okLine, onOff, Field.nat_eq, Option.isSome_iff_ne_none, ne_eq, ite_not,
      Notices.flagsSet_eq]
  case notices =>
    rintro rfl
    exact exec_answers srv ((serveNotices_set s).trans (by rw [Notices.setFields_eq]; rfl))
  case noticesAll =>
    rintro rfl
    exact exec_answers srv (serveNotices_all s)
  case word =>
    rintro w rfl
    exact exec_answers srv (serveChrread_word w s)
  case outside =>
    rintro n rfl out
    exact exec_refuses srv (serveChrread_outside out s)
  case words =>
    rintro rfl
    exact exec_answers srv (serveChrread_all s)

end Sys2Proof.Machine
end

section
/-! What an operation leaves unchanged, said block by block. A frame names the blocks of the state that an operation may
change; frames of operations made one after another join, and every block that a frame does not name can be read off as an
equation. The books, the substitution table and the deliveries are blocks of their own, and so are a household's account (its
record but for the relay) and the two relay fields. Four more say no more than that an operation keeps the notices, the
queues, the household table or the substitution table sound; the last, that it keeps the keys of books of different
boundaries. -/

namespace Sys2Proof.Machine

/-- What most operations on a held book leave as it is: its boundary, its span, whether it is SETTLING, and the slots that it
concerns. -/
structure BookKey where
  boundary : Nat
  span : Nat
  settling : Bool
  concerns : Slot → Bool

def Book.key (b : Book) : BookKey :=
  { boundary := b.boundary, span := b.span, settling := b.isSettling, concerns := b.concerns }

/-- The keys of the held books, in the order held. -/
def State.bookKeys (s : State) : List BookKey := s.store.books.map Book.key

/-- No two held books have the same boundary. -/
def State.boundariesDiffer (s : State) : Prop := (s.bookKeys.map BookKey.boundary).Nodup

/-- The blocks that operations are said to leave unchanged. -/
inductive Block
  | pending | power | charter | service | supply | calendar | tariff
  | accounts | wanted | confirmed | fund | injection
  | books | subs | deliveries | counts
  | computation | deferral | journal
  | feeder (f : Feeder)
  | reserve | margin | display | host | notices
  | soundNotices | soundQueues | soundTable | soundSubs | bookKeys

/-- A block is the same in two states. -/
def Block.same : Block → State → State → Prop
  | .pending, s, t => t.pending = s.pending
  | .power, s, t => t.power = s.power
  | .charter, s, t => t.charter = s.charter
  | .service, s, t => t.service = s.service
  | .supply, s, t => t.supply = s.supply
  | .calendar, s, t => t.calendar = s.calendar
  | .tariff, s, t => t.tariff = s.tariff
  | .accounts, s, t =>
    ∀ i, t.household i =
      { s.household i with wanted := (t.household i).wanted, confirmed := (t.household i).confirmed }
  | .wanted, s, t => ∀ i, (t.household i).wanted = (s.household i).wanted
  | .confirmed, s, t => ∀ i, (t.household i).confirmed = (s.household i).confirmed
  | .fund, s, t => t.fund = s.fund
  | .injection, s, t => t.injection = s.injection
  | .books, s, t => t.store.books = s.store.books
  | .subs, s, t => t.store.subs = s.store.subs
  | .deliveries, s, t => t.store.deliveries = s.store.deliveries
  | .counts, s, t =>
    t.store.carried = s.store.carried ∧ t.store.fresh = s.store.fresh ∧ t.store.late = s.store.late
  | .computation, s, t => t.settlement.computation = s.settlement.computation
  | .deferral, s, t => t.settlement.deferral = s.settlement.deferral
  | .journal, s, t => t.journal = s.journal
  | .feeder f, s, t => t.engine f = s.engine f
  | .reserve, s, t => t.reserve = s.reserve
  | .margin, s, t => t.margin = s.margin
  | .display, s, t => t.display = s.display
  | .host, s, t => t.host = s.host
  | .notices, s, t => t.notices = s.notices
  | .soundNotices, s, t => s.noticesSound → t.noticesSound
  | .soundQueues, s, t => s.queuesSound → t.queuesSound
  | .soundTable, s, t => s.tableSound → t.tableSound
  | .soundSubs, s, t => s.subsSound → t.subsSound
  | .bookKeys, s, t => s.boundariesDiffer → t.bookKeys = s.bookKeys

/-- Only the blocks named differ between two states. -/
def Frame (bs : List Block) (s t : State) : Prop := ∀ b, b ∉ bs → b.same s t

theorem Block.same_refl (b : Block) (s : State) : b.same s s := by
  cases b <;> simp [Block.same]

theorem Block.same_trans {b : Block} {s t u : State} (h : b.same s t) (k : b.same t u) : b.same s u := by
  cases b with
  | accounts => exact fun i => by rw [k i, h i]
  | bookKeys =>
    intro differ
    have first := h differ
    exact (k (by simpa only [State.boundariesDiffer, first] using differ)).trans first
  | _ => simp_all [Block.same]

@[simp] theorem Frame.refl (bs : List Block) (s : State) : Frame bs s s := fun b _ => b.same_refl s

theorem Frame.trans {bs : List Block} {s t u : State} (h : Frame bs s t) (k : Frame bs t u) : Frame bs s u :=
  fun b n => Block.same_trans (h b n) (k b n)

/-- A frame that names more blocks says less. -/
theorem Frame.mono {bs cs : List Block} {s t : State} (h : Frame bs s t) (sub : bs ⊆ cs) : Frame cs s t :=
  fun b n => h b fun m => n (sub m)

/-- Two operations one after the other. -/
theorem Frame.andThen {as bs cs : List Block} {s t u : State} (h : Frame as s t) (k : Frame bs t u)
    (sub : as ++ bs ⊆ cs) : Frame cs s u :=
  (h.mono (List.append_subset.mp sub).1).trans (k.mono (List.append_subset.mp sub).2)

/-- A block named in a frame and the same all the same. -/
theorem Frame.without {b : Block} {bs : List Block} {s t : State} (h : Frame (b :: bs) s t) (k : b.same s t) :
    Frame bs s t := by
  intro c n
  by_cases same : c = b
  · exact same ▸ k
  · exact h c (by simp [same, n])

/-- An operation made for each item of a list. -/
theorem Frame.foldl {α : Type} {bs : List Block} {f : State → α → State} (h : ∀ s x, Frame bs s (f s x)) (l : List α)
    (s : State) : Frame bs s (l.foldl f s) := by
  induction l generalizing s with
  | nil => exact Frame.refl bs s
  | cons x l ih => exact (h s x).trans (ih (f s x))

/-! ## Reading a block off a frame -/

section
variable {bs : List Block} {s t : State} (h : Frame bs s t)
include h

theorem Frame.pending (n : .pending ∉ bs) : t.pending = s.pending := h _ n
theorem Frame.power (n : .power ∉ bs) : t.power = s.power := h _ n
theorem Frame.charter (n : .charter ∉ bs) : t.charter = s.charter := h _ n
theorem Frame.service (n : .service ∉ bs) : t.service = s.service := h _ n
theorem Frame.supply (n : .supply ∉ bs) : t.supply = s.supply := h _ n
theorem Frame.calendar (n : .calendar ∉ bs) : t.calendar = s.calendar := h _ n
theorem Frame.tariff (n : .tariff ∉ bs) : t.tariff = s.tariff := h _ n
theorem Frame.accounts (n : .accounts ∉ bs) (i : Slot) :
    t.household i = { s.household i with wanted := (t.household i).wanted, confirmed := (t.household i).confirmed } :=
  h .accounts n i
theorem Frame.wanted (n : .wanted ∉ bs) (i : Slot) : (t.household i).wanted = (s.household i).wanted :=
  h .wanted n i
theorem Frame.confirmed (n : .confirmed ∉ bs) (i : Slot) :
    (t.household i).confirmed = (s.household i).confirmed := h .confirmed n i
theorem Frame.fund (n : .fund ∉ bs) : t.fund = s.fund := h _ n
theorem Frame.injection (n : .injection ∉ bs) : t.injection = s.injection := h _ n
theorem Frame.books (n : .books ∉ bs) : t.store.books = s.store.books := h _ n
theorem Frame.subs (n : .subs ∉ bs) : t.store.subs = s.store.subs := h _ n
theorem Frame.deliveries (n : .deliveries ∉ bs) : t.store.deliveries = s.store.deliveries := h _ n
theorem Frame.computation (n : .computation ∉ bs) :
    t.settlement.computation = s.settlement.computation := h _ n
theorem Frame.deferral (n : .deferral ∉ bs) : t.settlement.deferral = s.settlement.deferral := h _ n
theorem Frame.journal (n : .journal ∉ bs) : t.journal = s.journal := h _ n
theorem Frame.engine (f : Feeder) (n : .feeder f ∉ bs) : t.engine f = s.engine f := h _ n
theorem Frame.reserve (n : .reserve ∉ bs) : t.reserve = s.reserve := h _ n
theorem Frame.margin (n : .margin ∉ bs) : t.margin = s.margin := h _ n
theorem Frame.display (n : .display ∉ bs) : t.display = s.display := h _ n
theorem Frame.host (n : .host ∉ bs) : t.host = s.host := h _ n
theorem Frame.bookKeys (n : .bookKeys ∉ bs) (k : s.boundariesDiffer) : t.bookKeys = s.bookKeys := h _ n k
theorem Frame.soundNotices (n : .soundNotices ∉ bs) (k : s.noticesSound) : t.noticesSound := h _ n k
theorem Frame.soundQueues (n : .soundQueues ∉ bs) (k : s.queuesSound) : t.queuesSound := h _ n k
theorem Frame.soundTable (n : .soundTable ∉ bs) (k : s.tableSound) : t.tableSound := h _ n k
theorem Frame.soundSubs (n : .soundSubs ∉ bs) (k : s.subsSound) : t.subsSound := h _ n k
theorem Frame.notices (n : .notices ∉ bs) : t.notices = s.notices := h _ n

/-- The fields of an account, one by one. -/
theorem Frame.member (n : .accounts ∉ bs) (i : Slot) : (t.household i).member = (s.household i).member := by
  rw [h.accounts n i]
theorem Frame.settings (n : .accounts ∉ bs) (i : Slot) :
    (t.household i).settings = (s.household i).settings := by
  rw [h.accounts n i]
theorem Frame.bases (n : .accounts ∉ bs) (i : Slot) : (t.household i).bases = (s.household i).bases := by
  rw [h.accounts n i]
theorem Frame.balance (n : .accounts ∉ bs) (i : Slot) :
    (t.household i).balance = (s.household i).balance := by
  rw [h.accounts n i]
theorem Frame.misses (n : .accounts ∉ bs) (i : Slot) : (t.household i).misses = (s.household i).misses := by
  rw [h.accounts n i]

/-- A household of which neither its account nor its relay has changed. -/
theorem Frame.household (a : .accounts ∉ bs) (w : .wanted ∉ bs) (c : .confirmed ∉ bs)
    (i : Slot) : t.household i = s.household i := by
  rw [h.accounts a i, h.wanted w i, h.confirmed c i]

theorem Frame.table (a : .accounts ∉ bs) (w : .wanted ∉ bs) (c : .confirmed ∉ bs) :
    t.table = s.table :=
  Vector.ext fun i hi => h.household a w c ⟨i, hi⟩

theorem Frame.settlement (c : .computation ∉ bs) (d : .deferral ∉ bs) :
    t.settlement = s.settlement := by
  have computation := h.computation c
  have deferral := h.deferral d
  cases k : t.settlement; cases l : s.settlement
  simp_all

theorem Frame.store (b : .books ∉ bs) (u : .subs ∉ bs) (d : .deliveries ∉ bs)
    (c : .counts ∉ bs) : t.store = s.store := by
  have books := h.books b
  have subs := h.subs u
  have deliveries := h.deliveries d
  obtain ⟨carried, fresh, late⟩ : _ ∧ _ ∧ _ := h .counts c
  cases k : t.store; cases l : s.store
  simp_all
end

/-! ## Named updates -/

section
variable (s : State)

theorem noticesSound_congr {s t : State} (notices : t.notices = s.notices) (power : t.power = s.power)
    (h : s.noticesSound) : t.noticesSound := by
  simpa only [State.noticesSound, notices, power] using h

theorem queuesSound_congr {s t : State} (engine : ∀ f, t.engine f = s.engine f) (h : s.queuesSound) :
    t.queuesSound := by
  have a : t.feederA = s.feederA := engine .A
  have b : t.feederB = s.feederB := engine .B
  simpa only [State.queuesSound, a, b] using h

theorem tableSound_congr {s t : State} (household : ∀ i, t.household i = s.household i) (h : s.tableSound) :
    t.tableSound := by
  simpa only [State.tableSound, household] using h

theorem bookKeys_congr {s t : State} (books : t.store.books = s.store.books) : t.bookKeys = s.bookKeys := by
  rw [State.bookKeys, books, State.bookKeys]

theorem subsSound_congr {s t : State} (subs : t.store.subs = s.store.subs) (h : s.subsSound) : t.subsSound := by
  simpa only [State.subsSound, subs] using h

theorem State.withPending_frame (v : List Instr) : Frame [.pending] s (s.withPending v) := by
  rintro (_ | _) n <;> simp_all [Block.same, State.engine, State.noticesSound, State.queuesSound, State.tableSound,
    State.subsSound, State.bookKeys]
theorem State.withPower_frame (v : Power) : Frame [.soundNotices, .power] s (s.withPower v) := by
  rintro (_ | _) n <;> simp_all [Block.same, State.engine, State.queuesSound, State.tableSound,
    State.subsSound, State.bookKeys]
theorem State.withCharter_frame (v : Charter) : Frame [.charter] s (s.withCharter v) := by
  rintro (_ | _) n <;> simp_all [Block.same, State.engine, State.noticesSound, State.queuesSound, State.tableSound,
    State.subsSound, State.bookKeys]
theorem State.withService_frame (v : Service) : Frame [.service] s (s.withService v) := by
  rintro (_ | _) n <;> simp_all [Block.same, State.engine, State.noticesSound, State.queuesSound, State.tableSound,
    State.subsSound, State.bookKeys]
theorem State.withSupply_frame (v : Supply) : Frame [.supply] s (s.withSupply v) := by
  rintro (_ | _) n <;> simp_all [Block.same, State.engine, State.noticesSound, State.queuesSound, State.tableSound,
    State.subsSound, State.bookKeys]
theorem State.withCalendar_frame (v : Calendar) : Frame [.calendar] s (s.withCalendar v) := by
  rintro (_ | _) n <;> simp_all [Block.same, State.engine, State.noticesSound, State.queuesSound, State.tableSound,
    State.subsSound, State.bookKeys]
theorem State.withTariff_frame (v : Tariff) : Frame [.tariff] s (s.withTariff v) := by
  rintro (_ | _) n <;> simp_all [Block.same, State.engine, State.noticesSound, State.queuesSound, State.tableSound,
    State.subsSound, State.bookKeys]
theorem State.withFund_frame (v : Int) : Frame [.fund] s (s.withFund v) := by
  rintro (_ | _) n <;> simp_all [Block.same, State.engine, State.noticesSound, State.queuesSound, State.tableSound,
    State.subsSound, State.bookKeys]
theorem State.withInjection_frame (v : Int) : Frame [.injection] s (s.withInjection v) := by
  rintro (_ | _) n <;> simp_all [Block.same, State.engine, State.noticesSound, State.queuesSound, State.tableSound,
    State.subsSound, State.bookKeys]
theorem State.withStore_frame (v : BookStore) : Frame [.soundSubs, .bookKeys, .books, .subs, .deliveries, .counts] s (s.withStore v) := by
  rintro (_ | _) n <;> simp_all [Block.same, State.engine, State.noticesSound, State.queuesSound, State.tableSound,
    State.subsSound, State.bookKeys]
theorem State.withSettlement_frame (v : Settlement) : Frame [.computation, .deferral] s (s.withSettlement v) := by
  rintro (_ | _) n <;> simp_all [Block.same, State.engine, State.noticesSound, State.queuesSound, State.tableSound,
    State.subsSound, State.bookKeys]
theorem State.withJournal_frame (v : Journal) : Frame [.journal] s (s.withJournal v) := by
  rintro (_ | _) n <;> simp_all [Block.same, State.engine, State.noticesSound, State.queuesSound, State.tableSound,
    State.subsSound, State.bookKeys]
theorem State.withReserve_frame (v : Reserve) : Frame [.reserve] s (s.withReserve v) := by
  rintro (_ | _) n <;> simp_all [Block.same, State.engine, State.noticesSound, State.queuesSound, State.tableSound,
    State.subsSound, State.bookKeys]
theorem State.withMargin_frame (v : Nat) : Frame [.margin] s (s.withMargin v) := by
  rintro (_ | _) n <;> simp_all [Block.same, State.engine, State.noticesSound, State.queuesSound, State.tableSound,
    State.subsSound, State.bookKeys]
theorem State.withDisplay_frame (v : Display) : Frame [.display] s (s.withDisplay v) := by
  rintro (_ | _) n <;> simp_all [Block.same, State.engine, State.noticesSound, State.queuesSound, State.tableSound,
    State.subsSound, State.bookKeys]
theorem State.withHost_frame (v : HostLine) : Frame [.host] s (s.withHost v) := by
  rintro (_ | _) n <;> simp_all [Block.same, State.engine, State.noticesSound, State.queuesSound, State.tableSound,
    State.subsSound, State.bookKeys]
theorem State.withNotices_frame (v : Notices) : Frame [.soundNotices, .notices] s (s.withNotices v) := by
  rintro (_ | _) n <;> simp_all [Block.same, State.engine, State.queuesSound, State.tableSound,
    State.subsSound, State.bookKeys]
end
end Sys2Proof.Machine
end

section
/-! The frame of each operation of the model, in the order of its definitions. -/

namespace Sys2Proof.Machine

variable (s : State)

/-! ## Engines, households, books, journal, notices -/

theorem queueSound.sublist {q r : List QueueEntry} (h : queueSound q) (sub : r.Sublist q) : queueSound r :=
  ⟨sub.length_le.trans h.1, h.2.sublist (sub.map _)⟩

theorem State.queuesSound_iff : s.queuesSound ↔ ∀ f, queueSound (s.engine f).queue :=
  ⟨fun h f => by cases f; exacts [h.1, h.2], fun h => ⟨h .A, h .B⟩⟩

theorem State.withEngine_queues {s : State} {f : Feeder} {e : Engine} (h : s.queuesSound) (queue : queueSound e.queue) :
    (s.withEngine f e).queuesSound := by
  rw [State.queuesSound_iff] at h ⊢
  intro g
  by_cases same : g = f
  · subst same; simpa using queue
  · simpa [State.withEngine_engine_other s (Ne.symm same) e] using h g

theorem State.withEngine_frame (f : Feeder) (e : Engine) : Frame [.soundQueues, .feeder f] s (s.withEngine f e) := by
  intro b n
  cases b with
  | feeder g =>
    have other : f ≠ g := by simpa [eq_comm] using n
    exact State.withEngine_engine_other s other e
  | soundNotices => exact noticesSound_congr (by simp) (by simp)
  | soundTable => exact tableSound_congr (by simp)
  | soundSubs => exact subsSound_congr (by simp)
  | bookKeys => exact fun _ => bookKeys_congr (by simp)
  | _ => simp_all [Block.same]

/-- An engine that loses entries of its queue, or none. -/
theorem State.withEngine_frame_queue (f : Feeder) (e : Engine) (sub : e.queue.Sublist (s.engine f).queue) :
    Frame [.feeder f] s (s.withEngine f e) :=
  (s.withEngine_frame f e).without fun h => State.withEngine_queues h ((s.queuesSound_iff.mp h f).sublist sub)

theorem State.withHousehold_frame (i : Slot) (h : Household) :
    Frame [.wanted, .confirmed, .soundTable, .accounts] s (s.withHousehold i h) := by
  rintro (_ | _) n <;> simp_all [Block.same, State.engine, State.noticesSound, State.queuesSound, State.subsSound, State.bookKeys]

/-- A record replaced by a sound one that has the settings as they were, or none. -/
theorem State.withHousehold_table {s : State} {i : Slot} {h : Household} (k : s.tableSound) (sound : h.sound)
    (settings : h.settings = none ∨ h.settings = (s.household i).settings) : (s.withHousehold i h).tableSound := by
  obtain ⟨each, distinct⟩ := k
  have source (j : Slot) (c : Settings) (held : ((s.withHousehold i h).household j).settings = some c) :
      (s.household j).settings = some c := by
    rw [State.withHousehold_household] at held
    split at held
    next same =>
      subst same
      rcases settings with none | kept
      · simp [none] at held
      · rw [← kept, held]
    next => exact held
  refine ⟨fun j => ?_, fun j k c d hc hd => distinct j k c d (source j c hc) (source k d hd)⟩
  rw [State.withHousehold_household]
  split
  · exact sound
  · exact each j

theorem State.withHousehold_wanted {s : State} {i : Slot} {h : Household} (w : h.wanted = (s.household i).wanted) :
    Block.wanted.same s (s.withHousehold i h) := by
  intro j; rw [State.withHousehold_household]; split <;> simp_all

theorem State.withHousehold_confirmed {s : State} {i : Slot} {h : Household}
    (c : h.confirmed = (s.household i).confirmed) : Block.confirmed.same s (s.withHousehold i h) := by
  intro j; rw [State.withHousehold_household]; split <;> simp_all

/-- A record written with its relay fields as they are. -/
theorem State.withHousehold_frame_account {i : Slot} {h : Household} (w : h.wanted = (s.household i).wanted)
    (c : h.confirmed = (s.household i).confirmed) : Frame [.soundTable, .accounts] s (s.withHousehold i h) :=
  ((s.withHousehold_frame i h).without (State.withHousehold_wanted w)).without (State.withHousehold_confirmed c)

theorem State.withHousehold_frame_wanted (i : Slot) (r : Relay) :
    Frame [.soundTable, .wanted] s (s.withHousehold i { s.household i with wanted := r }) := by
  intro b n
  cases b with
  | accounts => intro j; rw [State.withHousehold_household]; split <;> simp_all
  | confirmed => exact State.withHousehold_confirmed rfl
  | _ => simp_all [s.withHousehold_frame i _ _]

theorem State.withHousehold_frame_confirmed (i : Slot) (r : Option Relay) :
    Frame [.confirmed] s (s.withHousehold i { s.household i with confirmed := r }) := by
  intro b n
  cases b with
  | accounts => intro j; rw [State.withHousehold_household]; split <;> simp_all
  | wanted => exact State.withHousehold_wanted rfl
  | soundTable => exact fun k => State.withHousehold_table k (k.1 i) (.inr rfl)
  | _ => simp_all [s.withHousehold_frame i _ _]

/-- The store with other books, and no other change. -/
theorem State.withBooks_frame (books : List Book) :
    Frame [.bookKeys, .books] s (s.withStore { s.store with books := books }) := by
  rintro (_ | _) n <;> simp_all [Block.same, State.engine, State.noticesSound, State.queuesSound, State.tableSound,
    State.subsSound]

/-- The store with other books of the same keys. -/
theorem State.withBooks_frame_keys {books : List Book} (h : s.boundariesDiffer → books.map Book.key = s.bookKeys) :
    Frame [.books] s (s.withStore { s.store with books := books }) :=
  (s.withBooks_frame books).without h

theorem State.withSubs_frame (subs : List Sub) :
    Frame [.soundSubs, .subs] s (s.withStore { s.store with subs := subs }) := by
  rintro (_ | _) n <;> simp_all [Block.same, State.engine, State.noticesSound, State.queuesSound, State.tableSound,
    State.bookKeys]

/-- A substitution table that loses entries, or has their amounts or enabling changed. -/
theorem State.withSubs_frame_keys (subs : List Sub)
    (sub : (subs.map fun e => (e.slot, e.boundary)).Sublist (s.store.subs.map fun e => (e.slot, e.boundary))) :
    Frame [.subs] s (s.withStore { s.store with subs := subs }) :=
  (s.withSubs_frame subs).without fun k => ⟨by simpa using sub.length_le.trans (by simpa using k.1), k.2.sublist sub⟩

theorem State.withDeliveries_frame (ds : List Delivery) :
    Frame [.deliveries] s (s.withStore { s.store with deliveries := ds }) := by
  rintro (_ | _) n <;> simp_all [Block.same, State.engine, State.noticesSound, State.queuesSound, State.tableSound, State.subsSound, State.bookKeys]

theorem State.withCounts_frame (carried late : Nat) (fresh : Bool) :
    Frame [.counts] s (s.withStore { s.store with carried := carried, fresh := fresh, late := late }) := by
  rintro (_ | _) n <;> simp_all [Block.same, State.engine, State.noticesSound, State.queuesSound, State.tableSound, State.subsSound, State.bookKeys]

theorem State.mapBook_frame (b : Nat) (f : Book → Book) : Frame [.bookKeys, .books] s (s.mapBook b f) :=
  s.withBooks_frame _

/-- The books of different boundaries: the held book of a boundary is the only one. -/
theorem State.eq_of_boundary {s : State} (h : s.boundariesDiffer) {b k : Book} (hb : b ∈ s.store.books)
    (hk : k ∈ s.store.books) (same : k.boundary = b.boundary) : k = b := by
  rw [State.boundariesDiffer, State.bookKeys, List.map_map] at h
  exact List.inj_on_of_nodup_map h hk hb same

theorem State.bookOf_some {s : State} {n : Nat} {b : Book} (h : s.bookOf n = some b) :
    b ∈ s.store.books ∧ b.boundary = n :=
  ⟨List.mem_of_find?_eq_some h, by simpa using List.find?_some h⟩

/-- Books of a boundary changed in their state or their entries, with their keys as they were. -/
theorem State.mapBook_frame_keys {b : Nat} {f : Book → Book}
    (h : s.boundariesDiffer → ∀ k ∈ s.store.books, k.boundary = b → (f k).key = k.key) :
    Frame [.books] s (s.mapBook b f) := by
  refine s.withBooks_frame_keys fun differ => ?_
  rw [List.map_map]
  refine List.map_congr_left fun k hk => ?_
  dsimp only [Function.comp]
  split
  next same => exact h differ k hk same
  next => rfl

theorem State.record_frame (body : RecordBody) : Frame [.journal] s (s.record body) := s.withJournal_frame _

theorem State.retry_frame : Frame [.deferral] s s.retry := by
  rintro (_ | _) n <;> simp_all [Block.same, State.engine, State.noticesSound, State.queuesSound, State.tableSound, State.subsSound, State.bookKeys,
    State.retry]

theorem State.driveAttn_sound {s : State} (counts : ∀ n : Notice, (s.notices.cell n).count ≤ 255) :
    s.driveAttn.noticesSound := by
  refine ⟨?_, counts⟩
  change (s.running && s.notices.wantsAttention) = true ↔
    s.power.phase = .running ∧ ∃ n : Notice, (s.notices.cell n).flag = true ∧ (s.notices.cell n).mask = true
  simp [State.running, Notices.wantsAttention, Notices.toList_cells, mem_noticeOrder]

theorem State.driveAttn_frame : Frame [.notices] s s.driveAttn :=
  (s.withNotices_frame _).without fun h => State.driveAttn_sound h.2

theorem State.notify_frame (n : Notice) : Frame [.notices] s (s.notify n) := by
  refine ((s.withNotices_frame _).trans ((State.driveAttn_frame _).mono (by simp))).without fun h => ?_
  refine State.driveAttn_sound fun k => ?_
  have counted := s.notify_cell n k
  rw [show (s.notify n).notices.cell k = _ from State.driveAttn_cell _ k] at counted
  rw [counted]
  have := h.2 k
  split
  · exact Nat.le_of_lt_succ (Nat.mod_lt _ (by decide))
  · exact h.2 k

theorem State.notifyTimes_frame (n : Notice) (k : Nat) : Frame [.notices] s (s.notifyTimes n k) := by
  induction k generalizing s with
  | zero => exact Frame.refl _ s
  | succ k ih => exact (s.notify_frame n).trans (ih _)

/-! ## The limiter -/

theorem inQueue_iff (q : List QueueEntry) (i : Slot) : inQueue q i = true ↔ i ∈ q.map QueueEntry.slot := by
  simp [inQueue]

theorem offerTo_sound {q r : List QueueEntry} {i : Slot} {command : Relay} (h : queueSound q)
    (offered : offerTo q i command = .queued r) : queueSound r := by
  obtain ⟨short, distinct⟩ := h
  unfold offerTo at offered
  split at offered
  · cases offered
    have slots : (q.map fun e => if e.slot = i then { e with command := command } else e).map QueueEntry.slot =
        q.map QueueEntry.slot := by
      rw [List.map_map]
      exact List.map_congr_left fun e _ => by dsimp only [Function.comp]; split <;> rfl
    exact ⟨by simpa using short, slots ▸ distinct⟩
  next absent =>
    split at offered
    next room =>
      cases offered
      rw [inQueue_iff] at absent
      refine ⟨by simpa [Config.maxQueue] using room, ?_⟩
      rw [List.map_append, List.nodup_append]
      refine ⟨distinct, by simp, fun a ha b hb same => absent ?_⟩
      have other : a = i := same.trans (List.mem_singleton.mp hb)
      exact other ▸ ha
    next => cases offered

theorem State.offer_frame (f : Feeder) (i : Slot) (r : Relay) : Frame [.feeder f, .notices] s (s.offer f i r) := by
  unfold State.offer
  split
  next offered =>
    refine ((s.withEngine_frame f _).without fun h => ?_).mono (by simp)
    exact State.withEngine_queues h (offerTo_sound (s.queuesSound_iff.mp h f) offered)
  · exact (s.notify_frame _).mono (by simp)

theorem State.unqueue_frame (f : Feeder) (i : Slot) : Frame [.feeder f] s (s.unqueue f i) :=
  s.withEngine_frame_queue f _ List.filter_sublist

theorem State.want_frame (i : Slot) (c : Settings) (r : Relay) :
    Frame [.soundTable, .wanted, .feeder c.feeder, .notices] s (s.want i c r) :=
  (s.withHousehold_frame_wanted i r).andThen (State.offer_frame _ _ _ _) (by simp)

/-- The blocks that an evaluation may change: the wanted state, the queues, and the notice of a full one. -/
abbrev limiterBlocks : List Block := [.wanted, .feeder .A, .feeder .B, .notices]

theorem Feeder.eq_A_or_eq_B (f : Feeder) : f = .A ∨ f = .B := by cases f <;> simp

theorem State.want_frame_limiter (i : Slot) (c : Settings) (r : Relay) :
    Frame (.soundTable :: limiterBlocks) s (s.want i c r) :=
  (s.want_frame i c r).mono (by simp [Feeder.eq_A_or_eq_B])

/-- A wanted state written that HOLD_CLOSED allows. -/
theorem State.want_frame_sound {i : Slot} {c : Settings} {r : Relay} (held : (s.household i).settings = some c)
    (closed : c.policy = .holdClosed → r = .closed) : Frame limiterBlocks s (s.want i c r) := by
  refine (s.want_frame_limiter i c r).without fun k => ?_
  refine (State.offer_frame _ _ _ _).soundTable (by simp) ?_
  obtain ⟨vacancy, bounds⟩ := k.1 i
  refine State.withHousehold_table k ⟨vacancy, fun d hd => ?_⟩ (.inr rfl)
  cases held.symm.trans hd
  exact ⟨(bounds c held).1, (bounds c held).2.1, closed⟩

theorem State.evaluate_frame (i : Slot) : Frame limiterBlocks s (s.evaluate i) := by
  rcases s.evaluate_cases i with same | ⟨c, held, -, -, wanted⟩
  · rw [same]; exact Frame.refl _ s
  · rw [wanted]
    exact s.want_frame_sound held fun closed => by simp [State.decision, closed]

theorem State.evaluateAuto_frame : Frame limiterBlocks s s.evaluateAuto := by
  refine Frame.foldl (fun s i => ?_) _ s
  split
  · exact s.evaluate_frame i
  · exact Frame.refl _ s

theorem State.holdClosed_frame (i : Slot) : Frame limiterBlocks s (s.holdClosed i) := by
  unfold State.holdClosed
  dsimp only
  split
  · exact Frame.refl _ s
  next c held =>
    split
    · exact s.want_frame_sound held fun _ => rfl
    · exact Frame.refl _ s

/-! ## The book store -/

theorem Book.isSettling_of_isOpen {b : Book} (h : b.isOpen = true) : b.isSettling = false := by
  have opened : b.state = .opened := by simpa [Book.isOpen] using h
  simp [Book.isSettling, opened]

theorem State.testComplete_frame (b : Nat) : Frame [.books] s (s.testComplete b) := by
  refine s.mapBook_frame_keys fun _ k _ _ => ?_
  split
  next complete =>
    have opened : k.isOpen = true := by simp [State.isComplete] at complete; exact complete.1.1
    have settling := Book.isSettling_of_isOpen opened
    unfold Book.key
    rw [settling]
    rfl
  next => rfl

theorem Entry.miss_excluded (e : Entry) : e.miss = .excluded ↔ e = .excluded := by cases e <;> simp [Entry.miss]

theorem Book.closeMissing_concerns (b : Book) (c : Cause) (i : Slot) : (b.closeMissing c).concerns i = b.concerns i := by
  simp [Book.closeMissing, Book.concerns, tabulate, Entry.miss_excluded]

/-- An OPEN book closed keeps its key. -/
theorem Book.closeMissing_key {b : Book} (h : b.isOpen = true) (c : Cause) : (b.closeMissing c).key = b.key := by
  have settling := Book.isSettling_of_isOpen h
  unfold Book.key
  rw [settling, funext (b.closeMissing_concerns c)]
  rfl

theorem closeByGrace_keys (grace n : Nat) (books : List Book) :
    (closeByGrace grace n books).map Book.key = books.map Book.key := by
  unfold closeByGrace
  rw [List.map_map]
  refine List.map_congr_left fun b _ => ?_
  dsimp only [Function.comp]
  split
  next closes =>
    rw [Bool.and_eq_true] at closes
    exact Book.closeMissing_key closes.1 _
  next => rfl

theorem State.openBook_frame (len b step : Nat) :
    Frame [.bookKeys, .books, .counts, .reserve] s (s.openBook len b step) := by
  rintro (_ | _) n <;> simp_all [Block.same, State.engine, State.noticesSound, State.queuesSound, State.tableSound, State.subsSound, State.bookKeys,
    State.openBook]

theorem State.skipBoundary_frame (step : Nat) : Frame [.counts, .notices] s (s.skipBoundary step) :=
  (s.withCounts_frame _ _ _).andThen (State.notify_frame _ _) (by simp)

theorem State.boundaryAtStore_frame (len b step : Nat) :
    Frame [.bookKeys, .books, .counts, .reserve, .notices] s (s.boundaryAtStore len b step) := by
  unfold State.boundaryAtStore
  split
  · exact Frame.refl _ s
  split
  · exact (s.skipBoundary_frame step).mono (by simp)
  have closed := s.withBooks_frame (closeByGrace s.grace b s.store.books)
  dsimp only
  split
  · exact closed.andThen (State.openBook_frame _ len b step) (by simp)
  · exact closed.andThen (State.skipBoundary_frame _ step) (by simp)

theorem State.reportMark_frame (f : Feeder) (b : Nat) : Frame [.books] s (s.reportMark f b) :=
  (s.mapBook_frame_keys (f := fun b => b.reportMark f) fun _ _ _ _ => rfl).trans (State.testComplete_frame _ b)

theorem State.lateDelivery_frame : Frame [.counts] s s.lateDelivery := s.withCounts_frame _ _ _

/-- A PENDING entry replaced by one that is not EXCLUDED leaves the book its key. -/
theorem Book.fill_key {b : Book} {i : Slot} {e : Entry} (pending : b.pendingAt i = true) (filled : e ≠ .excluded) :
    ({ b with entries := b.entries.set i e } : Book).key = b.key := by
  have here : b.entries[i] = .pending := by simpa [Book.pendingAt] using pending
  unfold Book.key
  congr 1
  funext j
  simp only [Book.concerns, Fin.getElem_fin, Vector.getElem_set]
  split
  next same =>
    obtain rfl : i = j := Fin.ext same
    rw [Fin.getElem_fin] at here
    simp [here, filled]
  next => rfl

theorem Delivery.entry_filled (d : Delivery) : d.entry ≠ .excluded := by
  unfold Delivery.entry
  split <;> simp

theorem State.intake_frame (d : Delivery) : Frame [.books, .counts] s (s.intake d) := by
  unfold State.intake
  split
  · exact Frame.refl _ s
  split
  · exact s.lateDelivery_frame.mono (by simp)
  next b held =>
  split
  · exact s.lateDelivery_frame.mono (by simp)
  split
  next pending =>
    rw [Bool.and_eq_true] at pending
    have filed : Frame [.books] s
        (s.mapBook d.boundary fun b => { b with entries := b.entries.set d.slot d.entry }) := by
      refine s.mapBook_frame_keys fun differ k hk same => ?_
      obtain ⟨member, boundary⟩ := State.bookOf_some held
      obtain rfl := State.eq_of_boundary differ member hk (same.trans boundary.symm)
      exact Book.fill_key pending.1 d.entry_filled
    exact (filed.trans (State.testComplete_frame _ _)).mono (by simp)
  next => exact Frame.refl _ s

theorem State.grantDelivery_frame : Frame [.books, .counts, .deliveries] s s.grantDelivery := by
  unfold State.grantDelivery
  split
  · exact (s.withDeliveries_frame _).andThen (State.intake_frame _ _) (by simp)
  · exact Frame.refl _ s

theorem State.removeSubsAtPosting_frame (b : Book) : Frame [.subs, .notices] s (s.removeSubsAtPosting b) :=
  (s.withSubs_frame_keys _ (List.filter_sublist.map _)).andThen (State.notifyTimes_frame _ _ _) (by simp)

theorem State.removeSubsOf_frame (i : Slot) : Frame [.subs, .notices] s (s.removeSubsOf i) :=
  (s.withSubs_frame_keys _ (List.filter_sublist.map _)).andThen (State.notifyTimes_frame _ _ _) (by simp)

theorem State.orphanExchange_frame (f : Feeder) (i : Slot) : Frame [.feeder f] s (s.orphanExchange f i) :=
  s.withEngine_frame_queue f _ (by simp)

theorem State.vacate_frame (i : Slot) :
    Frame [.accounts, .subs, .feeder .A, .feeder .B, .notices] s (s.vacate i) := by
  have emptied : Frame [.accounts] s (s.withHousehold i (s.household i).vacated) :=
    (s.withHousehold_frame_account (h := (s.household i).vacated) rfl rfl).without fun k =>
      State.withHousehold_table k ⟨by simp [Household.vacated], by simp [Household.vacated]⟩ (.inl rfl)
  have dropped : Frame [.accounts, .subs, .notices] s ((s.withHousehold i (s.household i).vacated).removeSubsOf i) :=
    emptied.andThen (State.removeSubsOf_frame _ i) (by simp)
  have queues := dropped.andThen ((State.unqueue_frame _ .A i).andThen (State.unqueue_frame _ .B i) (by simp)
    (cs := [.feeder .A, .feeder .B])) (by simp) (cs := [.accounts, .subs, .feeder .A, .feeder .B, .notices])
  exact queues.trans ((State.orphanExchange_frame _ .A i).andThen (State.orphanExchange_frame _ .B i) (by simp))

/-! ## Passes and exchanges -/

/-- The offers of a pass build keep its queue sound. -/
theorem State.requeue_sound {f : Feeder} {q : List QueueEntry} (h : queueSound q) : queueSound (s.requeue f q).1 := by
  refine List.foldlRecOn (motive := fun acc : List QueueEntry × Bool => queueSound acc.1) allSlots _ h
    fun acc hacc i _ => ?_
  split
  · split
    next offered => exact offerTo_sound hacc offered
    next => exact hacc
  · exact hacc

@[simp] theorem Engine.take_queue (e : Engine) (plan : PassPlan) : (e.take plan).queue = e.queue := by
  unfold Engine.take
  split
  · rfl
  · split <;> rfl

theorem State.buildPass_frame (f : Feeder) (b : Nat) (instant : DateTime) :
    Frame [.feeder f, .notices] s (s.buildPass f b instant) := by
  unfold State.buildPass
  split
  · exact Frame.refl _ s
  have built : Frame [.feeder f] s (s.withEngine f
      ({ s.engine f with queue := (s.requeue f (s.engine f).queue).1 }.take
        { boundary := b, instant := instant, items := s.snapList f })) :=
    (s.withEngine_frame f _).without fun h =>
      State.withEngine_queues h (by simpa using s.requeue_sound (s.queuesSound_iff.mp h f))
  dsimp only
  split
  · exact built.andThen (State.notify_frame _ _) (by simp)
  · exact built.mono (by simp)

theorem State.nextSnapshot_frame (f : Feeder) (p : Pass) : Frame [.feeder f] s (s.nextSnapshot f p) := by
  unfold State.nextSnapshot
  dsimp only
  split <;> exact s.withEngine_frame_queue f _ (by simp)

theorem State.nextSupply_frame (f : Feeder) (p : Pass) : Frame [.feeder f] s (s.nextSupply f p) := by
  unfold State.nextSupply
  dsimp only
  split
  next q rest live =>
    have kept : (q :: rest).Sublist (s.engine f).queue := live ▸ List.dropWhile_sublist _
    exact s.withEngine_frame_queue f _ ((List.sublist_cons_self _ _).trans kept)
  next => exact (s.withEngine_frame_queue f _ (by simp)).trans (State.nextSnapshot_frame _ f p)

theorem State.afterWork_frame (f : Feeder) (p : Pass) {goOn : State → Pass → State}
    (h : ∀ s p, Frame [.feeder f] s (goOn s p)) : Frame [.feeder f] s (s.afterWork f p goOn) := by
  unfold State.afterWork
  split
  · exact s.withEngine_frame_queue f _ (by simp)
  split
  · exact s.withEngine_frame_queue f _ (by simp)
  · exact h s p

theorem State.afterExchange_frame (f : Feeder) (p : Pass) : Frame [.feeder f] s (s.afterExchange f p) := by
  refine s.afterWork_frame f p fun s p => ?_
  split
  · exact s.nextSupply_frame f p
  · exact s.nextSnapshot_frame f p

theorem State.confirm_frame (i : Slot) (r : Option Relay) : Frame [.confirmed] s (s.confirm i r) := by
  unfold State.confirm
  split
  · exact Frame.refl _ s
  · exact s.withHousehold_frame_confirmed i r

theorem State.failExchange_frame (f : Feeder) (p : Pass) (x : Exchange) :
    Frame [.feeder f, .confirmed, .notices] s (s.failExchange f p x) := by
  unfold State.failExchange
  refine Frame.trans ?_ ((State.afterExchange_frame _ f _).mono (by simp))
  have counted := s.withEngine_frame_queue f (s.engine f).countFailure (List.Sublist.refl _)
  have told : Frame [.feeder f, .confirmed, .notices] s
      (if (s.engine f).goesDown then (s.withEngine f (s.engine f).countFailure).notify (feederNotice f)
        else s.withEngine f (s.engine f).countFailure) := by
    split
    · exact counted.andThen (State.notify_frame _ _) (by simp)
    · exact counted.mono (by simp)
  split
  · split
    · exact told
    · exact told.trans ((State.confirm_frame _ _ _).mono (by simp))
  · exact told

theorem State.tryOver_frame (f : Feeder) (p : Pass) (x : Exchange) :
    Frame [.feeder f, .confirmed, .notices] s (s.tryOver f p x) := by
  unfold State.tryOver
  split
  · exact s.failExchange_frame f p x
  split
  · exact (s.afterExchange_frame f _).mono (by simp)
  · exact (s.withEngine_frame_queue f _ (by simp)).mono (by simp)

theorem State.deliver_frame (f : Feeder) (x : Exchange) (b : Nat) (snap : Option Snapshot) :
    Frame [.deliveries] s (s.deliver f x b snap) := by
  unfold State.deliver
  split
  · exact Frame.refl _ s
  · exact s.withDeliveries_frame _

theorem State.takeAnswer_frame (f : Feeder) (x : Exchange) (r : MeterReply) :
    Frame [.deliveries, .confirmed, .notices] s (s.takeAnswer f x r) := by
  unfold State.takeAnswer
  split
  · exact (s.deliver_frame f x _ _).andThen (State.confirm_frame _ _ _) (by simp)
  · exact (s.deliver_frame f x _ _).mono (by simp)
  · dsimp only
    split
    · exact (s.confirm_frame _ _).mono (by simp)
    · exact (s.confirm_frame _ _).andThen (State.notify_frame _ _) (by simp)
  · exact Frame.refl _ s

/-- The blocks that a frame received on a feeder may change. -/
abbrev receptionBlocks (f : Feeder) : List Block := [.feeder f, .deliveries, .confirmed, .notices]

theorem State.answerExchange_frame (f : Feeder) (p : Pass) (x : Exchange) (r : MeterReply) :
    Frame (receptionBlocks f) s (s.answerExchange f p x r) :=
  ((s.withEngine_frame_queue f (s.engine f).countAnswer (List.Sublist.refl _)).andThen (State.takeAnswer_frame _ f x r) (by simp) (cs := receptionBlocks f)).trans
    ((State.afterExchange_frame _ f p).mono (by simp))

theorem State.stillWaiting_frame (f : Feeder) : Frame [.feeder f, .confirmed, .notices] s (s.stillWaiting f) := by
  unfold State.stillWaiting
  split
  · split
    · exact s.tryOver_frame f _ _
    · exact Frame.refl _ s
  · exact Frame.refl _ s

theorem State.badFrame_frame (f : Feeder) : Frame [.feeder f] s (s.badFrame f) := s.withEngine_frame_queue f _ (by simp)

theorem State.stray_frame (f : Feeder) : Frame [.feeder f] s (s.stray f) := s.withEngine_frame_queue f _ (by simp)

theorem State.offerReply_frame (f : Feeder) (addr : Nat) (r : MeterReply) :
    Frame (receptionBlocks f) s (s.offerReply f addr r) := by
  unfold State.offerReply
  split
  · split
    · exact s.answerExchange_frame f _ _ r
    · exact (s.stray_frame f).andThen (State.stillWaiting_frame _ f) (by simp)
  · exact (s.stray_frame f).mono (by simp)

theorem State.receiveFrame_frame (l : FeederLine) (bytes : List Byte) :
    Frame (receptionBlocks l.feeder) s (s.receiveFrame l bytes) := by
  unfold State.receiveFrame
  dsimp only
  split
  · exact Frame.refl _ s
  split
  · exact (s.badFrame_frame _).andThen (State.stillWaiting_frame _ _) (by simp)
  · exact (s.stray_frame _).andThen (State.stillWaiting_frame _ _) (by simp)
  · exact s.offerReply_frame _ _ _

theorem State.idleGap_frame (l : FeederLine) : Frame [.feeder l.feeder, .confirmed, .notices] s (s.idleGap l) := by
  unfold State.idleGap
  dsimp only
  split
  · exact Frame.refl _ s
  · exact (s.badFrame_frame _).andThen (State.stillWaiting_frame _ _) (by simp)

theorem State.markSent_frame (f : Feeder) : Frame [.books, .feeder f] s (s.markSent f) := by
  unfold State.markSent
  split
  · exact Frame.refl _ s
  split
  · exact (s.reportMark_frame f _).andThen (State.afterWork_frame _ f _ fun s p => s.withEngine_frame_queue f _ (by simp)) (by simp)
  all_goals exact Frame.refl _ s

theorem State.guardEnd_frame (f : Feeder) : Frame [.feeder f] s (s.guardEnd f) := by
  unfold State.guardEnd
  split
  · exact Frame.refl _ s
  split
  · exact s.nextSupply_frame f _
  all_goals exact Frame.refl _ s

theorem State.requestSent_frame (f : Feeder) : Frame [.feeder f] s (s.requestSent f) := by
  unfold State.requestSent
  split
  · split
    · exact s.withEngine_frame_queue f _ (by simp)
    · exact Frame.refl _ s
  · exact Frame.refl _ s

theorem State.responseTimeout_frame (f : Feeder) (receiving : Bool) :
    Frame [.feeder f, .confirmed, .notices] s (s.responseTimeout f receiving) := by
  unfold State.responseTimeout
  split
  · split
    · exact Frame.refl _ s
    split
    · exact (s.withEngine_frame_queue f _ (by simp)).mono (by simp)
    · exact s.tryOver_frame f _ _
  · exact Frame.refl _ s

/-! ## Boundary events and the calendar -/

/-- The blocks that a boundary event may change. -/
abbrev boundaryBlocks : List Block :=
  [.calendar, .bookKeys, .books, .counts, .deferral, .feeder .A, .feeder .B, .reserve, .notices]

theorem State.boundaryEvent_frame (len b : Nat) : Frame boundaryBlocks s (s.boundaryEvent len b) := by
  unfold State.boundaryEvent
  dsimp only
  have dated := s.withCalendar_frame { s.calendar with bLast := b, held := false }
  have stored := dated.andThen (State.boundaryAtStore_frame _ len b (b - s.calendar.bLast)) (by simp) (cs := boundaryBlocks)
  have retried := stored.trans ((State.retry_frame _).mono (by simp))
  exact (retried.trans ((State.buildPass_frame _ .A b _).mono (by simp))).trans ((State.buildPass_frame _ .B b _).mono (by simp))

theorem State.invalidate_frame (t : DateTime) : Frame [.calendar, .notices] s (s.invalidate t) :=
  (s.withCalendar_frame _).andThen (State.notify_frame _ _) (by simp)

theorem State.checkBoundary_frame : Frame boundaryBlocks s s.checkBoundary := by
  unfold State.checkBoundary
  split
  · exact Frame.refl _ s
  split
  · exact s.boundaryEvent_frame _ _
  · exact Frame.refl _ s

theorem State.catchUp_frame : Frame boundaryBlocks s s.catchUp := by
  unfold State.catchUp
  split
  · exact Frame.refl _ s
  split
  · exact s.boundaryEvent_frame _ _
  · exact Frame.refl _ s

theorem State.completeAlignment_frame : Frame boundaryBlocks s s.completeAlignment := by
  unfold State.completeAlignment
  split
  · exact (s.withCalendar_frame _).andThen (State.checkBoundary_frame _) (by simp)
  · exact (s.invalidate_frame _).mono (by simp)

theorem State.calendarStep_frame : Frame boundaryBlocks s s.calendarStep := by
  unfold State.calendarStep
  split
  · exact Frame.refl _ s
  split
  · exact s.completeAlignment_frame
  split
  · exact (s.withCalendar_frame _).andThen (State.checkBoundary_frame _) (by simp)
  · exact (s.invalidate_frame _).mono (by simp)

theorem State.lengthProgrammed_frame (value : Nat) : Frame [.calendar] s (s.lengthProgrammed value) := by
  unfold State.lengthProgrammed
  split
  · exact Frame.refl _ s
  · exact s.withCalendar_frame _

/-! ## Settlement -/

/-- The store with other books and the engine with another computation, and no other change. -/
theorem State.withBooksAndComputation_frame (books : List Book) (c : Option Computation) :
    Frame [.bookKeys, .books, .computation] s
      ((s.withStore { s.store with books := books }).withSettlement { s.settlement with computation := c }) := by
  rintro (_ | _) n <;> simp_all [Block.same, State.engine, State.noticesSound, State.queuesSound, State.tableSound, State.subsSound, State.bookKeys]

theorem State.takeBook_frame (b : Book) (c : Cause) : Frame [.bookKeys, .books, .computation] s (s.takeBook b c) :=
  s.withBooksAndComputation_frame _ _

theorem State.startSettling_frame : Frame [.bookKeys, .books, .computation] s s.startSettling := by
  unfold State.startSettling
  split
  · exact s.takeBook_frame _ _
  · exact Frame.refl _ s

theorem State.discardComputation_frame : Frame [.bookKeys, .books, .computation, .deferral] s s.discardComputation :=
  (s.withBooks_frame _).andThen (State.withSettlement_frame _ _) (by simp)

theorem Household.settle_wanted (h : Household) (r : SlotResult) : (h.settle r).wanted = h.wanted := by
  unfold Household.settle; split <;> rfl

theorem Household.settle_confirmed (h : Household) (r : SlotResult) : (h.settle r).confirmed = h.confirmed := by
  unfold Household.settle; split <;> rfl

theorem MemberState.afterFlags_vacant (m : MemberState) (flags : List LineFlag) :
    m.afterFlags flags = .vacant ↔ m = .vacant := by
  unfold MemberState.afterFlags
  split
  · cases m <;> simp
  · split
    · cases m <;> simp
    · rfl

theorem Household.settle_settings (h : Household) (r : SlotResult) : (h.settle r).settings = h.settings := by
  unfold Household.settle; split <;> rfl

theorem Household.settle_vacant (h : Household) (r : SlotResult) : (h.settle r).member = .vacant ↔ h.member = .vacant := by
  unfold Household.settle
  split
  · rfl
  · exact MemberState.afterFlags_vacant _ _

theorem Household.settle_sound {h : Household} (k : h.sound) (r : SlotResult) : (h.settle r).sound := by
  simpa only [Household.sound, Household.settle_settings, Household.settle_vacant, Household.settle_wanted] using k

theorem State.settleSlot_frame (r : SlotResult) : Frame [.accounts, .notices] s (s.settleSlot r) := by
  have settled : Frame [.accounts, .notices] s (s.withHousehold r.slot ((s.household r.slot).settle r)) :=
    ((s.withHousehold_frame_account (Household.settle_wanted _ _) (Household.settle_confirmed _ _)).without fun k =>
      State.withHousehold_table k (Household.settle_sound (k.1 _) r) (.inr (Household.settle_settings _ r))).mono (by simp)
  have told (t : State) (n : Notice) : Frame [.accounts, .notices] t (t.notify n) := (t.notify_frame n).mono (by simp)
  unfold State.settleSlot
  dsimp only
  have faulted : Frame [.accounts, .notices] s
      (if .regression ∈ r.flags then
        (s.withHousehold r.slot ((s.household r.slot).settle r)).notify .householdFault
      else s.withHousehold r.slot ((s.household r.slot).settle r)) := by
    split
    · exact settled.trans (told _ _)
    · exact settled
  cases r.derived with
  | none => exact faulted
  | some d =>
    dsimp only
    split
    · exact faulted.trans (told _ _)
    · exact faulted

/-- The blocks that a posting may change. -/
abbrev postingBlocks : List Block :=
  [.accounts, .wanted, .fund, .bookKeys, .books, .subs, .computation, .deferral, .journal, .feeder .A, .feeder .B, .notices]

theorem State.post_frame (b : Book) (c : Computation) : Frame postingBlocks s (s.post b c) := by
  unfold State.post
  dsimp only
  refine Frame.trans ?settled (Frame.foldl (fun s i => (s.evaluate_frame i).mono (by simp)) _ _)
  refine Frame.trans ?told ((State.withSettlement_frame _ _).mono (by simp))
  refine Frame.trans ?recorded ((State.notify_frame _ _).mono (by simp))
  refine Frame.trans ?vacated ((State.record_frame _ _).mono (by simp))
  refine Frame.trans ?dropped (Frame.foldl (fun s i => (s.vacate_frame i).mono (by simp)) _ _)
  refine Frame.trans ?left ((State.removeSubsAtPosting_frame _ _).mono (by simp))
  refine Frame.trans ?funded ((State.withBooks_frame _ _).mono (by simp))
  refine Frame.trans ?moved ((State.withFund_frame _ _).mono (by simp))
  exact Frame.foldl (fun s r => (s.settleSlot_frame r).mono (by simp)) _ _

theorem State.failPosting_frame (b : Book) (d : Deferral) (n : Notice) :
    Frame [.bookKeys, .books, .computation, .deferral, .notices] s (s.failPosting b d n) :=
  ((s.mapBook_frame _ _).andThen (State.withSettlement_frame _ _) (by simp) (cs := [.bookKeys, .books, .computation, .deferral])).andThen
    (State.notify_frame _ _) (by simp)

theorem State.attemptPosting_frame : Frame postingBlocks s s.attemptPosting := by
  unfold State.attemptPosting
  split
  · exact Frame.refl _ s
  split
  · exact (s.withSettlement_frame _).mono (by simp)
  dsimp only
  split
  · exact (s.failPosting_frame _ _ _).mono (by simp)
  split
  · exact (s.failPosting_frame _ _ _).mono (by simp)
  · exact s.post_frame _ _

/-! ## The reserve watch -/

/-- The blocks that a plant frame may change. -/
abbrev watchBlocks : List Block := [.reserve, .wanted, .feeder .A, .feeder .B, .notices]

theorem State.changeCondition_frame (old new : Condition) : Frame watchBlocks s (s.changeCondition old new) := by
  unfold State.changeCondition
  dsimp only
  have changed (r : Reserve) : Frame watchBlocks s ((s.withReserve r).notify .reserve) :=
    (s.withReserve_frame r).andThen (State.notify_frame _ _) (by simp)
  split
  · exact (changed _).trans ((State.evaluateAuto_frame _).mono (by simp))
  · exact changed _

theorem State.sample_frame (c : Condition) (v : PlantValues) : Frame watchBlocks s (s.sample c v) := by
  have leaving (old : Condition) (counts : Bool) : Frame watchBlocks s (s.sampleLeaving old counts) := by
    unfold State.sampleLeaving
    dsimp only
    split
    · exact s.changeCondition_frame _ _
    · exact (s.withReserve_frame _).mono (by simp)
  cases c with
  | normal =>
    simp only [State.sample, State.sampleNormal]
    split
    · exact s.changeCondition_frame _ _
    split
    · exact s.changeCondition_frame _ _
    · exact (s.withReserve_frame _).mono (by simp)
  | scarce => exact leaving _ _
  | surplus => exact leaving _ _

theorem State.plantFrame_frame (bytes : List Byte) : Frame watchBlocks s (s.plantFrame bytes) := by
  have kept (r : Reserve) : Frame watchBlocks s (s.withReserve r) := (s.withReserve_frame r).mono (by simp)
  unfold State.plantFrame State.acceptFrame
  dsimp only
  split
  · exact kept _
  split
  · exact kept _
  split
  · exact kept _
  split
  · exact (kept _).trans ((State.notify_frame _ _).mono (by simp))
  split
  · exact kept _
  · exact (kept _).trans (State.sample_frame _ _ _)

theorem State.plantGap_frame : Frame [.reserve] s s.plantGap := s.withReserve_frame _

theorem State.goStale_frame : Frame [.reserve, .notices] s s.goStale := by
  unfold State.goStale
  split
  · exact Frame.refl _ s
  · exact (s.withReserve_frame _).andThen (State.notify_frame _ _) (by simp)

/-! ## Display, host line, supply -/

theorem State.latchPage_frame : Frame [.display] s s.latchPage := by
  unfold State.latchPage
  dsimp only
  split
  · exact Frame.refl _ s
  · exact s.withDisplay_frame _

theorem State.hold_frame (line : Line) (stage : Stage) : Frame [.host] s (s.hold line stage) := s.withHost_frame _

theorem State.takeServed_frame (line : Line) (served : Served) : Frame [.host] s (s.takeServed line served) := by
  cases served <;> exact s.hold_frame _ _

theorem State.takeLine_frame (line : Line) : Frame [.host] s (s.takeLine line) := by
  cases line with
  | request r args => exact s.takeServed_frame _ _
  | _ => exact s.hold_frame _ _

theorem State.queueLine_frame (line : Line) : Frame [.host] s (s.queueLine line) := by
  unfold State.queueLine
  split <;> exact s.withHost_frame _

theorem State.holdLine_frame (line : Line) : Frame [.host] s (s.holdLine line) := by
  unfold State.holdLine
  split
  · exact s.hold_frame _ _
  · exact s.queueLine_frame _

theorem State.offerLine_frame (line : Line) : Frame [.host] s (s.offerLine line) := by
  unfold State.offerLine
  split
  · split
    · exact s.takeLine_frame _
    · exact s.queueLine_frame _
  · exact s.holdLine_frame _
  all_goals exact Frame.refl _ s

theorem State.takeHeldLine_frame : Frame [.host] s s.takeHeldLine := by
  unfold State.takeHeldLine
  split
  · exact s.takeLine_frame _
  · exact Frame.refl _ s

theorem State.replySent_frame : Frame [.host] s s.replySent := by
  unfold State.replySent
  split
  · dsimp only
    split
    · exact (s.withHost_frame _).trans (State.takeLine_frame _ _)
    · exact s.withHost_frame _
  · exact Frame.refl _ s

theorem State.answerProgram_frame (reply : Reply) : Frame [.host] s (s.answerProgram reply) := by
  unfold State.answerProgram
  split
  · exact s.hold_frame _ _
  · exact Frame.refl _ s

/-- The blocks that the supply monitor's changes reach. -/
abbrev monitorBlocks : List Block := [.supply, .feeder .A, .feeder .B, .display, .notices]

theorem State.withFeederA_frame (e : Engine) (sub : e.queue.Sublist s.feederA.queue) :
    Frame [.feeder .A] s (s.withFeederA e) := s.withEngine_frame_queue .A e sub

theorem State.withFeederB_frame (e : Engine) (sub : e.queue.Sublist s.feederB.queue) :
    Frame [.feeder .B] s (s.withFeederB e) := s.withEngine_frame_queue .B e sub

@[simp] theorem Engine.warn_queue (e : Engine) : e.warn.queue = e.queue := by
  unfold Engine.warn
  split
  · rfl
  · split <;> rfl

@[simp] theorem Engine.halt_queue (e : Engine) : e.halt.queue = e.queue := rfl

@[simp] theorem Engine.restart_queue (e : Engine) : e.restart.queue = [] := rfl

/-- Notices that have been cleared call for nothing. -/
theorem State.cleared_sound {s : State} {ns : Notices} : (s.withNotices ns.cleared).noticesSound := by
  have cell (n : Notice) : (ns.cleared.cell n).flag = false ∧ (ns.cleared.cell n).count = 0 := by
    simp [Notices.cell, Notices.cleared, tabulate]
  have attn : ns.cleared.attn = false := rfl
  refine ⟨by simp [cell, attn], fun n => ?_⟩
  rw [State.withNotices_notices, (cell n).2]
  exact Nat.zero_le _

/-- The part's power with its phase as it was. -/
theorem State.withPower_frame_phase {v : Power} (h : v.phase = .running ↔ s.power.phase = .running) :
    Frame [.power] s (s.withPower v) :=
  (s.withPower_frame v).without fun k => by
    simpa only [State.noticesSound, State.withPower_power, State.withPower_notices, h] using k

theorem State.enterWarning_frame : Frame monitorBlocks s s.enterWarning := by
  unfold State.enterWarning
  refine Frame.trans ?dark ((State.notify_frame _ _).mono (by simp))
  refine Frame.trans ?stopped ((State.withDisplay_frame _ _).mono (by simp))
  refine Frame.trans ?warned ((State.withFeederB_frame _ _ (by simp)).mono (by simp))
  exact (s.withSupply_frame _).andThen (State.withFeederA_frame _ _ (by simp)) (by simp)

theorem State.leaveWarning_frame : Frame [.supply, .display] s s.leaveWarning :=
  (s.withSupply_frame _).andThen (State.withDisplay_frame _ _) (by simp)

theorem State.lowSample_frame : Frame monitorBlocks s s.lowSample := by
  unfold State.lowSample
  dsimp only
  split
  · exact s.enterWarning_frame
  · exact (s.withSupply_frame _).mono (by simp)

theorem State.goodSample_frame : Frame [.supply, .display] s s.goodSample := by
  unfold State.goodSample
  dsimp only
  split
  · exact s.leaveWarning_frame
  · exact (s.withSupply_frame _).mono (by simp)

/-! ## Resets and start-up -/

/-- The blocks that a reset may change. -/
abbrev haltBlocks : List Block :=
  [.power, .supply, .calendar, .bookKeys, .books, .deliveries, .computation, .deferral, .feeder .A, .feeder .B, .display, .host,
    .notices]

theorem State.halt_sound {s : State} (h : s.noticesSound) (phase : PowerPhase) : (s.halt phase).noticesSound := by
  unfold State.halt
  dsimp only
  refine State.driveAttn_sound fun n => ?_
  simp only [State.withPower_notices, State.withSupply_notices, State.withHost_notices, State.withDisplay_notices,
    State.withCalendar_notices, State.withStore_notices, (State.discardComputation_frame _).notices (by simp),
    State.withFeederB_notices, State.withFeederA_notices]
  exact h.2 n

/-- The engines halted and the computation discarded, the first parts of a reset. -/
def State.stopped (s : State) : State :=
  ((s.withFeederA s.feederA.halt).withFeederB s.feederB.halt).discardComputation

theorem State.stopped_frame : Frame [.feeder .A, .feeder .B, .bookKeys, .books, .computation, .deferral] s s.stopped :=
  ((s.withFeederA_frame _ (by simp)).andThen (State.withFeederB_frame _ _ (by simp)) (by simp)
    (cs := [.feeder .A, .feeder .B])).andThen (State.discardComputation_frame _) (by simp)

/-- The rest of a reset. -/
theorem State.halt_rest_frame (phase : PowerPhase) :
    Frame [.soundNotices, .power, .supply, .calendar, .deliveries, .display, .host, .notices] s.stopped
      (s.halt phase) := by
  unfold State.halt
  dsimp only
  refine Frame.trans ?powered ((State.driveAttn_frame _).mono (by simp))
  refine Frame.trans ?supplied ((State.withPower_frame _ _).mono (by simp))
  refine Frame.trans ?hosted ((State.withSupply_frame _ _).mono (by simp))
  refine Frame.trans ?shown ((State.withHost_frame _ _).mono (by simp))
  refine Frame.trans ?dated ((State.withDisplay_frame _ _).mono (by simp))
  exact (State.withDeliveries_frame _ _).andThen (State.withCalendar_frame _ _) (by simp)

theorem State.halt_frame (phase : PowerPhase) : Frame haltBlocks s (s.halt phase) := by
  refine Frame.without (b := .soundNotices) ?_ fun h => State.halt_sound h phase
  exact s.stopped_frame.andThen (s.halt_rest_frame phase) (by simp)

/-- The blocks that the beginning of a start-up may change. -/
abbrev startupBlocks : List Block := .service :: .counts :: .reserve :: haltBlocks

/-- The beginning of a start-up after its reset. -/
theorem State.beginStartup_rest_frame (mode : ModeStrap) (rate : Rate) :
    Frame [.soundNotices, .service, .host, .feeder .A, .feeder .B, .reserve, .counts, .notices] (s.halt .starting)
      (s.beginStartup mode rate) := by
  unfold State.beginStartup
  dsimp only
  refine Frame.trans ?late ((State.withNotices_frame _ _).mono (by simp))
  refine Frame.trans ?watch ((State.withCounts_frame _ _ _ _).mono (by simp))
  refine Frame.trans ?engineB ((State.withReserve_frame _ _).mono (by simp))
  refine Frame.trans ?engineA ((State.withFeederB_frame _ _ (by simp)).mono (by simp))
  refine Frame.trans ?hosted ((State.withFeederA_frame _ _ (by simp)).mono (by simp))
  exact (State.withService_frame _ _).andThen (State.withHost_frame _ _) (by simp)

theorem State.beginStartup_frame (mode : ModeStrap) (rate : Rate) : Frame startupBlocks s (s.beginStartup mode rate) := by
  refine Frame.without (b := .soundNotices) ?_ fun _ => State.cleared_sound
  exact (s.halt_frame .starting).andThen (s.beginStartup_rest_frame mode rate) (by simp)

theorem State.judgeCalendar_frame (held : Bool) : Frame [.calendar] s (s.judgeCalendar held) := by
  unfold State.judgeCalendar
  split
  · exact Frame.refl _ s
  · exact s.withCalendar_frame _

theorem State.powerOn_frame (held : Bool) (mode : ModeStrap) (rate : Rate) :
    Frame startupBlocks s (s.powerOn held mode rate) := by
  unfold State.powerOn
  split
  · exact (s.beginStartup_frame mode rate).trans ((State.judgeCalendar_frame _ _).mono (by simp))
  next held => exact (s.withPower_frame_phase (by simp [held])).andThen (State.judgeCalendar_frame _ _) (by simp)
  all_goals exact Frame.refl _ s

theorem State.noticesAtStart_frame : Frame [.notices] s s.noticesAtStart := by
  unfold State.noticesAtStart
  dsimp only
  split
  · exact s.notify_frame _
  · exact (s.notify_frame _).trans (State.notify_frame _ _)

theorem State.dueReset_frame : Frame startupBlocks s s.dueReset := by
  unfold State.dueReset
  split
  · exact Frame.refl _ s
  · exact (s.halt_frame _).mono (by simp)
  · exact s.beginStartup_frame _ _
  all_goals exact (s.halt_frame _).mono (by simp)

theorem State.programWord_frame (w : CharterIx) (value : Word16) :
    Frame [.charter, .calendar] s (s.programWord w value) := by
  unfold State.programWord
  dsimp only
  split
  · exact (s.withCharter_frame _).andThen (State.lengthProgrammed_frame _ _) (by simp)
  · exact (s.withCharter_frame _).mono (by simp)

theorem State.programLock_frame : Frame [.charter, .service, .counts] s s.programLock :=
  ((s.withCharter_frame _).andThen (State.withService_frame _ _) (by simp) (cs := [.charter, .service])).andThen
    (State.withCounts_frame _ _ _ _) (by simp)

theorem State.completeProgram_frame : Frame (.charter :: startupBlocks) s s.completeProgram := by
  unfold State.completeProgram
  split
  · exact (((s.programWord_frame _ _).andThen (State.answerProgram_frame _ _) (by simp) (cs := .charter :: startupBlocks))).trans
      ((State.dueReset_frame _).mono (by simp))
  · exact Frame.refl _ s

theorem State.completeLock_frame : Frame (.charter :: startupBlocks) s s.completeLock := by
  unfold State.completeLock
  split
  · exact (s.programLock_frame.andThen (State.answerProgram_frame _ _) (by simp) (cs := .charter :: startupBlocks)).trans
      ((State.dueReset_frame _).mono (by simp))
  · exact Frame.refl _ s

theorem State.assertReset_frame : Frame haltBlocks s s.assertReset := by
  unfold State.assertReset
  split
  · split
    · exact (s.withPower_frame_phase (by simp_all)).mono (by simp)
    · exact s.halt_frame _
  · exact s.halt_frame _
  · exact Frame.refl _ s
  · exact (s.withPower_frame_phase (by simp_all)).mono (by simp)
  · exact Frame.refl _ s

theorem State.releaseReset_frame (mode : ModeStrap) (rate : Rate) :
    Frame startupBlocks s (s.releaseReset mode rate) := by
  unfold State.releaseReset
  split
  · exact s.beginStartup_frame _ _
  · exact (s.withPower_frame_phase (by simp_all)).mono (by simp)
  · exact Frame.refl _ s
  · exact Frame.refl _ s
  · exact (s.withPower_frame_phase (by simp_all)).mono (by simp)

theorem State.losePower_frame : Frame haltBlocks s s.losePower := by
  unfold State.losePower
  split
  · split
    · exact (s.withPower_frame_phase (by simp_all)).mono (by simp)
    · exact s.halt_frame _
  · exact s.halt_frame _
  · exact s.halt_frame _
  · exact Frame.refl _ s
  · exact Frame.refl _ s

end Sys2Proof.Machine
end

section
/-! What serving a request can come to, said once for all 46 requests: a refusal, one of the changes listed in `Accepted` with a
reply that begins with OK, or a charter program that begins. -/

namespace Sys2Proof.Machine

/-- The blocks that WIPE may change. -/
abbrev wipeBlocks : List Block :=
  [.accounts, .wanted, .confirmed, .fund, .injection, .bookKeys, .books, .subs, .counts, .deferral, .journal, .tariff, .feeder .A,
    .feeder .B, .reserve, .margin, .display, .notices]

/-- The changes that an accepted request can make, each with the blocks that it may change and the checks that it has
passed. -/
inductive Accepted (s : State) : List Block → State → Prop
  | reports : Accepted s [] s
  | setsClock (d : DateTime) (valid : validDateTime d = true) (none : s.intervalLength = none) :
      Accepted s [.calendar] (s.setClock d)
  | givesEvent (d : DateTime) (len : Nat) (valid : validDateTime d = true) (length : s.intervalLength = some len)
      (above : s.calendar.bLast < boundaryAt len d) :
      Accepted s boundaryBlocks ((s.setClock d).boundaryEvent len (boundaryAt len d))
  | holdsClock (d : DateTime) (valid : validDateTime d = true) :
      Accepted s [.calendar, .notices]
        (((s.setClock d).withCalendar { (s.setClock d).calendar with held := true }).notify .clockHeld)
  | aligns (valid : s.calendar.valid = true) : Accepted s [.calendar] (s.withCalendar { s.calendar with aligning := true })
  | bandOn (e : BandIx) (b : Band) (sound : b.sound) : Accepted s [.tariff] (s.setBand e b)
  | bandOff (e : BandIx) : Accepted s [.tariff] (s.setBand e { s.tariff.bands[e] with used := false })
  | setsPrices (i : SetIx) (p : PriceSet) (sound : p.sound) (ceiling : p.levy ≤ s.levyCeiling) :
      Accepted s [.tariff] (s.withTariff { s.tariff with sets := s.tariff.sets.set i p })
  | enrols (i : Slot) (c : Settings) (f : Feeder) (addr cap floor : Int) (p : Policy) (shown : Bool)
      (vacant : (s.household i).member = .vacant) (limit : s.memberCount < s.householdLimit)
      (inRange : s.enrolment i f addr cap floor p shown = some c) (room : s.journal.hasRoom 1 1 = true) :
      Accepted s [.accounts, .wanted, .confirmed, .soundTable, .journal]
        ((s.withHousehold i (enrolled c)).record (.member i .enrol .enrolled))
  | edits (i : Slot) (c d : Settings) (rest : List Tok) (ps : List (Kw × EditValue))
      (read : pairs readEdit rest = some ps) (held : (s.household i).settings = some c)
      (idle : s.editBusy i c ps = false) (written : s.editAll c ps = some d)
      (free : bindingPair ps = true → s.addressTaken d.feeder d.addr i = false) :
      Accepted s [.accounts, .wanted, .confirmed, .soundTable, .feeder .A, .feeder .B, .notices] ((s.writeSettings i c d).afterEdit i ps)
  | suspends (i : Slot) (member : (s.household i).member = .enrolled ∨ (s.household i).member = .active)
      (room : s.journal.hasRoom 1 1 = true) :
      Accepted s [.accounts, .soundTable, .journal] ((s.setMember i .suspended).record (.member i .suspend .suspended))
  | enrolsAgain (i : Slot) (a : MemberAction)
      (member : (s.household i).member = .suspended ∨ (s.household i).member = .fault)
      (idle : s.settlingFor i = false) (room : s.journal.hasRoom 1 1 = true) :
      Accepted s [.accounts, .soundTable, .journal] ((s.enrolAgain i).record (.member i a .enrolled))
  | withdraws (i : Slot) (member : (s.household i).member ≠ .vacant) (clear : s.clearOfBooks i = true)
      (balance : (s.household i).balance = 0) (room : s.journal.hasRoom 1 1 = true) :
      Accepted s [.accounts, .subs, .feeder .A, .feeder .B, .notices, .journal]
        ((s.vacate i).record (.member i .withdraw .vacant))
  | leaves (i : Slot) (member : (s.household i).member ≠ .vacant) (room : s.journal.hasRoom 1 1 = true) :
      Accepted s [.accounts, .soundTable, .journal] ((s.setMember i .leaving).record (.member i .withdraw .leaving))
  | accountVacates (i : Slot) (cause : AccountCause) (amount : Int) (present : (s.household i).member ≠ .vacant)
      (vacates : s.accountVacates i ((s.household i).balance + amount) = true) (room : s.journal.hasRoom 2 2 = true) :
      Accepted s [.accounts, .injection, .subs, .feeder .A, .feeder .B, .notices, .journal, .deferral]
        (((((s.credit i amount).record (.account i cause amount ((s.household i).balance + amount))).vacate i).record
          (.member i .withdraw .vacant)).retry)
  | accounts (i : Slot) (cause : AccountCause) (amount : Int) (present : (s.household i).member ≠ .vacant)
      (limit : withinLimit ((s.household i).balance + amount) = true) (room : s.journal.hasRoom 1 1 = true) :
      Accepted s [.accounts, .injection, .wanted, .feeder .A, .feeder .B, .notices, .journal, .deferral]
        ((((s.credit i amount).record (.account i cause amount ((s.household i).balance + amount))).evaluate i).retry)
  | addsFund (amount : Int) (limit : withinLimit (s.fund + amount) = true) (room : s.journal.hasRoom 1 1 = true) :
      Accepted s [.fund, .injection, .journal, .deferral] (s.addFund amount)
  | closesNow (b : Book) (found : s.store.books.find? Book.isOpen = some b) :
      Accepted s [.books] (s.mapBook b.boundary fun k => k.closeMissing .forced)
  | replacesSub (i : Slot) (b imp exp : Nat) :
      Accepted s [.subs, .books] ((s.mapSub i b fun e => { e with imp := imp, exp := exp, enabled := true }).testComplete b)
  | addsSub (i : Slot) (b imp exp : Nat) (absent : s.subAt i b = none) (room : s.store.subs.length < Config.maxSubs) :
      Accepted s [.subs, .books]
        ((s.withStore { s.store with
          subs := s.store.subs ++ [{ slot := i, boundary := b, imp := imp, exp := exp, enabled := true }] }).testComplete b)
  | disablesSub (i : Slot) (b : Nat) : Accepted s [.subs] (s.mapSub i b fun e => { e with enabled := false })
  | clearsSub (i : Slot) (b : Nat) : Accepted s [.subs] (s.clearSub i b)
  | releases (n : Nat) : Accepted s [.journal, .deferral] (s.withJournal (s.journal.release n)).retry
  | forces (f : Feeder) (on : Bool) : Accepted s [.feeder f] (s.withEngine f ((s.engine f).force on))
  | times (f : Feeder) (timeout retries : Nat) :
      Accepted s [.feeder f] (s.withEngine f { s.engine f with timeout := timeout, retries := retries })
  | configuresWatch (ps : List (Kw × Int)) (c : ReserveSettings) (edited : s.reserve.settings.edit ps = some c)
      (legal : c.legal = true) : Accepted s [.reserve] (s.withReserve { s.reserve.clearCounters with settings := c })
  | switches (i : Slot) (c : Settings) (r : Relay) (held : (s.household i).settings = some c)
      (manual : c.policy = .manual) : Accepted s limiterBlocks (s.want i c r)
  | setsMargin (m : Nat) : Accepted s (.margin :: limiterBlocks) (s.withMargin m).evaluateAuto
  | configuresDisplay (d : Display) : Accepted s [.display] (s.withDisplay d)
  | acknowledges (ps : List (Kw × Int)) : Accepted s [.notices] (s.acknowledge ps)
  | masks (ps : List (Kw × Bool)) : Accepted s [.notices] (s.writeMasks ps)
  | wipes (service : s.service = .commissioning) : Accepted s wipeBlocks s.wipe

/-- A reply whose first line begins with OK (R184). -/
def Positive (reply : Reply) : Prop := ∃ line rest, reply = (.kw .OK :: line) :: rest

theorem positive_okLine (fields : List Field) : Positive (okLine fields) := ⟨fields, [], rfl⟩

theorem positive_okLines (opening : List Field) (lines : List ReplyLine) : Positive (okLines opening lines) :=
  ⟨opening, lines ++ [[.kw .END]], rfl⟩

/-- A program that CHRPROG or CHRLOCK may begin, with the checks that it has passed (R193, R196, R198). -/
structure Programmable (s : State) (p : Program) : Prop where
  unlocked : s.locked = false
  commissioning : s.service = .commissioning
  word : ∀ w value, p = .word w value →
    w ≠ 31 ∧ programmable s.charter.words[w] value = true ∧ s.guards w value.toNat = false

/-- What serving a request in a state can come to. -/
inductive Answer (s : State) : Served → Prop
  | refused (reply : Reply) (negative : ∃ reason rest, reply = [.kw .NO :: .kw reason :: rest]) : Answer s (.refused reply)
  | done (bs : List Block) (t : State) (reply : Reply) (accepted :
      Accepted s bs t) (positive : Positive reply) : Answer s (.done t reply)
  | programming (p : Program) (allowed : Programmable s p) : Answer s (.programming (s.program p))

section
variable {s : State}

theorem Answer.refuse (k : Kw) : Answer s (refuse k) := .refused _ ⟨k, [], rfl⟩

theorem Answer.line {bs : List Block} {t : State} (h : Accepted s bs t) (fields : List Field) : Answer s (.done t (okLine fields)) :=
  .done bs t _ h (positive_okLine fields)

theorem Answer.lines {bs : List Block} {t : State} (h : Accepted s bs t) (opening : List Field) (ls : List ReplyLine) :
    Answer s (.done t (okLines opening ls)) :=
  .done bs t _ h (positive_okLines opening ls)

theorem Answer.ifCommissioned {k : Served} (h : Answer s k) : Answer s (s.ifCommissioned k) := by
  unfold State.ifCommissioned
  split
  · exact .refuse _
  · exact h

theorem Answer.ifWritable {k : Served} (h : Answer s k) : Answer s (s.ifWritable k) := by
  refine Answer.ifCommissioned ?_
  split
  · exact .refuse _
  · exact h

theorem Answer.onSlot (n : Int) {k : Slot → Served} (h : ∀ i, Answer s (k i)) : Answer s (s.onSlot n k) := by
  refine Answer.ifWritable ?_
  split
  · exact h _
  · exact .refuse _

theorem Answer.onlySlot (args : List Tok) {k : Slot → Served} (h : ∀ i, Answer s (k i)) :
    Answer s (s.onlySlot args k) := by
  unfold State.onlySlot
  split
  · exact .onSlot _ h
  · exact .refuse _

theorem Answer.memberRecord {bs : List Block} {i : Slot} {a : MemberAction} {m : MemberState} {change : State → State}
    (h : s.journal.hasRoom 1 1 = true → Accepted s bs ((change s).record (.member i a m))) :
    Answer s (s.memberRecord i a m change) := by
  unfold State.memberRecord
  split
  next room => exact .line (h room) _
  next => exact .refuse _

theorem Answer.onSubstitution (n b : Int) {k : Slot → Nat → Served} (h : ∀ i b, Answer s (k i b)) :
    Answer s (s.onSubstitution n b k) := by
  refine Answer.ifWritable ?_
  split
  · exact h _ _
  · exact .refuse _

theorem Answer.onSub (args : List Tok) {k : Slot → Nat → Served} (h : ∀ i b, Answer s (k i b)) :
    Answer s (s.onSub args k) := by
  unfold State.onSub
  split
  · refine .onSubstitution _ _ fun i b => ?_
    split
    · exact .refuse _
    split
    · exact h i b
    · exact .refuse _
  · exact .refuse _

/-! ## Calendar and tariff -/

theorem dateTimeOf_valid {y mo d h mi sec : Int} {t : DateTime} (k : dateTimeOf y mo d h mi sec = some t) :
    validDateTime t = true := by
  unfold dateTimeOf at k
  split at k
  · dsimp only at k
    split at k
    · simp_all
    · cases k
  · cases k

theorem priceSetOf_bounds {pc pf pfs pp pps levy : Int} {p : PriceSet} (h : priceSetOf pc pf pfs pp pps levy = some p) :
    p.plantScarcity ≤ 65535 ∧ p.levy ≤ 200 := by
  unfold priceSetOf at h
  split at h
  next hpps hlevy =>
    cases h
    exact ⟨(natIn_some hpps).2.2, (natIn_some hlevy).2.2⟩
  next => cases h

theorem weekdaySet_idem (ds : List Weekday) : weekdaySet (weekdaySet ds) = weekdaySet ds :=
  List.filter_congr fun d hd => by simp [weekdaySet, hd]

theorem weekdaysOf_set {word : Tok} {ds : List Weekday} (h : weekdaysOf word = some ds) : ds = weekdaySet ds := by
  unfold weekdaysOf at h
  split at h <;> cases h
  · exact (weekdaySet_idem _).symm
  · rfl
  · rfl

theorem serveClkset_answer (args : List Tok) : Answer s (serveClkset args s) := by
  unfold serveClkset
  split
  · refine .ifWritable ?_
    split
    · exact .refuse _
    split
    next t named =>
      have valid := dateTimeOf_valid named
      unfold State.acceptClock
      dsimp only
      split
      next none => exact .line (.setsClock t valid none) _
      next len length =>
        split
        next above => exact .line (.givesEvent t len valid length above) _
        next => exact .line (.holdsClock t valid) _
    next => exact .refuse _
  · exact .refuse _

theorem serveClkalign_answer (args : List Tok) : Answer s (serveClkalign args s) := by
  unfold serveClkalign
  split
  · refine .ifWritable ?_
    split
    · exact .refuse _
    split
    · exact .refuse _
    next valid => exact .line (.aligns (by simpa using valid)) _
  · exact .refuse _

theorem serveBandset_answer (args : List Tok) : Answer s (serveBandset args s) := by
  unfold serveBandset
  split
  · split
    next ds set =>
      refine .ifWritable ?_
      unfold bandOn
      split
      next minute _ =>
        exact .line (.bandOn _ _ ⟨(natIn_some minute).2.2, weekdaysOf_set set⟩) _
      next => exact .refuse _
    next => exact .refuse _
  · refine .ifWritable ?_
    unfold bandOff
    split
    · exact .line (.bandOff _) _
    · exact .refuse _
  · exact .refuse _

theorem servePriceset_answer (args : List Tok) : Answer s (servePriceset args s) := by
  unfold servePriceset
  split
  · refine .ifWritable ?_
    split
    next named =>
      split
      next acceptable =>
        obtain ⟨plant, levy⟩ := priceSetOf_bounds named
        obtain ⟨ordered, ceiling⟩ : _ ∧ _ := by simpa [PriceSet.acceptable] using acceptable
        exact .line (.setsPrices _ _ ⟨ordered, plant, levy⟩ ceiling) _
      next => exact .refuse _
    next => exact .refuse _
  · exact .refuse _

/-! ## Households -/

theorem serveHhenrol_answer (args : List Tok) : Answer s (serveHhenrol args s) := by
  unfold serveHhenrol
  split
  · split
    · refine .onSlot _ fun i => ?_
      split
      · exact .refuse _
      next vacant =>
        split
        · exact .refuse _
        next limit =>
          split
          next c inRange =>
            exact .memberRecord fun room =>
              .enrols i c _ _ _ _ _ _ (by simpa [Household.present] using vacant) (Nat.lt_of_not_le limit) inRange room
          next => exact .refuse _
    · exact .refuse _
  · exact .refuse _

theorem serveHhedit_answer (args : List Tok) : Answer s (serveHhedit args s) := by
  unfold serveHhedit
  split
  · split
    · exact .refuse _
    next ps read =>
      refine .onSlot _ fun i => ?_
      split
      · exact .refuse _
      next c held =>
        split
        · exact .refuse _
        next idle =>
          split
          · exact .refuse _
          next d written =>
            split
            · exact .refuse _
            next free =>
              exact .line (.edits i c d _ ps read held (by simpa using idle) written (by simpa using free)) _
  · exact .refuse _

theorem serveHhsuspend_answer (args : List Tok) : Answer s (serveHhsuspend args s) := by
  refine .onlySlot _ fun i => ?_
  split
  next member => exact .memberRecord fun room => .suspends i member room
  next => exact .refuse _

theorem serveHhresume_answer (args : List Tok) : Answer s (serveHhresume args s) := by
  refine .onlySlot _ fun i => ?_
  split
  · exact .refuse _
  next member =>
    split
    · exact .refuse _
    next idle =>
      exact .memberRecord fun room =>
        .enrolsAgain i _ (.inl (by simpa using member)) (by simpa using idle) room

theorem serveHhrebase_answer (args : List Tok) : Answer s (serveHhrebase args s) := by
  refine .onlySlot _ fun i => ?_
  split
  · exact .refuse _
  next member =>
    split
    · exact .refuse _
    next idle =>
      exact .memberRecord fun room =>
        .enrolsAgain i _ (.inr (by simpa using member)) (by simpa using idle) room

theorem serveHhwithdraw_answer (args : List Tok) : Answer s (serveHhwithdraw args s) := by
  refine .onlySlot _ fun i => ?_
  dsimp only
  split
  · exact .refuse _
  next member =>
    have present : (s.household i).member ≠ .vacant := fun v => member (.inl v)
    split
    next clear =>
      obtain ⟨books, balance⟩ : s.clearOfBooks i = true ∧ (s.household i).balance = 0 := by simpa using clear
      exact .memberRecord fun room => .withdraws i present books balance room
    next => exact .memberRecord fun room => .leaves i present room

theorem accountRequest_answer (args : List Tok) (cause : AccountCause) (ok : Int → Bool) :
    Answer s (s.accountRequest args cause ok) := by
  unfold State.accountRequest
  split
  · refine .onSlot _ fun i => ?_
    split
    · exact .refuse _
    next present =>
      replace present : (s.household i).member ≠ .vacant := by simpa [Household.present] using present
      split
      · exact .refuse _
      next inRange =>
        unfold State.account
        dsimp only
        split
        next vacates =>
          split
          next room => exact .line (.accountVacates i cause _ present vacates room) _
          next => exact .refuse _
        next =>
          split
          next room => exact .line (.accounts i cause _ present (by simp_all) room) _
          next => exact .refuse _
  · exact .refuse _

theorem serveFund_answer (args : List Tok) : Answer s (serveFund args s) := by
  unfold serveFund
  split
  · refine .ifWritable ?_
    split
    · exact .refuse _
    next inRange =>
      split
      next room => exact .line (.addsFund _ (by simp_all) room) _
      next => exact .refuse _
  · exact .refuse _

/-! ## Books and substitutions -/

theorem serveClosenow_answer (args : List Tok) : Answer s (serveClosenow args s) := by
  unfold serveClosenow
  split
  · refine .ifWritable ?_
    split
    next b found => exact .line (.closesNow b found) _
    next => exact .refuse _
  · exact .refuse _

theorem serveSubset_answer (args : List Tok) : Answer s (serveSubset args s) := by
  unfold serveSubset
  split
  · refine .onSubstitution _ _ fun i b => ?_
    split
    · exact .refuse _
    split
    · exact .refuse _
    split
    · unfold State.writeSub
      split
      · exact .line (.replacesSub i b _ _) _
      next absent =>
        split
        · exact .refuse _
        next room => exact .line (.addsSub i b _ _ absent (Nat.lt_of_not_le room)) _
    · exact .refuse _
  · exact .refuse _

/-! ## Journal, feeders, watch, limiter, display, notices, charter -/

theorem serveJrelease_answer (args : List Tok) : Answer s (serveJrelease args s) := by
  unfold serveJrelease
  split
  · refine .ifWritable ?_
    split
    · split
      · exact .refuse _
      · exact .line (.releases _) _
    · exact .refuse _
  · exact .refuse _

theorem serveFdrforce_answer (args : List Tok) : Answer s (serveFdrforce args s) := by
  unfold serveFdrforce
  split
  · split
    · exact .ifCommissioned (.line (.forces _ _) _)
    · exact .refuse _
  · exact .refuse _

theorem serveFdrtiming_answer (args : List Tok) : Answer s (serveFdrtiming args s) := by
  unfold serveFdrtiming
  split
  · split
    · refine .ifWritable ?_
      split
      · exact .line (.times _ _ _) _
      · exact .refuse _
    · exact .refuse _
  · exact .refuse _

theorem serveRescfg_answer (args : List Tok) : Answer s (serveRescfg args s) := by
  unfold serveRescfg
  split
  · exact .refuse _
  · refine .ifWritable ?_
    split
    next edited =>
      split
      next legal => exact .line (.configuresWatch _ _ edited legal) _
      next => exact .refuse _
    next => exact .refuse _

theorem serveRelay_answer (args : List Tok) : Answer s (serveRelay args s) := by
  unfold serveRelay
  split
  · split
    · refine .onSlot _ fun i => ?_
      split
      next c held =>
        split
        next manual => exact .line (.switches i c _ held manual) _
        next => exact .refuse _
      next => exact .refuse _
    · exact .refuse _
  · exact .refuse _

theorem serveRlycfg_answer (args : List Tok) : Answer s (serveRlycfg args s) := by
  unfold serveRlycfg
  split
  · exact .ifCommissioned (.line .reports _)
  · refine .ifWritable ?_
    split
    · exact .line (.setsMargin _) _
    · exact .refuse _
  · exact .refuse _

theorem serveDispcfg_answer (args : List Tok) : Answer s (serveDispcfg args s) := by
  unfold serveDispcfg
  split
  · exact .refuse _
  · refine .ifWritable ?_
    split
    · exact .refuse _
    split
    · exact .refuse _
    · exact .line (.configuresDisplay _) _

theorem serveNotack_answer (args : List Tok) : Answer s (serveNotack args s) := by
  unfold serveNotack
  split
  · exact .refuse _
  split
  · exact .line (.acknowledges _) _
  · exact .refuse _

theorem serveNotmask_answer (args : List Tok) : Answer s (serveNotmask args s) := by
  unfold serveNotmask
  split
  · exact .ifCommissioned (.line .reports _)
  split
  · exact .ifWritable (.line (.masks _) _)
  · exact .refuse _

theorem charterIxOf_le {hi : Nat} {n : Int} {w : CharterIx} (small : hi < 32) (h : charterIxOf hi n = some w) :
    w.val ≤ hi := by
  obtain ⟨k, named, rfl⟩ : ∃ k, natIn 0 hi n = some k ∧ Fin.ofNat 32 k = w := by simpa [charterIxOf] using h
  have bound := (natIn_some named).2.2
  have same : k % 32 = k := Nat.mod_eq_of_lt (by omega)
  simpa [Fin.ofNat, same] using bound

theorem Answer.ifProgrammable {k : Served} (h : s.locked = false → s.service = .commissioning → Answer s k) :
    Answer s (s.ifProgrammable k) := by
  unfold State.ifProgrammable
  split
  · exact .refuse _
  next unlocked =>
    split
    · exact .refuse _
    next commissioning =>
      split
      · exact .refuse _
      · exact h (by simpa using unlocked) (by simpa using commissioning)

theorem serveChrprog_answer (args : List Tok) : Answer s (serveChrprog args s) := by
  unfold serveChrprog
  split
  · refine .ifProgrammable fun unlocked commissioning => ?_
    split
    next word value =>
      split
      next allowed =>
        refine .programming _ ⟨unlocked, commissioning, ?_⟩
        rintro w' v' same
        cases same
        obtain ⟨clears, unbroken⟩ : _ ∧ _ := by simpa using allowed
        have low := charterIxOf_le (by omega) word
        have small := (natIn_some value).2.2
        refine ⟨?_, clears, ?_⟩
        · rintro rfl
          exact absurd low (by decide)
        · rwa [BitVec.toNat_ofNat, Nat.mod_eq_of_lt (by omega)]
      next => exact .refuse _
    next => exact .refuse _
  · exact .refuse _

theorem serveChrlock_answer (args : List Tok) : Answer s (serveChrlock args s) := by
  unfold serveChrlock
  split
  · refine .ifProgrammable fun unlocked commissioning => ?_
    split
    · exact .refused _ ⟨_, _, rfl⟩
    · exact .programming _ ⟨unlocked, commissioning, by simp⟩
  · exact .refuse _

theorem serveWipe_answer (args : List Tok) : Answer s (serveWipe args s) := by
  unfold serveWipe
  split
  · split
    · exact .refuse _
    next service =>
      split
      · exact .refuse _
      · exact .line (.wipes (by simpa using service)) _
  · exact .refuse _

/-! ## Requests that only report -/

/-- What serving a request that only reports can come to: a refusal, or a reply with no change. -/
inductive Report (s : State) : Served → Prop
  | refused (k : Kw) : Report s (refuse k)
  | line (fields : List Field) : Report s (.done s (okLine fields))
  | lines (opening : List Field) (ls : List ReplyLine) : Report s (.done s (okLines opening ls))

theorem Report.answer {o : Served} (h : Report s o) : Answer s o := by
  cases h with
  | refused k => exact .refuse k
  | line fields => exact .line .reports fields
  | lines opening ls => exact .lines .reports opening ls

theorem Report.ifCommissioned {k : Served} (h : Report s k) : Report s (s.ifCommissioned k) := by
  unfold State.ifCommissioned
  split
  · exact .refused _
  · exact h

theorem serveClkread_report (args : List Tok) : Report s (serveClkread args s) := by
  unfold serveClkread
  split
  · exact .line _
  · exact .refused _

theorem serveBandread_report (args : List Tok) : Report s (serveBandread args s) := by
  unfold serveBandread
  split
  · split
    · exact .line _
    · exact .refused _
  · exact .lines _ _
  · exact .refused _

theorem servePriceread_report (args : List Tok) : Report s (servePriceread args s) := by
  unfold servePriceread
  split
  · split
    · exact .line _
    · exact .refused _
  · exact .lines _ _
  · exact .refused _

theorem serveHhread_report (args : List Tok) : Report s (serveHhread args s) := by
  unfold serveHhread
  split
  · refine .ifCommissioned ?_
    split
    · exact .line _
    · exact .refused _
  · exact .ifCommissioned (.lines _ _)
  · exact .refused _

theorem serveFundread_report (args : List Tok) : Report s (serveFundread args s) := by
  unfold serveFundread
  split
  · exact .ifCommissioned (.line _)
  · exact .refused _

theorem serveBooks_report (args : List Tok) : Report s (serveBooks args s) := by
  unfold serveBooks
  split
  · exact .ifCommissioned (.lines _ _)
  · exact .refused _

theorem serveBookread_report (args : List Tok) : Report s (serveBookread args s) := by
  unfold serveBookread
  split
  · refine .ifCommissioned ?_
    split
    · exact .lines _ _
    · exact .refused _
  · refine .ifCommissioned ?_
    split
    · exact .refused _
    split
    · exact .line _
    · exact .refused _
  · exact .refused _

theorem serveSubread_report (args : List Tok) : Report s (serveSubread args s) := by
  unfold serveSubread
  split
  · exact .ifCommissioned (.lines _ _)
  · exact .refused _

theorem readRecord_report (r : Option JournalRecord) : Report s (s.readRecord r) := by
  cases r with
  | some r => exact .lines _ _
  | none => exact .refused _

theorem serveJread_report (args : List Tok) : Report s (serveJread args s) := by
  unfold serveJread
  split
  · refine .ifCommissioned ?_
    split
    · exact readRecord_report _
    · exact .refused _
  · exact .ifCommissioned (readRecord_report _)
  · exact .refused _

theorem serveJstat_report (args : List Tok) : Report s (serveJstat args s) := by
  unfold serveJstat
  split
  · exact .ifCommissioned (.line _)
  · exact .refused _

theorem serveFeeder_report (args : List Tok) : Report s (serveFeeder args s) := by
  unfold serveFeeder
  split
  · exact .ifCommissioned (.lines _ _)
  · split
    · exact .ifCommissioned (.line _)
    · exact .refused _
  · split
    · exact .ifCommissioned (.lines _ _)
    · exact .refused _
  · exact .refused _

theorem serveResread_report (args : List Tok) : Report s (serveResread args s) := by
  unfold serveResread
  split
  · exact .ifCommissioned (.line _)
  · exact .ifCommissioned (.line _)
  · exact .refused _

theorem serveDispread_report (args : List Tok) : Report s (serveDispread args s) := by
  unfold serveDispread
  split
  · exact .ifCommissioned (.line _)
  · exact .refused _

theorem serveIdent_report (args : List Tok) : Report s (serveIdent args s) := by
  unfold serveIdent
  split
  · exact .line _
  · exact .refused _

theorem serveStatus_report (args : List Tok) : Report s (serveStatus args s) := by
  unfold serveStatus
  split
  · exact .line _
  · exact .refused _

theorem serveNotices_report (args : List Tok) : Report s (serveNotices args s) := by
  unfold serveNotices
  split
  · exact .line _
  · exact .lines _ _
  · exact .refused _

theorem serveChrread_report (args : List Tok) : Report s (serveChrread args s) := by
  unfold serveChrread
  split
  · split
    · exact .line _
    · exact .refused _
  · exact .lines _ _
  · exact .refused _

/-- A request that only reports makes no change (00, Requests at a glance). -/
theorem serveRequest_report {r : Req} (h : r ∈ readingRequests) (args : List Tok) : Report s (serveRequest r args s) := by
  have each : ∀ r ∈ readingRequests, Report s (serveRequest r args s) := by
    simp only [readingRequests, List.forall_mem_cons, serveRequest]
    exact ⟨serveClkread_report _, serveBandread_report _, servePriceread_report _, serveHhread_report _,
      serveFundread_report _, serveBooks_report _, serveBookread_report _, serveSubread_report _, serveJread_report _,
      serveJstat_report _, serveFeeder_report _, serveResread_report _, serveDispread_report _, serveIdent_report _,
      serveStatus_report _, serveNotices_report _, serveChrread_report _, by simp⟩
  exact each r h

/-- What serving any request can come to (R182, R183, R196). -/
theorem serveRequest_answer (r : Req) (args : List Tok) : Answer s (serveRequest r args s) := by
  by_cases reads : r ∈ readingRequests
  · exact (serveRequest_report reads args).answer
  cases r with
  | CLKSET => exact serveClkset_answer args
  | CLKALIGN => exact serveClkalign_answer args
  | BANDSET => exact serveBandset_answer args
  | PRICESET => exact servePriceset_answer args
  | HHENROL => exact serveHhenrol_answer args
  | HHEDIT => exact serveHhedit_answer args
  | HHSUSPEND => exact serveHhsuspend_answer args
  | HHRESUME => exact serveHhresume_answer args
  | HHREBASE => exact serveHhrebase_answer args
  | HHWITHDRAW => exact serveHhwithdraw_answer args
  | TOPUP => exact accountRequest_answer args _ _
  | ADJUST => exact accountRequest_answer args _ _
  | FUND => exact serveFund_answer args
  | CLOSENOW => exact serveClosenow_answer args
  | SUBSET => exact serveSubset_answer args
  | SUBOFF => exact .onSub args fun i b => .line (.disablesSub i b) _
  | SUBCLR => exact .onSub args fun i b => .line (.clearsSub i b) _
  | JRELEASE => exact serveJrelease_answer args
  | FDRFORCE => exact serveFdrforce_answer args
  | FDRTIMING => exact serveFdrtiming_answer args
  | RESCFG => exact serveRescfg_answer args
  | RELAY => exact serveRelay_answer args
  | RLYCFG => exact serveRlycfg_answer args
  | DISPCFG => exact serveDispcfg_answer args
  | NOTACK => exact serveNotack_answer args
  | NOTMASK => exact serveNotmask_answer args
  | CHRPROG => exact serveChrprog_answer args
  | CHRLOCK => exact serveChrlock_answer args
  | WIPE => exact serveWipe_answer args
  | _ => exact absurd (by simp [readingRequests]) reads

end

end Sys2Proof.Machine
end

section
/-! A step seen from outside: every command answers a next state; the blocks that each command may change; and the scheme by
which a property of the state is shown to be kept by every step. -/

namespace Sys2Proof.Machine

/-! ## Every command answers a next state -/

/-- The state in which a command leaves the part. -/
def next (c : Instr) (s : State) : State :=
  match exec c s with
  | .next t => t
  | .fault _ => s
  | .refused _ => s

theorem exec_eq_next (c : Instr) (s : State) : exec c s = .next (next c s) := by cases c <;> rfl

theorem exec_next_iff {c : Instr} {s t : State} : exec c s = .next t ↔ t = next c s := by
  rw [exec_eq_next, Host.Outcome.next.injEq, eq_comm]

theorem next_instrOf (r : Req) (args : List Tok) (s : State) :
    next (instrOf r args) s = s.requestCommand r args (serveRequest r args s) :=
  (exec_next_iff.mp (exec_instrOf r args s)).symm

theorem eq_instrOf {c : Instr} {r : Req} {args : List Tok} (h : c.request = some (r, args)) : c = instrOf r args := by
  cases c <;> cases h <;> rfl

/-! ## The blocks that a command may change -/

/-- Every block. -/
abbrev everyBlock : List Block :=
  [.pending, .power, .charter, .service, .supply, .calendar, .tariff, .accounts, .wanted, .confirmed, .fund, .injection,
    .bookKeys, .books, .subs, .deliveries, .counts, .computation, .deferral, .journal, .feeder .A, .feeder .B, .reserve, .margin,
    .display, .host, .notices, .soundNotices, .soundQueues, .soundTable,
    .soundSubs]

/-- The blocks that an event may change; of a request and of STARTUP_END it says nothing but that the queue is kept. -/
def eventBlocks : Instr → List Block
  | .charterProgramCompletion => .charter :: startupBlocks
  | .lockCompletion => .charter :: startupBlocks
  | .hostLineComplete _ => [.host]
  | .replySent => [.host]
  | .calendarStep => boundaryBlocks
  | .alignmentCompletion => boundaryBlocks
  | .markSent f => [.books, .feeder f]
  | .guardEnd f => [.feeder f]
  | .responseTimeout f _ => [.feeder f, .confirmed, .notices]
  | .feederFrameReceived l _ => receptionBlocks l.feeder
  | .feederIdleGap l => [.feeder l.feeder, .confirmed, .notices]
  | .snapshotDelivery => [.books, .counts, .deliveries]
  | .settlingStart => [.bookKeys, .books, .computation]
  | .postingAttempt => postingBlocks
  | .plantFrameReceived _ => watchBlocks
  | .plantIdleGap => [.reserve]
  | .staleTimerExpiry => [.reserve, .notices]
  | .dwellEnd => [.display]
  | .blankDwellEnd => [.display]
  | .pageLatch => [.display]
  | .supplyWarning => monitorBlocks
  | .supplyGood => [.supply, .display]
  | .resetPinAssert => haltBlocks
  | .resetPinRelease _ _ => startupBlocks
  | .powerLoss => haltBlocks
  | .powerOn _ _ _ => startupBlocks
  | .vddSample _ => monitorBlocks
  | .frameEnd => [.display]
  | .requestSent f => [.feeder f]
  | _ => everyBlock

theorem Frame.every (s t : State) : Frame everyBlock s t := by
  intro b n
  cases b with
  | feeder f => cases f <;> simp at n
  | _ => simp at n

theorem Frame.whileRunning {bs : List Block} {f : State → State} (h : ∀ s, Frame bs s (f s)) (s : State) :
    Frame bs s (whileRunning f s) := by
  rcases whileRunning_cases f s with ⟨-, acts⟩ | ⟨-, idles⟩
  · rw [acts]; exact h s
  · rw [idles]; exact Frame.refl bs s

theorem Frame.atGrant {bs : List Block} {access : State → State} (h : ∀ s, Frame bs s (access s)) (r : Requester)
    (ended : Bool) (s : State) : Frame bs s (s.atGrant r ended access) := by
  rcases s.atGrant_cases r ended access with acts | idles
  · rw [acts]; exact h s
  · rw [idles]; exact Frame.refl bs s

theorem next_frame (c : Instr) (s : State) : Frame (eventBlocks c) s (next c s) := by
  cases c with
  | charterProgramCompletion => exact .whileRunning State.completeProgram_frame s
  | lockCompletion => exact .whileRunning State.completeLock_frame s
  | hostLineComplete chars =>
    change Frame [.host] s (match receiveLine chars with
      | some line => s.offerLine line
      | none => s)
    split
    · exact s.offerLine_frame _
    · exact Frame.refl _ s
  | replySent => exact .whileRunning State.replySent_frame s
  | calendarStep => exact s.calendarStep_frame
  | alignmentCompletion =>
    refine .whileRunning (f := fun s => if s.calendar.valid && s.calendar.aligning then s.completeAlignment else s)
      (fun s => ?_) s
    split
    · exact s.completeAlignment_frame
    · exact Frame.refl _ s
  | markSent f => exact .whileRunning (fun s => s.markSent_frame f) s
  | guardEnd f => exact .whileRunning (fun s => s.guardEnd_frame f) s
  | responseTimeout f receiving => exact .whileRunning (fun s => s.responseTimeout_frame f receiving) s
  | feederFrameReceived l bytes => exact .whileRunning (fun s => s.receiveFrame_frame l bytes) s
  | feederIdleGap l => exact .whileRunning (fun s => s.idleGap_frame l) s
  | snapshotDelivery => exact .whileRunning (.atGrant State.grantDelivery_frame _ _) s
  | settlingStart => exact .whileRunning (.atGrant State.startSettling_frame _ _) s
  | postingAttempt => exact .whileRunning (.atGrant State.attemptPosting_frame _ _) s
  | plantFrameReceived bytes => exact .whileRunning (fun s => s.plantFrame_frame bytes) s
  | plantIdleGap => exact .whileRunning State.plantGap_frame s
  | staleTimerExpiry => exact .whileRunning State.goStale_frame s
  | dwellEnd => exact .whileRunning (fun s => s.withDisplay_frame _) s
  | blankDwellEnd => exact .whileRunning (fun s => s.withDisplay_frame _) s
  | pageLatch => exact .whileRunning (.atGrant State.latchPage_frame _ _) s
  | supplyWarning =>
    refine .whileRunning (f := fun s => if s.supply.warning then s else s.enterWarning) (fun s => ?_) s
    split
    · exact Frame.refl _ s
    · exact s.enterWarning_frame
  | supplyGood =>
    refine .whileRunning (f := fun s => if s.supply.warning then s.leaveWarning else s) (fun s => ?_) s
    split
    · exact s.leaveWarning_frame
    · exact Frame.refl _ s
  | resetPinAssert => exact s.assertReset_frame
  | resetPinRelease mode rate => exact s.releaseReset_frame mode rate
  | powerLoss => exact s.losePower_frame
  | powerOn held mode rate => exact s.powerOn_frame held mode rate
  | vddSample low =>
    refine .whileRunning (f := fun s => if low then s.lowSample else s.goodSample) (fun s => ?_) s
    split
    · exact s.lowSample_frame
    · exact s.goodSample_frame.mono (by simp) (cs := monitorBlocks)
  | frameEnd => exact .whileRunning (fun s => s.withDisplay_frame _) s
  | requestSent f => exact .whileRunning (fun s => s.requestSent_frame f) s
  | _ => exact Frame.every _ _

/-! ## The blocks that a request may change -/

theorem State.writeSettings_frame (s : State) (i : Slot) (c d : Settings) :
    Frame [.accounts, .confirmed, .soundTable, .feeder c.feeder] s (s.writeSettings i c d) := by
  have kept (h : Household) (w : h.wanted = (s.household i).wanted) :
      Frame [.confirmed, .soundTable, .accounts] s (s.withHousehold i h) :=
    (s.withHousehold_frame i h).without (State.withHousehold_wanted w)
  unfold State.writeSettings
  dsimp only
  split
  · exact (kept { s.household i with settings := some d, confirmed := none } rfl).andThen (State.unqueue_frame _ _ _) (by simp)
  · exact (kept { s.household i with settings := some d } rfl).mono (by simp)

theorem State.afterEdit_frame (s : State) (i : Slot) (ps : List (Kw × EditValue)) :
    Frame limiterBlocks s (s.afterEdit i ps) := by
  have closed : Frame limiterBlocks s (if given ps .POLICY = some (.policy .holdClosed) then s.holdClosed i else s) := by
    split
    · exact s.holdClosed_frame i
    · exact Frame.refl _ s
  unfold State.afterEdit
  dsimp only
  split
  · exact closed.trans (State.evaluate_frame _ i)
  · exact closed

theorem State.setMember_frame (s : State) (i : Slot) (m : MemberState) :
    Frame [.soundTable, .accounts] s (s.setMember i m) :=
  s.withHousehold_frame_account rfl rfl

theorem State.enrolAgain_frame (s : State) (i : Slot) : Frame [.soundTable, .accounts] s (s.enrolAgain i) :=
  s.withHousehold_frame_account rfl rfl

theorem State.credit_frame (s : State) (i : Slot) (amount : Int) : Frame [.accounts, .injection] s (s.credit i amount) :=
  ((s.withHousehold_frame_account (i := i)
    (h := { s.household i with balance := (s.household i).balance + amount }) rfl rfl).without
      fun k => State.withHousehold_table k (k.1 i) (.inr rfl)).andThen (State.withInjection_frame _ _) (by simp)

theorem State.addFund_frame (s : State) (amount : Int) :
    Frame [.fund, .injection, .journal, .deferral] s (s.addFund amount) := by
  unfold State.addFund
  refine Frame.trans ?recorded ((State.retry_frame _).mono (by simp))
  refine Frame.trans ?injected ((State.record_frame _ _).mono (by simp))
  exact (s.withFund_frame _).andThen (State.withInjection_frame _ _) (by simp)

@[simp] theorem Notices.mapCells_cell (ns : Notices) (f : Notice → NoticeCell → NoticeCell) (n : Notice) :
    (ns.mapCells f).cell n = f n (ns.cell n) := by
  have named : noticeOrder[n.index.val]? = some n := by cases n <;> rfl
  simp [Notices.mapCells, Notices.cell, tabulate, named]

/-- Cells rewritten with their counts as they are, and ATTN driven. -/
theorem State.mapCells_frame (s : State) (f : Notice → NoticeCell → NoticeCell) (h : ∀ n c, (f n c).count = c.count) :
    Frame [.notices] s (s.withNotices (s.notices.mapCells f)).driveAttn := by
  refine ((s.withNotices_frame _).trans ((State.driveAttn_frame _).mono (by simp))).without fun k => ?_
  exact State.driveAttn_sound fun n => by simpa [h] using k.2 n

theorem State.acknowledge_frame (s : State) (ps : List (Kw × Int)) : Frame [.notices] s (s.acknowledge ps) :=
  s.mapCells_frame _ fun n c => by unfold NoticeCell.judge; split <;> rfl

theorem State.writeMasks_frame (s : State) (ps : List (Kw × Bool)) : Frame [.notices] s (s.writeMasks ps) :=
  s.mapCells_frame _ fun _ _ => rfl

theorem State.wipeAccounts_frame (s : State) : Frame wipeBlocks s s.wipeAccounts := by
  have store (t : State) (h : t.store = s.store) : Frame [.bookKeys, .books, .subs, .counts] t (t.withStore s.store.wipe) :=
    (((t.withStore_frame _).without fun _ => ⟨by simp [BookStore.wipe, BookStore.empty], by
      simp [BookStore.wipe, BookStore.empty]⟩).mono (cs := [.deliveries, .bookKeys, .books, .subs, .counts]) (by simp)).without
      (by simp [Block.same, h, BookStore.wipe])
  have deferral (t : State) (h : t.settlement = s.settlement) :
      Frame [.deferral] t (t.withSettlement { s.settlement with deferral := .none }) :=
    (t.withSettlement_frame _).without (by simp [Block.same, h])
  have table : Frame wipeBlocks s (s.withTable (Vector.replicate 96 Household.wiped)) := by
    have wiped (i : Slot) : (s.withTable (Vector.replicate 96 Household.wiped)).household i = Household.wiped := by
      simp [State.household]
    intro b n
    cases b with
    | soundTable =>
      have settings (i : Slot) : ((s.withTable (Vector.replicate 96 Household.wiped)).household i).settings = none := by
        rw [wiped, Household.wiped]
      refine fun _ => ⟨fun i => ⟨?_, by simp [settings]⟩, by simp [settings]⟩
      rw [wiped, Household.wiped]
      simp
    | soundNotices => exact id
    | soundQueues => exact id
    | soundSubs => exact id
    | bookKeys => exact fun _ => rfl
    | _ => simp_all [Block.same, State.engine]
  unfold State.wipeAccounts
  refine Frame.trans ?settled ((State.withJournal_frame _ _).mono (by simp))
  refine Frame.trans ?stored ((deferral _ (by rfl)).mono (by simp) (cs := wipeBlocks))
  refine Frame.trans ?injected ((store _ (by rfl)).mono (by simp) (cs := wipeBlocks))
  refine Frame.trans ?funded ((State.withInjection_frame _ _).mono (by simp))
  exact table.trans ((State.withFund_frame _ _).mono (by simp))

theorem State.wipeSettings_frame (s : State) : Frame (.soundNotices :: wipeBlocks) s s.wipeSettings := by
  unfold State.wipeSettings
  refine Frame.trans ?shown ((State.withNotices_frame _ _).mono (by simp))
  refine Frame.trans ?margin ((State.withDisplay_frame _ _).mono (by simp))
  refine Frame.trans ?watch ((State.withMargin_frame _ _).mono (by simp))
  refine Frame.trans ?engineB ((State.withReserve_frame _ _).mono (by simp))
  refine Frame.trans ?engineA ((State.withFeederB_frame _ _ (by simp [Engine.wipe])).mono (by simp))
  exact (s.withTariff_frame _).andThen (State.withFeederA_frame _ _ (by simp [Engine.wipe])) (by simp)

theorem State.wipe_frame (s : State) : Frame wipeBlocks s s.wipe := by
  refine Frame.without (b := .soundNotices) ?_ fun h => State.driveAttn_sound fun n => ?_
  · exact ((s.wipeAccounts_frame.mono (by simp)).trans (State.wipeSettings_frame _)).trans
      ((State.driveAttn_frame _).mono (by simp))
  · change (s.notices.unmasked.cell n).count ≤ 255
    simpa [Notices.unmasked] using h.2 n

theorem State.mapSub_frame (s : State) (i : Slot) (b : Nat) {f : Sub → Sub}
    (h : ∀ e, (f e).slot = e.slot ∧ (f e).boundary = e.boundary) : Frame [.subs] s (s.mapSub i b f) := by
  refine s.withSubs_frame_keys _ ?_
  rw [List.map_map]
  refine (List.map_congr_left fun e _ => ?_) ▸ List.Sublist.refl _
  dsimp only [Function.comp]
  split
  · rw [(h e).1, (h e).2]
  · rfl

theorem Engine.force_queue (e : Engine) (on : Bool) : (e.force on).queue = e.queue := by
  unfold Engine.force; split <;> rfl

theorem Accepted.frame {bs : List Block} {s t : State} (h : Accepted s bs t) : Frame bs s t := by
  cases h with
  | reports => exact Frame.refl _ s
  | setsClock => exact s.withCalendar_frame _
  | givesEvent => exact (s.withCalendar_frame _).andThen (State.boundaryEvent_frame _ _ _) (by simp)
  | holdsClock =>
    exact ((s.withCalendar_frame _).trans (State.withCalendar_frame _ _)).andThen (State.notify_frame _ _) (by simp)
  | aligns => exact s.withCalendar_frame _
  | bandOn => exact s.withTariff_frame _
  | bandOff => exact s.withTariff_frame _
  | setsPrices => exact s.withTariff_frame _
  | enrols => exact (s.withHousehold_frame _ _).andThen (State.record_frame _ _) (by simp)
  | edits i c d rest ps =>
    exact (s.writeSettings_frame i c d).andThen (State.afterEdit_frame _ i ps) (by simp [Feeder.eq_A_or_eq_B])
  | suspends => exact (s.setMember_frame _ _).andThen (State.record_frame _ _) (by simp)
  | enrolsAgain => exact (s.enrolAgain_frame _).andThen (State.record_frame _ _) (by simp)
  | withdraws => exact (s.vacate_frame _).andThen (State.record_frame _ _) (by simp)
  | leaves => exact (s.setMember_frame _ _).andThen (State.record_frame _ _) (by simp)
  | accountVacates i =>
    refine Frame.trans ?_ ((State.retry_frame _).mono (by simp))
    refine Frame.trans ?_ ((State.record_frame _ _).mono (by simp))
    refine Frame.trans ?_ ((State.vacate_frame _ i).mono (by simp))
    exact (s.credit_frame _ _).andThen (State.record_frame _ _) (by simp)
  | accounts i =>
    refine Frame.trans ?_ ((State.retry_frame _).mono (by simp))
    refine Frame.trans ?_ ((State.evaluate_frame _ i).mono (by simp))
    exact (s.credit_frame _ _).andThen (State.record_frame _ _) (by simp)
  | addsFund => exact s.addFund_frame _
  | closesNow b found =>
    refine s.mapBook_frame_keys fun differ k hk same => ?_
    obtain rfl := State.eq_of_boundary differ (List.mem_of_find?_eq_some found) hk same
    exact Book.closeMissing_key (List.find?_some found) _
  | replacesSub i b => exact (s.mapSub_frame i b fun e => by exact ⟨rfl, rfl⟩).andThen (State.testComplete_frame _ _) (by simp)
  | addsSub i b imp exp absent room =>
    refine Frame.andThen ((s.withSubs_frame _).without fun k => ⟨?_, ?_⟩) (State.testComplete_frame _ _) (by simp)
    · simpa [Config.maxSubs] using room
    · rw [State.withStore_store, List.map_append, List.nodup_append]
      refine ⟨k.2, by simp, fun key held key' new same => ?_⟩
      obtain ⟨e, he, rfl⟩ := List.mem_map.mp held
      obtain ⟨slot, boundary⟩ : e.slot = i ∧ e.boundary = b := by simpa [← same] using new
      exact List.find?_eq_none.mp absent e he (by simp [slot, boundary])
  | disablesSub i b => exact s.mapSub_frame i b fun e => ⟨rfl, rfl⟩
  | clearsSub => exact s.withSubs_frame_keys _ (List.filter_sublist.map _)
  | releases => exact (s.withJournal_frame _).andThen (State.retry_frame _) (by simp)
  | forces f on => exact s.withEngine_frame_queue f _ (by rw [Engine.force_queue])
  | times f => exact s.withEngine_frame_queue f _ (by simp)
  | configuresWatch => exact s.withReserve_frame _
  | switches i c r held manual => exact s.want_frame_sound held (by simp [manual])
  | setsMargin => exact (s.withMargin_frame _).andThen (State.evaluateAuto_frame _) (by simp)
  | configuresDisplay => exact s.withDisplay_frame _
  | acknowledges => exact s.acknowledge_frame _
  | masks => exact s.writeMasks_frame _
  | wipes => exact s.wipe_frame

/-- A request's change reaches neither the queue, the power, the charter, the service state, the monitor nor the host
line. -/
abbrev acceptedBlocks : List Block :=
  [.calendar, .tariff, .accounts, .wanted, .confirmed, .fund, .injection, .bookKeys, .books, .subs, .deliveries, .counts,
    .computation, .deferral, .journal, .feeder .A, .feeder .B, .reserve, .margin, .display, .notices, .soundTable]

theorem Accepted.blocks_subset {bs : List Block} {s t : State} (h : Accepted s bs t) : bs ⊆ acceptedBlocks := by
  cases h <;> simp [Feeder.eq_A_or_eq_B]

theorem Accepted.disjoint {bs cs : List Block} {s t : State} (h : Accepted s cs t)
    (out : ¬∃ b ∈ bs, b ∈ acceptedBlocks) : ¬∃ b ∈ bs, b ∈ cs :=
  fun ⟨b, hb, hc⟩ => out ⟨b, hb, h.blocks_subset hc⟩

/-! ## The end of a start-up -/

/-- The blocks that an event of the end of a start-up may change; of the first line's service it says nothing. -/
def startEventBlocks : StartEvent → List Block
  | .notices => [.notices]
  | .catchUp => boundaryBlocks
  | .settling => [.bookKeys, .books, .computation]
  | .evaluation => limiterBlocks
  | .pageStart => [.display]
  | .latch => [.display]
  | .firstLine => [.host]
  | .service => everyBlock

theorem State.takeStartEvent_frame (s : State) (examined : Bool) (e : StartEvent) :
    Frame (startEventBlocks e) s (s.takeStartEvent examined e) := by
  cases e with
  | notices => exact s.noticesAtStart_frame
  | catchUp => exact s.catchUp_frame
  | settling => exact .atGrant State.startSettling_frame _ _ s
  | evaluation => exact s.evaluateAuto_frame
  | pageStart => exact s.withDisplay_frame _
  | latch =>
    simp only [State.takeStartEvent]
    split
    · exact Frame.refl _ s
    · exact s.latchPage_frame
  | firstLine => exact s.takeHeldLine_frame
  | service => exact Frame.every _ _

/-- The part as its start-up ends, before the events of R206. -/
def State.started (s : State) : State :=
  ((s.withSupply { warning := false, lowRun := 0, goodRun := 0, pfail := true }).withPower
    { phase := .running, resetDue := none }).withNotices s.notices.cleared

theorem State.endStartup_eq (s : State) (order : List StartEvent) :
    s.endStartup order = s.started.takeStartEvents (startSequence order) := rfl

theorem State.started_frame (s : State) : Frame [.supply, .power, .notices] s s.started := by
  refine Frame.without (b := .soundNotices) ?_ fun _ => State.cleared_sound
  unfold State.started
  exact ((s.withSupply_frame _).andThen (State.withPower_frame _ _) (by simp) (cs := [.soundNotices, .supply, .power])).andThen
    (State.withNotices_frame _ _) (by simp)

/-- A property that each event keeps holds at the end of them all. -/
theorem State.takeStartEvents_keeps {Q : State → Prop} (h : ∀ s examined e, Q s → Q (s.takeStartEvent examined e))
    (s : State) (hs : Q s) (events : List StartEvent) : Q (s.takeStartEvents events) := by
  have all (p : State × Bool) (hp : Q p.1) :
      Q (events.foldl (fun p e => (p.1.takeStartEvent p.2 e, p.2 || e = .settling)) p).1 := by
    induction events generalizing p with
    | nil => exact hp
    | cons e rest ih => exact ih _ (h _ _ _ hp)
  exact all _ hs

/-! ## Properties that every step keeps -/

/-- The line in service is the one that a served request stands for, if there is one. -/
def State.free (s : State) (r : Req) (args : List Tok) : Prop :=
  ∀ l, s.host.inService = some l → l = { line := .request r args, stage := .taken }

/-- The host line may be changed, but not under a program in flight. -/
def HostKept (P : State → Prop) : Prop :=
  ∀ s v, v.inService = s.host.inService ∨ (∀ l, s.host.inService = some l → l.stage ≠ .programming) →
    P s → P (s.withHost v)

/-- What has to be shown of a property that speaks of some blocks, for every step to keep it. -/
structure Kept (bs : List Block) (P : State → Prop) : Prop where
  depends : ∀ s t, (∀ b ∈ bs, b.same s t) → P s → P t
  hostLine : HostKept P
  finish : ∀ s r args, s.power.phase = .running → s.free r args → P s →
    P (s.finish (.request r args) (serveRequest r args s))
  event : ∀ c s, c.request = none → (∀ order, c ≠ .startupEnd order) → (∃ b ∈ bs, b ∈ eventBlocks c) → P s →
    P (next c s)
  started : ∀ s, s.power.phase = .starting → P s → P s.started
  startEvent : ∀ s examined e, e ≠ .service → (∃ b ∈ bs, b ∈ startEventBlocks e) → s.power.phase = .running → P s →
    P (s.takeStartEvent examined e)

section
variable {bs : List Block} {P : State → Prop}

/-- A change of none of the blocks that a property speaks of keeps it. -/
theorem Frame.keeps {cs : List Block} {s t : State} (h : Frame cs s t)
    (depends : ∀ s t, (∀ b ∈ bs, b.same s t) → P s → P t) (disjoint : ¬∃ b ∈ bs, b ∈ cs) (hs : P s) : P t :=
  depends s t (fun b hb => h b fun hc => disjoint ⟨b, hb, hc⟩) hs

/-- The host line's part of the scheme, for a property that does not speak of it. -/
theorem hostLine_of_depends (depends : ∀ s t, (∀ b ∈ bs, b.same s t) → P s → P t) (host : .host ∉ bs) (s : State)
    (v : HostLine) (hs : P s) : P (s.withHost v) :=
  (s.withHost_frame v).keeps depends (by simpa using host) hs

/-- A served request keeps a property that does not speak of the host line, when its changes and a program do. -/
theorem finish_of_accepted (depends : ∀ s t, (∀ b ∈ bs, b.same s t) → P s → P t) (host : .host ∉ bs)
    (accepted : ∀ s cs t, Accepted s cs t → (∃ b ∈ bs, b ∈ cs) → P s → P t) (program : ∀ s p, Programmable s p → P s → P (s.program p)) (s : State)
    (r : Req) (args : List Tok) (hs : P s) : P (s.finish (.request r args) (serveRequest r args s)) := by
  have answered := serveRequest_answer (s := s) r args
  generalize serveRequest r args s = o at answered
  cases answered with
  | refused reply => exact hostLine_of_depends depends host s _ hs
  | done cs t reply h =>
    refine hostLine_of_depends depends host t _ ?_
    by_cases meets : ∃ b ∈ bs, b ∈ cs
    · exact accepted s cs t h meets hs
    · exact h.frame.keeps depends meets hs
  | programming p h => exact hostLine_of_depends depends host _ _ (program s p h hs)

end

section
variable {P : State → Prop} (k : HostKept P)
include k

theorem HostKept.hold {s : State} (line : Line) (stage : Stage)
    (h : ∀ l, s.host.inService = some l → l.stage ≠ .programming) (hs : P s) : P (s.hold line stage) :=
  k s _ (.inr h) hs

theorem HostKept.takeServed {s : State} (line : Line) (o : Served)
    (h : ∀ l, s.host.inService = some l → l.stage ≠ .programming) (hs : P s) : P (s.takeServed line o) := by
  cases o <;> exact k.hold _ _ h hs

theorem HostKept.takeLine {s : State} (line : Line) (h : ∀ l, s.host.inService = some l → l.stage ≠ .programming)
    (hs : P s) : P (s.takeLine line) := by
  cases line with
  | request r args => exact k.takeServed _ _ h hs
  | _ => exact k.hold _ _ h hs

theorem HostKept.queueLine {s : State} (line : Line) (hs : P s) : P (s.queueLine line) := by
  unfold State.queueLine
  split <;> exact k s _ (.inl rfl) hs

theorem HostKept.holdLine {s : State} (line : Line) (hs : P s) : P (s.holdLine line) := by
  unfold State.holdLine
  split
  next none => exact k.hold _ _ (by simp [none]) hs
  next => exact k.queueLine _ hs

theorem HostKept.offerLine {s : State} (line : Line) (hs : P s) : P (s.offerLine line) := by
  unfold State.offerLine
  split
  · split
    next none => exact k.takeLine _ (by simp [none]) hs
    next => exact k.queueLine _ hs
  · exact k.holdLine _ hs
  all_goals exact hs

theorem HostKept.replySent {s : State} (hs : P s) : P s.replySent := by
  unfold State.replySent
  split
  next stage =>
    have replied (l : InService) (h : s.host.inService = some l) : l.stage ≠ .programming := by
      rw [stage] at h; cases h; simp
    dsimp only
    split
    · exact k.takeLine _ (by simp) (k s _ (.inr replied) hs)
    · exact k s _ (.inr replied) hs
  next => exact hs

theorem HostKept.takeHeldLine {s : State} (hs : P s) : P s.takeHeldLine := by
  unfold State.takeHeldLine
  split
  next stage => exact k.takeLine _ (fun l h => by rw [stage] at h; cases h; simp) hs
  next => exact hs

end

section
variable {bs : List Block} {P : State → Prop} (k : Kept bs P)
include k

theorem Kept.requestCommand (r : Req) (args : List Tok) {s : State} (hs : P s) :
    P (s.requestCommand r args (serveRequest r args s)) := by
  unfold State.requestCommand
  split
  next running =>
    split
    next none =>
      have free : s.free r args := by simp [State.free, none]
      split
      · exact k.finish s r args running free hs
      · exact k.hostLine.takeServed _ _ (by simp [none]) hs
    next l taken =>
      split
      next same =>
        subst same
        split
        · exact k.finish s r args running (fun m h => by rw [taken] at h; cases h; rfl) hs
        · exact hs
      next => exact k.hostLine.queueLine _ hs
  · exact k.hostLine.holdLine _ hs
  all_goals exact hs

theorem Kept.serveTaken (examined : Bool) {s : State} (running : s.power.phase = .running) (hs : P s) :
    P (s.serveTaken examined) := by
  unfold State.serveTaken
  split
  next r args taken =>
    split
    · exact hs
    · exact k.finish s r args running (fun l h => by rw [taken] at h; cases h; rfl) hs
  next => exact hs

omit k in
theorem finish_power (s : State) (r : Req) (args : List Tok) :
    (s.finish (.request r args) (serveRequest r args s)).power = s.power := by
  have answered := serveRequest_answer (s := s) r args
  generalize serveRequest r args s = o at answered
  cases answered with
  | refused reply => rfl
  | done bs t reply h => exact h.frame.power fun m => by simpa using h.blocks_subset m
  | programming p h => rfl

omit k in
theorem State.takeStartEvent_power (s : State) (examined : Bool) (e : StartEvent) :
    (s.takeStartEvent examined e).power = s.power := by
  cases e with
  | service =>
    change (s.serveTaken examined).power = s.power
    unfold State.serveTaken
    split
    · split
      · rfl
      · exact finish_power s _ _
    · rfl
  | _ => exact (s.takeStartEvent_frame examined _).power (by simp [startEventBlocks])

theorem Kept.endStartup {s : State} (order : List StartEvent) (starting : s.power.phase = .starting) (hs : P s) :
    P (s.endStartup order) := by
  rw [State.endStartup_eq]
  have kept := State.takeStartEvents_keeps (Q := fun s => s.power.phase = .running ∧ P s)
    (fun s examined e ⟨running, hs⟩ => ⟨by rwa [s.takeStartEvent_power], ?_⟩) s.started
    ⟨rfl, k.started s starting hs⟩ (startSequence order)
  · exact kept.2
  · by_cases service : e = .service
    · subst service; exact k.serveTaken examined running hs
    by_cases meets : ∃ b ∈ bs, b ∈ startEventBlocks e
    · exact k.startEvent s examined e service meets running hs
    · exact (s.takeStartEvent_frame examined e).keeps k.depends meets hs

theorem Kept.next (c : Instr) {s : State} (hs : P s) : P (next c s) := by
  cases request : c.request with
  | some p => rw [eq_instrOf request, next_instrOf]; exact k.requestCommand _ _ hs
  | none =>
    by_cases startup : ∃ order, c = .startupEnd order
    · obtain ⟨order, rfl⟩ := startup
      change P (if s.power.phase = .starting then s.endStartup order else s)
      split
      next starting => exact k.endStartup order starting hs
      next => exact hs
    by_cases meets : ∃ b ∈ bs, b ∈ eventBlocks c
    · exact k.event c s request (fun order h => startup ⟨order, h⟩) meets hs
    · exact (next_frame c s).keeps k.depends meets hs

/-- Every step keeps the property. -/
theorem Kept.step (queue : .pending ∉ bs) {s t : State} (h : step s = .next t) (hs : P s) : P t := by
  unfold Machine.step at h
  split at h
  next c rest _ =>
    rw [exec_next_iff.mp h]
    exact k.next c ((s.withPending_frame rest).keeps k.depends (by simpa using queue) hs)
  next => cases h; exact hs

end

/-- A property kept by an operation is kept by it while the part runs. -/
theorem whileRunning_keeps {P : State → Prop} {f : State → State} {s : State} (hs : P s)
    (h : s.power.phase = .running → P (f s)) : P (whileRunning f s) := by
  rcases whileRunning_cases f s with ⟨running, acts⟩ | ⟨-, idles⟩
  · rw [acts]; exact h running
  · rwa [idles]

/-- A property kept by an access is kept by its command. -/
theorem atGrant_keeps {P : State → Prop} {access : State → State} {s : State} (r : Requester) (ended : Bool) (hs : P s)
    (h : P (access s)) : P (s.atGrant r ended access) := by
  rcases s.atGrant_cases r ended access with acts | idles
  · rwa [acts]
  · rwa [idles]

end Sys2Proof.Machine
end

section
/-! The charter (R193, R194): a program in flight only clears bits of an unlocked charter. -/

namespace Sys2Proof.Machine

/-! ## What the operations do to the charter -/

theorem State.dueReset_charter (s : State) : s.dueReset.charter = s.charter := s.dueReset_frame.charter (by simp)

theorem State.completeProgram_charter (s : State) :
    s.completeProgram.charter = match s.charter.program with
      | some (.word w value) => { words := s.charter.words.set w value, program := none }
      | _ => s.charter := by
  unfold State.completeProgram
  cases h : s.charter.program with
  | none => rfl
  | some p =>
    cases p with
    | lock => rfl
    | word w value =>
      dsimp only
      rw [State.dueReset_charter, (State.answerProgram_frame _ _).charter (by simp)]
      unfold State.programWord
      dsimp only
      split
      · exact (State.lengthProgrammed_frame _ _).charter (by simp)
      · rfl

theorem State.completeLock_charter (s : State) :
    s.completeLock.charter = match s.charter.program with
      | some .lock => { words := s.charter.words.set 31 0, program := none }
      | _ => s.charter := by
  unfold State.completeLock
  cases h : s.charter.program with
  | none => rfl
  | some p =>
    cases p with
    | word w value => rfl
    | lock =>
      dsimp only
      rw [State.dueReset_charter, (State.answerProgram_frame _ _).charter (by simp)]
      rfl

theorem charter_setWord (words : Vector Word16 32) (w k : CharterIx) (v : Word16) :
    (words.set w v)[k] = if w = k then v else words[k] := by
  simp only [Fin.getElem_fin, Vector.getElem_set, Fin.ext_iff]

/-! ## The invariant -/

/-- A charter that follows from another: no bit has been set, a locked one has not changed, and a program in flight only
clears bits of an unlocked charter (R193, R194). -/
structure Charter.Follows (old c : Charter) : Prop where
  unlocked : ∀ p, c.program = some p → c.words[(31 : CharterIx)].toNat ≠ 0
  word : ∀ w value, c.program = some (.word w value) → w ≠ 31 ∧ value &&& c.words[w] = value
  fewer : ∀ w : CharterIx, c.words[w] &&& old.words[w] = c.words[w]
  frozen : old.words[(31 : CharterIx)].toNat = 0 → c = old

theorem State.locked_eq_false_iff (s : State) : s.locked = false ↔ s.charter.words[(31 : CharterIx)].toNat ≠ 0 := by
  simp [State.locked, State.charterWord]

theorem Charter.Follows.sound {old : Charter} {s : State} (h : old.Follows s.charter) : s.charterSound :=
  fun p programs => ⟨s.locked_eq_false_iff.mpr (h.unlocked p programs), fun w value same =>
    ⟨(h.word w value (same ▸ programs)).1, by simpa [programmable] using (h.word w value (same ▸ programs)).2⟩⟩

theorem Charter.Follows.of_sound {s : State} (h : s.charterSound) : s.charter.Follows s.charter where
  unlocked p programs := s.locked_eq_false_iff.mp (h p programs).1
  word w value programs := by
    obtain ⟨other, clears⟩ := (h _ programs).2 w value rfl
    exact ⟨other, by simpa [programmable] using clears⟩
  fewer _ := BitVec.and_self
  frozen _ := rfl

theorem follows_depends (old : Charter) (s t : State) (h : ∀ b ∈ [Block.charter], b.same s t)
    (k : old.Follows s.charter) : old.Follows t.charter := by
  have same : t.charter = s.charter := h .charter (by simp)
  exact same ▸ k

/-- A word replaced by fewer of its bits, with no program left in flight. -/
theorem Charter.Follows.setWord {old c : Charter} {w : CharterIx} {v : Word16} (k : old.Follows c)
    (clears : v &&& c.words[w] = v) (unlocked : c.words[(31 : CharterIx)].toNat ≠ 0) :
    old.Follows { words := c.words.set w v, program := none } where
  unlocked _ h := by cases h
  word _ _ h := by cases h
  fewer i := by
    rw [charter_setWord]
    split
    next same => subst same; rw [← clears, BitVec.and_assoc, k.fewer]
    next => exact k.fewer i
  frozen locked := absurd (k.frozen locked ▸ locked) unlocked

theorem follows_kept (old : Charter) : Kept [.charter] (fun s => old.Follows s.charter) where
  depends := follows_depends old
  hostLine s v _ := hostLine_of_depends (follows_depends old) (by simp) s v
  finish s r args _ _ := by
    refine finish_of_accepted (follows_depends old) (by simp)
      (fun s cs t h meets => absurd meets (h.disjoint (by simp))) (fun s p allowed k => ?_) s r args
    have unlocked := s.locked_eq_false_iff.mp allowed.unlocked
    refine ⟨fun _ _ => unlocked, fun w v h => ?_, k.fewer, fun locked => absurd (k.frozen locked ▸ locked) unlocked⟩
    obtain ⟨other, clears, -⟩ := allowed.word w v (Option.some.inj h)
    exact ⟨other, (by simpa [programmable] using clears : v &&& s.charter.words[w] = v)⟩
  event c s request startup meets k := by
    cases c with
    | charterProgramCompletion =>
      refine whileRunning_keeps (P := fun s => old.Follows s.charter) k fun _ => ?_
      rw [s.completeProgram_charter]
      split
      next w v h => exact k.setWord (k.word w v h).2 (k.unlocked _ h)
      next => exact k
    | lockCompletion =>
      refine whileRunning_keeps (P := fun s => old.Follows s.charter) k fun _ => ?_
      rw [s.completeLock_charter]
      split
      next h => exact k.setWord (w := 31) (v := 0) (by simp) (k.unlocked _ h)
      next => exact k
    | startupEnd order => exact absurd rfl (startup order)
    | _ => simp [Instr.request, eventBlocks] at request meets
  started s _ := s.started_frame.keeps (follows_depends old) (by simp)
  startEvent s examined e service meets := by
    cases e with
    | service => exact absurd rfl service
    | _ => simp [startEventBlocks] at meets

/-- Settles O56: a step carries the charter to one that follows from it. -/
theorem charterOnlyLosesBitsAndStaysLocked : Obligations.CharterOnlyLosesBitsAndStaysLocked := by
  intro s t sound stepped
  have follows := (follows_kept s.charter).step (by simp) stepped (.of_sound sound)
  exact ⟨follows.sound, follows.fewer, fun locked => follows.frozen (by simpa [State.locked, State.charterWord] using locked)⟩

end Sys2Proof.Machine
end

section
/-! The journal (R96 to R98, R104): its records stay consecutively numbered and within their bounds. -/

namespace Sys2Proof.Machine

/-! ## Posting, as the invariants see it -/

/-- What POSTING_ATTEMPT can come to: nothing, a computation dropped without a book, a failure, or a posting that has passed
both checks (R88, R89, R92). -/
inductive Attempted (s : State) : State → Prop
  | idle (uncomputed : s.settlement.computation = none) : Attempted s s
  | dropped (c : Computation) (computed : s.settlement.computation = some c) (unheld : s.bookOf c.boundary = none) :
      Attempted s (s.withSettlement { s.settlement with computation := none })
  | failed (c : Computation) (b : Book) (d : Deferral) (n : Notice) (computed : s.settlement.computation = some c)
      (held : s.bookOf c.boundary = some b) : Attempted s (s.failPosting b d n)
  | posted (c : Computation) (b : Book) (computed : s.settlement.computation = some c)
      (held : s.bookOf c.boundary = some b) (room : s.journal.hasRoom 1 (s.listed b c.results).length = true)
      (limits : s.withinLimits (s.listed b c.results) (fundChange c.results) = true) : Attempted s (s.post b c)

theorem State.attemptPosting_attempted (s : State) : Attempted s s.attemptPosting := by
  unfold State.attemptPosting
  split
  next uncomputed => exact .idle uncomputed
  next c computed =>
    split
    next unheld => exact .dropped c computed unheld
    next b held =>
      dsimp only
      split
      · exact .failed c b _ _ computed held
      next room =>
        split
        · exact .failed c b _ _ computed held
        next limits => exact .posted c b computed held (by simpa using room) (by simpa using limits)

/-! ### The stages of a posting -/

/-- The slots that a posting vacates. -/
def State.goneAt (s : State) (b : Book) (c : Computation) : List Slot :=
  (c.results.filter (s.postingVacates b)).map SlotResult.slot

/-- The record of a posting. -/
def State.postedBody (s : State) (b : Book) (c : Computation) : RecordBody :=
  .settled (s.headerOf b c.derivations (fundChange c.results)) ((s.listed b c.results).map (s.lineOf b))

/-- A posting's first stage: the results of the slots. -/
def State.postSlots (s : State) (c : Computation) : State := c.results.foldl State.settleSlot s

/-- Its second: the fund, the book's removal and the substitution table. -/
def State.postBook (s : State) (b : Book) (c : Computation) : State :=
  let t := s.postSlots c
  let t := t.withFund (t.fund + fundChange c.results)
  (t.withStore { t.store with books := t.store.books.filter fun k => k.boundary ≠ b.boundary }).removeSubsAtPosting b

/-- Its third: the slots vacated. -/
def State.postGone (s : State) (b : Book) (c : Computation) : State := (s.goneAt b c).foldl State.vacate (s.postBook b c)

/-- Its fourth: the record, the notice, and the engine IDLE. -/
def State.postRecord (s : State) (b : Book) (c : Computation) : State :=
  (((s.postGone b c).record (s.postedBody b c)).notify .settled).withSettlement { computation := none, deferral := .none }

theorem State.post_eq (s : State) (b : Book) (c : Computation) :
    s.post b c = ((s.listed b c.results).map SlotResult.slot).foldl State.evaluate (s.postRecord b c) := rfl

section
variable (s : State) (b : Book) (c : Computation)

theorem State.postSlots_frame : Frame [.accounts, .notices] s (s.postSlots c) :=
  Frame.foldl (fun s r => s.settleSlot_frame r) _ _

theorem State.postBook_frame : Frame [.fund, .bookKeys, .books, .subs, .notices] (s.postSlots c) (s.postBook b c) :=
  ((State.withFund_frame _ _).andThen (State.withBooks_frame _ _) (by simp) (cs := [.fund, .bookKeys, .books])).andThen
    (State.removeSubsAtPosting_frame _ _) (by simp)

theorem State.postGone_frame :
    Frame [.accounts, .subs, .feeder .A, .feeder .B, .notices] (s.postBook b c) (s.postGone b c) :=
  Frame.foldl (fun s i => s.vacate_frame i) _ _

theorem State.postRecord_frame :
    Frame [.journal, .notices, .computation, .deferral] (s.postGone b c) (s.postRecord b c) :=
  ((State.record_frame _ _).andThen (State.notify_frame _ _) (by simp) (cs := [.journal, .notices])).andThen
    (State.withSettlement_frame _ _) (by simp)

theorem State.evaluations_frame (is : List Slot) : Frame limiterBlocks s (is.foldl State.evaluate s) :=
  Frame.foldl (fun s i => s.evaluate_frame i) _ _

/-- A posting writes one record. -/
theorem State.post_journal : (s.post b c).journal = s.journal.append (s.postedBody b c) := by
  have before : (s.postGone b c).journal = s.journal := by
    rw [(s.postGone_frame b c).journal (by simp), (s.postBook_frame b c).journal (by simp),
      (s.postSlots_frame c).journal (by simp)]
  rw [s.post_eq, (State.evaluations_frame _ _).journal (by simp), ← before]
  exact ((s.postGone b c).record (s.postedBody b c)).notify_frame .settled |>.journal (by simp)

end

theorem State.listed_length (s : State) (b : Book) (c : Computation) : (s.listed b c.results).length ≤ 96 := by
  refine (List.length_filter_le _ _).trans ?_
  simp [Computation.results, allSlots]

/-! ## Consecutive numbers -/

theorem consecutive_tail {a : Nat} {l : List Nat} (h : consecutive (a :: l)) : consecutive l := by
  cases l with
  | nil => trivial
  | cons b l => exact h.2

/-- Consecutive numbers rise. -/
theorem lt_of_consecutive {a : Nat} {l : List Nat} (h : consecutive (a :: l)) : ∀ n ∈ l, a < n := by
  induction l generalizing a with
  | nil => simp
  | cons b l ih =>
    obtain ⟨rfl, rest⟩ := h
    intro n hn
    rcases List.mem_cons.mp hn with rfl | hn
    · omega
    · have := ih rest n hn; omega

theorem consecutive_append {l : List Nat} {q : Nat} (h : consecutive l) (next : ∀ a ∈ l.getLast?, a + 1 = q) :
    consecutive (l ++ [q]) := by
  induction l with
  | nil => trivial
  | cons a l ih =>
    cases l with
    | nil => exact ⟨(next a rfl).symm, trivial⟩
    | cons b l => exact ⟨h.1, ih h.2 (by simpa using next)⟩

/-- Of consecutive numbers, those above a bound are the last ones. -/
theorem filter_suffix_of_consecutive {l : List JournalRecord} (h : consecutive (l.map JournalRecord.seq)) (n : Nat) :
    l.filter (fun r => n < r.seq) <:+ l := by
  induction l with
  | nil => simp
  | cons r l ih =>
    by_cases above : n < r.seq
    · have all : ∀ x ∈ r :: l, n < x.seq := by
        intro x hx
        rcases List.mem_cons.mp hx with rfl | hx
        · exact above
        · exact above.trans (lt_of_consecutive h _ (List.mem_map_of_mem hx))
      rw [List.filter_eq_self.mpr (by simpa using all)]
    · rw [List.filter_cons_of_neg (by simpa using above)]
      exact (ih (consecutive_tail h)).trans (List.suffix_cons r l)

theorem consecutive_suffix {l m : List Nat} (h : consecutive m) (s : l <:+ m) : consecutive l := by
  obtain ⟨t, rfl⟩ := s
  induction t with
  | nil => exact h
  | cons a t ih => exact ih (consecutive_tail h)

/-! ## The journal's operations -/

theorem Journal.append_sound {j : Journal} (h : j.sound) (body : RecordBody) (room : j.hasRoom 1 body.lineCount = true)
    (lines : body.lineCount ≤ 96) : (j.append body).sound := by
  obtain ⟨-, -, numbered, next, each⟩ := h
  obtain ⟨records, fits, numbers⟩ := (j.hasRoom_iff _ _).mp room
  unfold Journal.append
  cases seq : j.nextSeq with
  | none => simp [Journal.numbersFor, seq] at numbers
  | some q =>
    rw [Journal.nextFits, seq] at next
    obtain ⟨low, high, follows⟩ := next
    refine ⟨by simpa using records, ?_, ?_, ?_, ?_⟩
    · simpa [Journal.lineCount] using fits
    · rw [List.map_append]
      refine consecutive_append numbered fun a ha => ?_
      rw [List.getLast?_map, Option.mem_map] at ha
      obtain ⟨r, newest, rfl⟩ := ha
      exact follows r newest
    · by_cases more : q < 4294967295
      · simp [Journal.nextFits, nextSequence, Config.maxSequence, more]
      · simp [Journal.nextFits, nextSequence, Config.maxSequence, more]
        omega
    · intro r hr
      rcases List.mem_append.mp hr with hr | hr
      · exact each r hr
      · cases List.mem_singleton.mp hr
        exact ⟨low, lines⟩

theorem Journal.numbersFor_some {j : Journal} {q : Nat} (seq : j.nextSeq = some q) (n : Nat) :
    j.numbersFor n = true ↔ q + n ≤ 4294967296 := by
  rw [Journal.numbersFor, seq]
  exact decide_eq_true_iff

theorem Journal.numbersFor_none {j : Journal} (seq : j.nextSeq = none) (n : Nat) : j.numbersFor n = true ↔ n = 0 := by
  rw [Journal.numbersFor, seq]
  exact decide_eq_true_iff

/-- After a record there is room for one more, where there was room for two. -/
theorem Journal.hasRoom_append {j : Journal} {body : RecordBody} {records lines : Nat}
    (room : j.hasRoom (records + 1) (lines + body.lineCount) = true) : (j.append body).hasRoom records lines = true := by
  obtain ⟨held, fits, numbers⟩ := (j.hasRoom_iff _ _).mp room
  rw [Journal.hasRoom_iff]
  unfold Journal.append
  cases seq : j.nextSeq with
  | none => simp [Journal.numbersFor, seq] at numbers
  | some q =>
    rw [Journal.numbersFor_some seq] at numbers
    refine ⟨by simp; omega, ?_, ?_⟩
    · simp [Journal.lineCount] at fits ⊢
      omega
    · by_cases more : q < 4294967295
      · rw [Journal.numbersFor_some (q := q + 1) (by simp [nextSequence, Config.maxSequence, more])]
        omega
      · rw [Journal.numbersFor_none (by simp [nextSequence, Config.maxSequence, more])]
        omega

theorem Journal.release_sound {j : Journal} (h : j.sound) (n : Nat) : (j.release n).sound := by
  obtain ⟨records, lines, numbered, next, each⟩ := h
  have kept := filter_suffix_of_consecutive numbered n
  have newest (r : JournalRecord) (hr : r ∈ (j.release n).records.getLast?) : r ∈ j.records.getLast? := by
    obtain ⟨t, split⟩ := kept
    rw [← split, List.getLast?_append]
    simp [show (j.records.filter fun r => n < r.seq).getLast? = some r from hr]
  refine ⟨kept.length_le.trans records, ?_, ?_, ?_, fun r hr => each r (kept.subset hr)⟩
  · exact ((kept.sublist.map _).sum_le_sum (by simp)).trans lines
  · obtain ⟨t, split⟩ := kept
    refine consecutive_suffix numbered ⟨t.map JournalRecord.seq, ?_⟩
    rw [← split, List.map_append]; rfl
  · unfold Journal.nextFits at next ⊢
    cases seq : j.nextSeq with
    | none =>
      simp only [Journal.release, seq] at next ⊢
      exact fun r hr => next r (newest r hr)
    | some q =>
      simp only [Journal.release, seq] at next ⊢
      exact ⟨next.1, next.2.1, fun r hr => next.2.2 r (newest r hr)⟩

theorem Journal.empty_sound : Journal.sound { records := [], nextSeq := some 1 } := by
  simp [Journal.sound, Journal.lineCount, consecutive, Journal.nextFits]

/-! ## Every step -/

theorem State.record_sound {s : State} {body : RecordBody} (h : s.journal.sound)
    (room : s.journal.hasRoom 1 body.lineCount = true) (lines : body.lineCount ≤ 96) : (s.record body).journal.sound :=
  s.journal.append_sound h body room lines

theorem journalSound_depends (s t : State) (h : ∀ b ∈ [Block.journal], b.same s t) (k : s.journal.sound) :
    t.journal.sound := by
  have same : t.journal = s.journal := h .journal (by simp)
  exact same ▸ k

theorem Accepted.journal_sound {bs : List Block} {s t : State} (h : Accepted s bs t) (meets : .journal ∈ bs)
    (k : s.journal.sound) : t.journal.sound := by
  cases h with
  | enrols i c f addr cap floor p shown vacant limit inRange room =>
    exact (s.withHousehold i (enrolled c)).record_sound k room (by simp [RecordBody.lineCount])
  | suspends i member room => exact s.journal.append_sound k _ room (by simp [RecordBody.lineCount])
  | enrolsAgain i a member idle room => exact s.journal.append_sound k _ room (by simp [RecordBody.lineCount])
  | withdraws i member clear balance room =>
    have same : (s.vacate i).journal = s.journal := (s.vacate_frame i).journal (by simp)
    exact (s.vacate i).record_sound (same ▸ k) (same ▸ room) (by simp [RecordBody.lineCount])
  | leaves i member room => exact s.journal.append_sound k _ room (by simp [RecordBody.lineCount])
  | accountVacates i cause amount present vacates room =>
    obtain ⟨records, lines, numbers⟩ := (s.journal.hasRoom_iff _ _).mp room
    have room1 : s.journal.hasRoom 1 1 = true := by
      rw [Journal.hasRoom_iff]
      refine ⟨by omega, by omega, ?_⟩
      cases seq : s.journal.nextSeq with
      | none => simp [Journal.numbersFor_none seq] at numbers
      | some q => rw [Journal.numbersFor_some seq] at numbers ⊢; omega
    let body : RecordBody := .account i cause amount ((s.household i).balance + amount)
    have sound : (s.journal.append body).sound := s.journal.append_sound k body room1 (Nat.le_of_ble_eq_true rfl)
    have second : (s.journal.append body).hasRoom 1 1 = true := Journal.hasRoom_append (body := body) room
    have same : (((s.credit i amount).record body).vacate i).journal = s.journal.append body :=
      (State.vacate_frame _ i).journal (by simp)
    exact State.record_sound (body := .member i .withdraw .vacant) (same ▸ sound) (same ▸ second)
      (Nat.le_of_ble_eq_true rfl)
  | accounts i cause amount present limit room =>
    have same : (((s.credit i amount).record (.account i cause amount ((s.household i).balance + amount))).evaluate i).journal
        = ((s.credit i amount).record (.account i cause amount ((s.household i).balance + amount))).journal :=
      (State.evaluate_frame _ i).journal (by simp)
    change State.journal (State.evaluate _ i) |>.sound
    rw [same]
    exact s.journal.append_sound k _ room (by simp [RecordBody.lineCount])
  | addsFund amount limit room => exact s.journal.append_sound k _ room (by simp [RecordBody.lineCount])
  | releases n => exact s.journal.release_sound k n
  | wipes => 
    have same : (s.wipeAccounts.wipeSettings.driveAttn).journal = { records := [], nextSeq := some 1 } := rfl
    exact same ▸ Journal.empty_sound
  | _ => simp at meets

theorem journalSound_kept : Kept [.journal] (fun s => s.journal.sound) where
  depends := journalSound_depends
  hostLine s v _ := hostLine_of_depends journalSound_depends (by simp) s v
  finish s r args _ _ :=
    finish_of_accepted journalSound_depends (by simp)
      (fun s cs t h meets => h.journal_sound (by simpa using meets))
      (fun s p allowed k => k) s r args
  event c s request startup meets k := by
    cases c with
    | postingAttempt =>
      refine whileRunning_keeps (P := fun s => s.journal.sound) k fun _ =>
        atGrant_keeps (P := fun s => s.journal.sound) _ _ k ?_
      have attempted := s.attemptPosting_attempted
      generalize s.attemptPosting = t at attempted
      cases attempted with
      | posted c b computed held room limits =>
        rw [s.post_journal]
        exact s.journal.append_sound k _ (by simpa [State.postedBody, RecordBody.lineCount] using room)
          (by simpa [State.postedBody, RecordBody.lineCount] using s.listed_length b c)
      | failed c b d n => exact (s.failPosting_frame b d n).keeps journalSound_depends (by simp) k
      | _ => exact k
    | startupEnd order => exact absurd rfl (startup order)
    | _ => simp [Instr.request, eventBlocks] at request meets
  started s _ := s.started_frame.keeps journalSound_depends (by simp)
  startEvent s examined e service meets := by
    cases e with
    | service => exact absurd rfl service
    | _ => simp [startEventBlocks] at meets

/-- Settles O34: a record is only appended where there is room for it, and only the oldest ones are released. -/
theorem journalStaysConsecutiveAndBounded : Obligations.JournalStaysConsecutiveAndBounded := by
  intro s t sound stepped
  exact journalSound_kept.step (by simp) stepped sound

end Sys2Proof.Machine
end

section
/-! The substitution table, the supply command queues and ATTN (R57, R128, R192): every operation keeps them sound. -/

namespace Sys2Proof.Machine

/-- The substitution table, the queues and the notices are sound. -/
structure State.TablesSound (s : State) : Prop where
  subs : s.subsSound
  queues : s.queuesSound
  notices : s.noticesSound

/-- The blocks that say so. -/
abbrev tableBlocks : List Block := [.soundSubs, .soundQueues, .soundNotices]

theorem tablesSound_depends (s t : State) (h : ∀ b ∈ tableBlocks, b.same s t) (k : s.TablesSound) : t.TablesSound where
  subs := h .soundSubs (by simp) k.subs
  queues := h .soundQueues (by simp) k.queues
  notices := h .soundNotices (by simp) k.notices

theorem tablesSound_kept : Kept tableBlocks State.TablesSound where
  depends := tablesSound_depends
  hostLine s v _ := hostLine_of_depends tablesSound_depends (by simp) s v
  finish s r args _ _ :=
    finish_of_accepted tablesSound_depends (by simp)
      (fun s cs t h meets => absurd meets (h.disjoint (by simp)))
      (fun s p _ k => (s.withCharter_frame _).keeps tablesSound_depends (by simp) k) s r args
  event c s request startup meets k := by
    cases c with
    | startupEnd order => exact absurd rfl (startup order)
    | _ => simp [Instr.request, eventBlocks] at request meets
  started s _ := s.started_frame.keeps tablesSound_depends (by simp)
  startEvent s examined e service meets := by
    cases e with
    | service => exact absurd rfl service
    | _ => simp [startEventBlocks] at meets

/-- Settles O54: no operation of a step makes the tables, the queues or ATTN unsound. -/
theorem tablesQueuesAndAttnStaySound : Obligations.TablesQueuesAndAttnStaySound := by
  intro s t subs queues notices stepped
  obtain ⟨subs', queues', notices'⟩ := tablesSound_kept.step (by simp) stepped ⟨subs, queues, notices⟩
  exact ⟨subs', queues', notices'⟩

end Sys2Proof.Machine
end

section
/-! The calendar's arithmetic (R1, R2, R4, R11): what a step, an alignment and a boundary instant are in whole seconds and
minutes of the range. -/

namespace Sys2Proof.Machine

/-! ## Days of years and months -/

/-- The days of a year (R1). -/
def daysInYear (y : Nat) : Nat := if leapYear y then 366 else 365

theorem leapYear_iff (y : Nat) : leapYear y = true ↔ y % 4 = 0 := decide_eq_true_iff

theorem daysBeforeYear_succ {y : Nat} (h : 2000 ≤ y) : daysBeforeYear (y + 1) = daysBeforeYear y + daysInYear y := by
  unfold daysBeforeYear daysInYear Config.firstYear
  split
  next leap => rw [leapYear_iff] at leap; omega
  next common => rw [leapYear_iff] at common; omega

theorem daysBeforeMonth_succ {m : Nat} (h : 1 ≤ m) (y : Nat) :
    daysBeforeMonth y (m + 1) = daysBeforeMonth y m + daysInMonth y m := by
  obtain ⟨k, rfl⟩ := Nat.exists_eq_add_of_le' h
  simp [daysBeforeMonth, List.range_succ]

theorem daysBeforeMonth_end (y : Nat) : daysBeforeMonth y 13 = daysInYear y := by
  have february : daysInMonth y 2 = if leapYear y then 29 else 28 := rfl
  have others : daysBeforeMonth y 13 = daysInMonth y 2 + 337 := by
    simp [daysBeforeMonth, List.range_succ, daysInMonth]
    omega
  rw [others, february, daysInYear]
  split <;> rfl

theorem daysInMonth_pos (y m : Nat) : 0 < daysInMonth y m := by
  unfold daysInMonth
  repeat' split
  all_goals omega

theorem daysBeforeMonth_mono (y : Nat) {m n : Nat} (one : 1 ≤ m) (h : m ≤ n) :
    daysBeforeMonth y m ≤ daysBeforeMonth y n := by
  induction n, h using Nat.le_induction with
  | base => exact Nat.le_refl _
  | succ n h ih =>
    rw [daysBeforeMonth_succ (one.trans h)]
    omega

theorem daysBeforeYear_mono {y z : Nat} (one : 2000 ≤ y) (h : y ≤ z) : daysBeforeYear y ≤ daysBeforeYear z := by
  unfold daysBeforeYear Config.firstYear
  omega

/-! ## Date-times in their ranges -/

theorem validDateTime_iff (t : DateTime) :
    validDateTime t = true ↔
      (2000 ≤ t.year ∧ t.year ≤ 2099) ∧ (1 ≤ t.month ∧ t.month ≤ 12) ∧ (1 ≤ t.day ∧ t.day ≤ daysInMonth t.year t.month) ∧
        t.hour ≤ 23 ∧ t.minute ≤ 59 ∧ t.second ≤ 59 := by
  simp only [validDateTime, Bool.and_eq_true, decide_eq_true_eq, and_assoc]
  rfl

theorem DateTime.seconds_eq (t : DateTime) :
    t.seconds = t.dayNumber * 86400 + t.hour * 3600 + t.minute * 60 + t.second := by
  unfold DateTime.seconds DateTime.minutes DateTime.minuteOfDay
  omega

theorem DateTime.dayNumber_lt {t : DateTime} (h : validDateTime t = true) : t.dayNumber < 36525 := by
  obtain ⟨⟨first, last⟩, ⟨one, twelve⟩, ⟨day, days⟩, -⟩ := (validDateTime_iff t).mp h
  have month := daysBeforeMonth_mono t.year (m := t.month + 1) (n := 13) (by omega) (by omega)
  rw [daysBeforeMonth_succ one, daysBeforeMonth_end] at month
  have year := daysBeforeYear_mono (y := t.year + 1) (z := 2100) (by omega) (by omega)
  rw [daysBeforeYear_succ first] at year
  have range : daysBeforeYear 2100 = 36525 := rfl
  unfold DateTime.dayNumber
  omega

theorem DateTime.minutes_lt {t : DateTime} (h : validDateTime t = true) : t.minutes < 52596000 := by
  have day := DateTime.dayNumber_lt h
  obtain ⟨-, -, -, hour, minute, -⟩ := (validDateTime_iff t).mp h
  unfold DateTime.minutes DateTime.minuteOfDay
  omega

/-- The date-time with another second. -/
theorem validDateTime_withSecond {t : DateTime} (h : validDateTime t = true) {n : Nat} (k : n ≤ 59) :
    validDateTime { t with second := n } = true := by
  rw [validDateTime_iff] at h ⊢
  obtain ⟨year, month, day, hour, minute, -⟩ := h
  exact ⟨year, month, day, hour, minute, k⟩

/-! ## One second on -/

theorem DateTime.dayNumber_nextMonth {t : DateTime} (h : validDateTime t = true)
    (full : t.day = daysInMonth t.year t.month) (hour minute second : Nat) :
    DateTime.dayNumber ⟨t.year, t.month + 1, 1, hour, minute, second⟩ = t.dayNumber + 1 := by
  obtain ⟨-, ⟨one, -⟩, ⟨day, -⟩, -⟩ := (validDateTime_iff t).mp h
  simp only [DateTime.dayNumber, daysBeforeMonth_succ one]
  omega

theorem DateTime.dayNumber_nextYear {t : DateTime} (h : validDateTime t = true)
    (full : t.day = daysInMonth t.year t.month) (december : t.month = 12) (hour minute second : Nat) :
    DateTime.dayNumber ⟨t.year + 1, 1, 1, hour, minute, second⟩ = t.dayNumber + 1 := by
  obtain ⟨⟨first, -⟩, ⟨one, -⟩, ⟨day, -⟩, -⟩ := (validDateTime_iff t).mp h
  have month := daysBeforeMonth_succ one t.year
  have january : daysBeforeMonth (t.year + 1) 1 = 0 := rfl
  simp only [december] at month full
  rw [daysBeforeMonth_end] at month
  simp only [DateTime.dayNumber, daysBeforeYear_succ first, december, january]
  omega

/-- A step gives a date-time of the range, one second later (R1). -/
theorem DateTime.tick_some {t u : DateTime} (h : validDateTime t = true) (k : t.tick = some u) :
    validDateTime u = true ∧ u.seconds = t.seconds + 1 := by
  have valid := h
  rw [validDateTime_iff] at valid
  obtain ⟨year, month, day, hour, minute, second⟩ := valid
  unfold DateTime.tick at k
  split at k
  next => cases k; exact ⟨validDateTime_withSecond h (by omega), rfl⟩
  split at k
  next => 
    cases k
    refine ⟨(validDateTime_iff _).mpr ⟨year, month, day, hour, by simp; omega, by simp⟩, ?_⟩
    simp only [DateTime.seconds_eq, DateTime.dayNumber]
    omega
  split at k
  next =>
    cases k
    refine ⟨(validDateTime_iff _).mpr ⟨year, month, day, by simp; omega, by simp, by simp⟩, ?_⟩
    simp only [DateTime.seconds_eq, DateTime.dayNumber]
    omega
  split at k
  next =>
    cases k
    refine ⟨(validDateTime_iff _).mpr ⟨year, month, by simp; omega, by simp, by simp, by simp⟩, ?_⟩
    simp only [DateTime.seconds_eq, DateTime.dayNumber]
    omega
  next full =>
    have full : t.day = daysInMonth t.year t.month := by omega
    split at k
    next =>
      cases k
      have days := daysInMonth_pos t.year (t.month + 1)
      refine ⟨(validDateTime_iff _).mpr ⟨year, by simp; omega, by simp; omega, by simp, by simp, by simp⟩, ?_⟩
      rw [DateTime.seconds_eq, DateTime.seconds_eq t, DateTime.dayNumber_nextMonth h full]
      dsimp only
      omega
    next =>
      have december : t.month = 12 := by omega
      split at k
      next more =>
        cases k
        refine ⟨(validDateTime_iff _).mpr ⟨?_, by simp, ?_, by simp, by simp, by simp⟩, ?_⟩
        · simp only [Config.lastYear] at more ⊢; omega
        · exact ⟨Nat.le_refl _, daysInMonth_pos _ _⟩
        · rw [DateTime.seconds_eq, DateTime.seconds_eq t, DateTime.dayNumber_nextYear h full december]
          dsimp only
          omega
      next => cases k

/-- There is no step exactly at the end of the range (R2). -/
theorem DateTime.tick_none_iff {t : DateTime} (h : validDateTime t = true) : t.tick = none ↔ t = lastMoment := by
  constructor
  · intro k
    obtain ⟨⟨-, last⟩, ⟨-, twelve⟩, ⟨-, days⟩, hour, minute, second⟩ := (validDateTime_iff t).mp h
    unfold DateTime.tick Config.lastYear at k
    split at k
    · cases k
    split at k
    · cases k
    split at k
    · cases k
    split at k
    · cases k
    split at k
    · cases k
    split at k
    · cases k
    have december : t.month = 12 := by omega
    have thirtyone : daysInMonth t.year 12 = 31 := rfl
    rw [december, thirtyone] at days
    obtain ⟨year, month, day, hh, mm, ss⟩ := t
    simp only [lastMoment, DateTime.mk.injEq]
    simp_all
    omega
  · rintro rfl
    decide

/-- The end of the range, as a count of minutes. -/
theorem DateTime.eq_lastMoment_iff {t : DateTime} (h : validDateTime t = true) :
    t = lastMoment ↔ t.second = 59 ∧ t.minutes = 52595999 := by
  constructor
  · rintro rfl
    decide
  · rintro ⟨second, minutes⟩
    rw [← DateTime.tick_none_iff h, Option.eq_none_iff_forall_ne_some]
    intro u k
    obtain ⟨valid, seconds⟩ := DateTime.tick_some h k
    have := DateTime.minutes_lt valid
    obtain ⟨-, -, -, -, -, sixty⟩ := (validDateTime_iff u).mp valid
    unfold DateTime.seconds at seconds
    omega

/-! ## The alignment -/

/-- An alignment rounds the next second's date-time down to its minute, or up to the next one (R11). -/
theorem DateTime.align_eq {t u : DateTime} (k : t.tick = some u) :
    t.align = if u.second ≤ 29 then some { u with second := 0 } else ({ u with second := 59 } : DateTime).tick := by
  rw [DateTime.align, k]

theorem DateTime.align_none {t : DateTime} (k : t.tick = none) : t.align = none := by
  rw [DateTime.align, k]

theorem DateTime.align_some {t u v : DateTime} (h : validDateTime t = true) (k : t.tick = some u) (a : t.align = some v) :
    validDateTime v = true ∧ v.second = 0 ∧
      (u.second ≤ 29 → v.seconds = u.seconds - u.second) ∧ (30 ≤ u.second → v.seconds = u.seconds + (60 - u.second)) := by
  obtain ⟨valid, -⟩ := DateTime.tick_some h k
  have sixty : u.second ≤ 59 := ((validDateTime_iff u).mp valid).2.2.2.2.2
  rw [DateTime.align_eq k] at a
  split at a
  next down =>
    cases a
    refine ⟨validDateTime_withSecond valid (by omega), rfl, fun _ => ?_, fun up => by omega⟩
    unfold DateTime.seconds
    exact (Nat.add_sub_cancel _ _).symm
  next up =>
    obtain ⟨valid', seconds⟩ := DateTime.tick_some (validDateTime_withSecond valid (Nat.le_refl 59)) a
    have same : ({ u with second := 59 } : DateTime).seconds = u.minutes * 60 + 59 := rfl
    have rounded : v.seconds = u.minutes * 60 + 60 := by omega
    have low : v.second ≤ 59 := ((validDateTime_iff v).mp valid').2.2.2.2.2
    have this : u.seconds = u.minutes * 60 + u.second := rfl
    have that : v.seconds = v.minutes * 60 + v.second := rfl
    exact ⟨valid', by omega, fun down => absurd down up, fun _ => by omega⟩

theorem DateTime.align_none_iff {t u : DateTime} (h : validDateTime t = true) (k : t.tick = some u) :
    t.align = none ↔ 30 ≤ u.second ∧ u.minutes = 52595999 := by
  obtain ⟨valid, -⟩ := DateTime.tick_some h k
  rw [DateTime.align_eq k]
  split
  next down => simp; omega
  next up =>
    have valid' := validDateTime_withSecond valid (Nat.le_refl 59)
    rw [DateTime.tick_none_iff valid', DateTime.eq_lastMoment_iff valid']
    have minutes : ({ u with second := 59 } : DateTime).minutes = u.minutes := rfl
    rw [minutes]
    exact ⟨fun ⟨_, m⟩ => ⟨by omega, m⟩, fun ⟨_, m⟩ => ⟨rfl, m⟩⟩

/-! ## Boundary numbers and instants -/

theorem legalLength_iff (n : Nat) : legalLength n = true ↔ n ∈ [5, 10, 15, 20, 30, 60] := decide_eq_true_iff

theorem legalLength_bounds {n : Nat} (h : legalLength n = true) : 5 ≤ n ∧ n ≤ 60 := by
  rw [legalLength_iff] at h
  simp at h
  omega

/-- The year of a day number, and the day of that year (R1). -/
theorem yearDay_spec {d : Nat} (h : d < 36525) :
    (2000 ≤ (yearDay d).1 ∧ (yearDay d).1 ≤ 2099) ∧ (yearDay d).2 < daysInYear (yearDay d).1 ∧
      daysBeforeYear (yearDay d).1 + (yearDay d).2 = d := by
  have leap (y : Nat) : leapYear y = decide (y % 4 = 0) := rfl
  unfold yearDay daysBeforeYear daysInYear Config.firstYear
  dsimp only
  split <;> simp only [leap, decide_eq_true_eq] <;> split <;> omega

/-- The month and day of a day of the months m to m + n. -/
theorem monthDay_spec (y n : Nat) {m d : Nat} (one : 1 ≤ m) (h : daysBeforeMonth y m + d < daysBeforeMonth y (m + n + 1)) :
    (m ≤ (monthDay y n m d).1 ∧ (monthDay y n m d).1 ≤ m + n) ∧
      (1 ≤ (monthDay y n m d).2 ∧ (monthDay y n m d).2 ≤ daysInMonth y (monthDay y n m d).1) ∧
      daysBeforeMonth y (monthDay y n m d).1 + ((monthDay y n m d).2 - 1) = daysBeforeMonth y m + d := by
  induction n generalizing m d with
  | zero =>
    rw [Nat.add_zero, daysBeforeMonth_succ one] at h
    simp only [monthDay]
    omega
  | succ n ih =>
    have next := daysBeforeMonth_succ one y
    unfold monthDay
    split
    next inside => dsimp only; omega
    next past =>
      have shift : m + 1 + n + 1 = m + (n + 1) + 1 := by omega
      obtain ⟨⟨low, high⟩, day, total⟩ := ih (m := m + 1) (d := d - daysInMonth y m) (by omega) (by rw [shift]; omega)
      exact ⟨⟨by omega, by omega⟩, day, by omega⟩

/-- The date-time a number of minutes of the range after its first moment. -/
theorem ofMinutes_spec {m : Nat} (h : m < 52596000) :
    validDateTime (ofMinutes m) = true ∧ (ofMinutes m).minutes = m ∧ (ofMinutes m).second = 0 := by
  obtain ⟨year, day, days⟩ := yearDay_spec (d := m / 1440) (by omega)
  have january : daysBeforeMonth (yearDay (m / 1440)).1 1 = 0 := rfl
  obtain ⟨month, inMonth, total⟩ := monthDay_spec (yearDay (m / 1440)).1 11 (m := 1) (d := (yearDay (m / 1440)).2)
    (Nat.le_refl 1) (by rw [daysBeforeMonth_end]; omega)
  refine ⟨(validDateTime_iff _).mpr ⟨year, month, inMonth, ?_, ?_, ?_⟩, ?_, rfl⟩
  · simp only [ofMinutes]; omega
  · simp only [ofMinutes]; omega
  · simp only [ofMinutes]; omega
  · simp only [DateTime.minutes, DateTime.minuteOfDay, DateTime.dayNumber, ofMinutes]
    omega

/-- A boundary number of the range (R4). -/
theorem boundaryAt_le {t : DateTime} {len : Nat} (h : validDateTime t = true) (legal : legalLength len = true) :
    boundaryAt len t ≤ highestBoundary := by
  have minutes := DateTime.minutes_lt h
  obtain ⟨five, -⟩ := legalLength_bounds legal
  unfold boundaryAt highestBoundary
  calc t.minutes / len ≤ t.minutes / 5 := Nat.div_le_div_left five (by omega)
    _ ≤ 10519199 := by omega

/-! ## The statements of chapter 1 about dates -/

theorem weekdayOrder_weekday (t : DateTime) : weekdayOrder[(t.dayNumber + 5) % 7]? = some t.weekday := by
  have small : (t.dayNumber + 5) % 7 < 7 := Nat.mod_lt _ (by decide)
  unfold DateTime.weekday
  generalize (t.dayNumber + 5) % 7 = n at small
  interval_cases n <;> rfl

/-- Settles O5, by the carries of the one-second step. -/
theorem tickAndAlignFollowTheCalendar : Obligations.TickAndAlignFollowTheCalendar := by
  refine ⟨fun t => ?_, rfl, fun t h => ?_⟩
  · have days : daysInMonth t.year t.month =
        if t.month = 2 then (if t.year % 4 = 0 then 29 else 28) else if t.month ∈ [4, 6, 9, 11] then 30 else 31 := by
      simp [daysInMonth, leapYear]
    rw [← days]
    refine ⟨validDateTime_iff t, fun s => ?_, fun s m => ?_, fun s m => ⟨fun h => ?_, fun h d => ?_, fun h d => ⟨?_, ?_⟩⟩⟩
    · simp [DateTime.tick, s]
    · simp [DateTime.tick, s, m]
    · simp [DateTime.tick, s, m, h]
    · simp [DateTime.tick, s, m, h, d]
    · intro month; simp [DateTime.tick, s, m, h, d, month]
    · intro month year; simp [DateTime.tick, Config.lastYear, s, m, h, d, month, year]
  · obtain ⟨-, -, -, hour, minute, second⟩ := (validDateTime_iff t).mp h
    have seconds := DateTime.seconds_eq t
    have minutes : t.seconds = t.minutes * 60 + t.second := rfl
    refine ⟨by omega, by omega, DateTime.tick_none_iff h, DateTime.align_none, fun u k => ?_, weekdayOrder_weekday t⟩
    obtain ⟨valid, next⟩ := DateTime.tick_some h k
    exact ⟨valid, next, DateTime.align_none_iff h k, fun v a => DateTime.align_some h k a⟩

/-- Settles O6, by the days of years and months. -/
theorem boundaryNumbersAndInstantsAgree : Obligations.BoundaryNumbersAndInstantsAgree := by
  refine ⟨fun s => ⟨?_, legalLength_iff _⟩, fun len b legal range => ?_⟩
  · exact if_congr (legalLength_iff _) rfl rfl
  · obtain ⟨valid, minutes, second⟩ := ofMinutes_spec range
    refine ⟨valid, ?_, fun t => ?_⟩
    · rw [boundaryInstant, DateTime.seconds, minutes, second, Nat.add_zero]
    · have positive : 0 < len := by have := (legalLength_bounds legal).1; omega
      rw [boundaryAt, Nat.div_eq_iff positive, Nat.add_one_mul]
      omega

end Sys2Proof.Machine
end

section
/-! The calendar and the schedule (section 1.1, R4, R13, R15): what the operations do to the date-time and to b_last. -/

namespace Sys2Proof.Machine

/-! ## What the operations do to the calendar -/

section
variable (s : State)

/-- A boundary event's parts after the calendar (R5). -/
theorem State.boundaryEvent_rest_frame (len b : Nat) :
    Frame [.bookKeys, .books, .counts, .reserve, .deferral, .feeder .A, .feeder .B, .notices]
      (s.withCalendar { s.calendar with bLast := b, held := false }) (s.boundaryEvent len b) := by
  unfold State.boundaryEvent
  dsimp only
  refine Frame.trans ?_ ((State.buildPass_frame _ .B b _).mono (by simp))
  refine Frame.trans ?_ ((State.buildPass_frame _ .A b _).mono (by simp))
  exact (State.boundaryAtStore_frame _ len b (b - s.calendar.bLast)).andThen (State.retry_frame _) (by simp)

theorem State.boundaryEvent_calendar (len b : Nat) :
    (s.boundaryEvent len b).calendar = { s.calendar with bLast := b, held := false } :=
  (s.boundaryEvent_rest_frame len b).calendar (by simp)

theorem State.invalidate_calendar (t : DateTime) :
    (s.invalidate t).calendar = { s.calendar with now := t, valid := false, aligning := false } := rfl

theorem State.halt_calendar (phase : PowerPhase) :
    (s.halt phase).calendar = { s.calendar with aligning := false } := by
  simp [State.halt, State.driveAttn, (State.discardComputation_frame _).calendar]

theorem State.beginStartup_calendar (mode : ModeStrap) (rate : Rate) :
    (s.beginStartup mode rate).calendar = { s.calendar with aligning := false } := by
  rw [← s.halt_calendar .starting]
  exact (s.beginStartup_rest_frame mode rate).calendar (by simp)

end

/-! ## The calendar stays in its range -/

/-- A calendar that is in its range (section 1.1, R4, R10). -/
structure Calendar.Sound (c : Calendar) : Prop where
  now : validDateTime c.now = true
  bLast : c.bLast ≤ highestBoundary
  aligning : c.aligning = true → c.valid = true

theorem State.calendarSound_iff (s : State) : s.calendarSound ↔ s.calendar.Sound :=
  ⟨fun ⟨now, bLast, aligning⟩ => ⟨now, bLast, aligning⟩, fun ⟨now, bLast, aligning⟩ => ⟨now, bLast, aligning⟩⟩

theorem intervalLength_legal {s : State} {len : Nat} (h : s.intervalLength = some len) : legalLength len = true := by
  unfold State.intervalLength lengthOf at h
  split at h
  next legal => cases h; exact legal
  next => cases h

section
variable {s : State} (k : s.calendar.Sound)
include k

theorem Calendar.Sound.halt (phase : PowerPhase) : (s.halt phase).calendar.Sound := by
  rw [s.halt_calendar]
  exact ⟨k.now, k.bLast, by simp⟩

theorem Calendar.Sound.beginStartup (mode : ModeStrap) (rate : Rate) : (s.beginStartup mode rate).calendar.Sound := by
  rw [s.beginStartup_calendar]
  exact ⟨k.now, k.bLast, by simp⟩

theorem Calendar.Sound.dueReset : s.dueReset.calendar.Sound := by
  unfold State.dueReset
  split
  · exact k
  · exact k.halt _
  · exact k.beginStartup _ _
  all_goals exact k.halt _

theorem Calendar.Sound.lengthProgrammed (value : Nat) : (s.lengthProgrammed value).calendar.Sound := by
  unfold State.lengthProgrammed
  split
  · exact k
  next len h =>
    have legal : legalLength len = true := by
      unfold lengthOf at h
      split at h
      · cases h; assumption
      · cases h
    refine ⟨k.now, ?_, k.aligning⟩
    dsimp only [State.withCalendar_calendar]
    split
    · exact boundaryAt_le k.now legal
    · exact Nat.zero_le _

theorem Calendar.Sound.completeProgram : s.completeProgram.calendar.Sound := by
  unfold State.completeProgram
  split
  next w value _ =>
    refine Calendar.Sound.dueReset ?_
    rw [(State.answerProgram_frame _ _).calendar (by simp)]
    unfold State.programWord
    dsimp only
    split
    · exact Calendar.Sound.lengthProgrammed (s := s.withCharter { words := s.charter.words.set w value, program := none }) k _
    · exact k
  · exact k

theorem Calendar.Sound.completeLock : s.completeLock.calendar.Sound := by
  unfold State.completeLock
  split
  · refine Calendar.Sound.dueReset ?_
    rw [(State.answerProgram_frame _ _).calendar (by simp)]
    exact k
  · exact k

theorem Calendar.Sound.boundaryEvent {len b : Nat} (range : b ≤ highestBoundary) :
    (s.boundaryEvent len b).calendar.Sound := by
  rw [s.boundaryEvent_calendar]
  exact ⟨k.now, range, k.aligning⟩

theorem Calendar.Sound.checkBoundary : s.checkBoundary.calendar.Sound := by
  unfold State.checkBoundary
  split
  · exact k
  next len length =>
    split
    next reached =>
      obtain ⟨-, -, minutes⟩ : _ ∧ s.calendar.now.second = 0 ∧ s.calendar.now.minutes = (s.calendar.bLast + 1) * len := by
        simpa [isInstantOf] using reached
      have legal := intervalLength_legal length
      have here : boundaryAt len s.calendar.now = s.calendar.bLast + 1 := by
        rw [boundaryAt, minutes]
        exact Nat.mul_div_cancel _ (by have := (legalLength_bounds legal).1; omega)
      exact k.boundaryEvent (here ▸ boundaryAt_le k.now legal)
    next => exact k

theorem Calendar.Sound.catchUp : s.catchUp.calendar.Sound := by
  unfold State.catchUp
  split
  · exact k
  next len length =>
    split
    · exact k.boundaryEvent (boundaryAt_le k.now (intervalLength_legal length))
    · exact k

theorem Calendar.Sound.completeAlignment : s.completeAlignment.calendar.Sound := by
  unfold State.completeAlignment
  split
  next t rounded =>
    refine Calendar.Sound.checkBoundary ⟨?_, k.bLast, by simp⟩
    cases ticked : s.calendar.now.tick with
    | none => simp [DateTime.align_none ticked] at rounded
    | some u => exact (DateTime.align_some k.now ticked rounded).1
  · exact ⟨(by decide : validDateTime lastMoment = true), k.bLast, by simp [State.invalidate_calendar]⟩

theorem Calendar.Sound.calendarStep : s.calendarStep.calendar.Sound := by
  unfold State.calendarStep
  split
  · exact k
  split
  · exact k.completeAlignment
  split
  next t ticked => exact Calendar.Sound.checkBoundary ⟨(DateTime.tick_some k.now ticked).1, k.bLast, k.aligning⟩
  next => exact ⟨k.now, k.bLast, by simp [State.invalidate_calendar]⟩

end

theorem Accepted.calendar_sound {bs : List Block} {s t : State} (h : Accepted s bs t) (meets : .calendar ∈ bs)
    (k : s.calendar.Sound) : t.calendar.Sound := by
  cases h with
  | setsClock d valid => exact ⟨valid, k.bLast, fun _ => rfl⟩
  | givesEvent d len valid length above =>
    exact Calendar.Sound.boundaryEvent (s := s.setClock d) ⟨valid, k.bLast, fun _ => rfl⟩
      (boundaryAt_le valid (intervalLength_legal length))
  | holdsClock d valid => exact ⟨valid, k.bLast, fun _ => rfl⟩
  | aligns valid => exact ⟨k.now, k.bLast, fun _ => valid⟩
  | _ => simp at meets

theorem calendarSound_depends (s t : State) (h : ∀ b ∈ [Block.calendar], b.same s t) (k : s.calendar.Sound) :
    t.calendar.Sound := by
  have same : t.calendar = s.calendar := h .calendar (by simp)
  exact same ▸ k

theorem calendarSound_kept : Kept [.calendar] (fun s => s.calendar.Sound) where
  depends := calendarSound_depends
  hostLine s v _ := hostLine_of_depends calendarSound_depends (by simp) s v
  finish s r args _ _ :=
    finish_of_accepted calendarSound_depends (by simp)
      (fun s cs t h meets => h.calendar_sound (by simpa using meets)) (fun s p _ k => k) s r args
  event c s request startup meets k := by
    cases c with
    | charterProgramCompletion =>
      exact whileRunning_keeps (P := fun s => s.calendar.Sound) k fun _ => k.completeProgram
    | lockCompletion => exact whileRunning_keeps (P := fun s => s.calendar.Sound) k fun _ => k.completeLock
    | calendarStep => exact k.calendarStep
    | alignmentCompletion =>
      refine whileRunning_keeps (P := fun s => s.calendar.Sound)
        (f := fun s => if s.calendar.valid && s.calendar.aligning then s.completeAlignment else s) k fun _ => ?_
      split
      · exact k.completeAlignment
      · exact k
    | resetPinAssert =>
      change s.assertReset.calendar.Sound
      unfold State.assertReset
      split
      · split
        · exact k
        · exact k.halt _
      · exact k.halt _
      all_goals exact k
    | resetPinRelease mode rate =>
      change (s.releaseReset mode rate).calendar.Sound
      unfold State.releaseReset
      split
      · exact k.beginStartup _ _
      all_goals exact k
    | powerLoss =>
      change s.losePower.calendar.Sound
      unfold State.losePower
      split
      · split
        · exact k
        · exact k.halt _
      · exact k.halt _
      · exact k.halt _
      all_goals exact k
    | powerOn held mode rate =>
      change (s.powerOn held mode rate).calendar.Sound
      have judged {t : State} (h : t.calendar.Sound) : (t.judgeCalendar held).calendar.Sound := by
        unfold State.judgeCalendar
        split
        · exact h
        · exact ⟨(by decide : validDateTime firstMoment = true), h.bLast, by simp [Calendar.lost]⟩
      unfold State.powerOn
      split
      · exact judged (k.beginStartup _ _)
      · exact judged k
      all_goals exact k
    | startupEnd order => exact absurd rfl (startup order)
    | _ => simp [Instr.request, eventBlocks] at request meets
  started s _ := s.started_frame.keeps calendarSound_depends (by simp)
  startEvent s examined e service meets running k := by
    cases e with
    | service => exact absurd rfl service
    | catchUp => exact k.catchUp
    | _ => simp [startEventBlocks] at meets

/-! ## The schedule -/

theorem tariffSound_depends (s t : State) (h : ∀ b ∈ [Block.tariff], b.same s t) (k : s.tariffSound) : t.tariffSound := by
  have same : t.tariff = s.tariff := h .tariff (by simp)
  simpa only [State.tariffSound, same] using k

theorem Tariff.default_sound : (∀ i : SetIx, Tariff.default.sets[i].sound) ∧ ∀ e : BandIx, Tariff.default.bands[e].sound := by
  simp [Tariff.default, PriceSet.default, Band.default, PriceSet.sound, Band.sound, PriceSet.ordered, weekdaySet]

/-- A band entry replaced by a sound one. -/
theorem State.setBand_sound {s : State} (k : s.tariffSound) {e : BandIx} {b : Band} (sound : b.sound) :
    (s.setBand e b).tariffSound := by
  refine ⟨k.1, fun i => ?_⟩
  simp only [State.setBand, State.withTariff_tariff, Fin.getElem_fin, Vector.getElem_set]
  split
  · exact sound
  · exact k.2 i

theorem Accepted.tariff_sound {bs : List Block} {s t : State} (h : Accepted s bs t) (meets : .tariff ∈ bs)
    (k : s.tariffSound) : t.tariffSound := by
  cases h with
  | bandOn e b sound => exact State.setBand_sound k sound
  | bandOff e => exact State.setBand_sound k (k.2 e)
  | setsPrices i p sound ceiling =>
    refine ⟨fun j => ?_, k.2⟩
    simp only [State.withTariff_tariff, Fin.getElem_fin, Vector.getElem_set]
    split
    · exact sound
    · exact k.1 j
  | wipes => exact Tariff.default_sound
  | _ => simp at meets

theorem tariffSound_kept : Kept [.tariff] State.tariffSound where
  depends := tariffSound_depends
  hostLine s v _ := hostLine_of_depends tariffSound_depends (by simp) s v
  finish s r args _ _ :=
    finish_of_accepted tariffSound_depends (by simp)
      (fun s cs t h meets => h.tariff_sound (by simpa using meets)) (fun s p _ k => k) s r args
  event c s request startup meets k := by
    cases c with
    | startupEnd order => exact absurd rfl (startup order)
    | _ => simp [Instr.request, eventBlocks] at request meets
  started s _ := s.started_frame.keeps tariffSound_depends (by simp)
  startEvent s examined e service meets := by
    cases e with
    | service => exact absurd rfl service
    | _ => simp [startEventBlocks] at meets

/-- Settles O14: every date-time written is one of the range, every boundary number that of such a one, and every price set
and band entry written has been checked. -/
theorem calendarAndTariffStaySound : Obligations.CalendarAndTariffStaySound := by
  intro s t calendar tariff stepped
  exact ⟨t.calendarSound_iff.mpr (calendarSound_kept.step (by simp) stepped (s.calendarSound_iff.mp calendar)),
    tariffSound_kept.step (by simp) stepped tariff⟩

end Sys2Proof.Machine
end

section
/-! Requests that take pairs of a keyword and its value (R25, R153, R175, R190, R191): how the pairs are read, and what writing
them one after another comes to. -/

namespace Sys2Proof.Machine

section
variable {α β σ : Type}

/-! ## The value given with a keyword -/

@[simp] theorem given_nil (k : Kw) : given ([] : List (Kw × α)) k = none := rfl

theorem given_cons (p : Kw × α) (ps : List (Kw × α)) (k : Kw) :
    given (p :: ps) k = if p.1 = k then some p.2 else given ps k := by
  by_cases same : p.1 = k <;> simp [given, same]

theorem given_none_iff (ps : List (Kw × α)) (k : Kw) : given ps k = none ↔ k ∉ ps.map Prod.fst := by
  simp only [given, Option.map_eq_none_iff, List.find?_eq_none, List.mem_map, not_exists, not_and, decide_eq_true_eq]

theorem given_some_iff {ps : List (Kw × α)} (distinct : (ps.map Prod.fst).Nodup) (k : Kw) (a : α) :
    given ps k = some a ↔ (k, a) ∈ ps := by
  induction ps with
  | nil => simp
  | cons p ps ih =>
    obtain ⟨absent, distinct⟩ := List.nodup_cons.mp distinct
    rw [given_cons, List.mem_cons]
    split
    next same =>
      subst same
      constructor
      · rintro h; cases h; exact .inl rfl
      · rintro (same | held)
        · rw [← same]
        · exact absurd (List.mem_map_of_mem held) absent
    next other =>
      rw [ih distinct]
      exact ⟨.inr, fun h => h.resolve_left fun same => other (same ▸ rfl)⟩

/-! ## Reading pairs -/

/-- The words of pairs. -/
def pairWords (ks : List Kw) (vs : List Tok) : List Tok := (ks.zip vs).flatMap fun q => [Tok.kw q.1, q.2]

theorem readPairs_iff (read : Kw → Tok → Option α) (args : List Tok) (ps : List (Kw × α)) :
    readPairs read args = some ps ↔
      ∃ vs : List Tok, vs.length = ps.length ∧ args = pairWords (ps.map Prod.fst) vs ∧
        ∀ q ∈ ps.zip vs, read q.1.1 q.2 = some q.1.2 := by
  induction ps generalizing args with
  | nil =>
    constructor
    · intro h
      unfold readPairs at h
      split at h
      · exact ⟨[], rfl, rfl, by simp⟩
      · split at h <;> cases h
      · cases h
    · rintro ⟨vs, empty, rfl, -⟩
      rw [List.length_eq_zero_iff.mp empty]
      rfl
  | cons p ps ih =>
    constructor
    · intro h
      unfold readPairs at h
      split at h
      · cases h
      next k v rest =>
        split at h
        next a more value others =>
          cases h
          obtain ⟨vs, lengths, words, values⟩ := (ih rest).mp others
          exact ⟨v :: vs, by simp [lengths], by simp [pairWords, words], by simpa [value] using values⟩
        next => cases h
      · cases h
    · rintro ⟨vs, lengths, rfl, values⟩
      cases vs with
      | nil => cases lengths
      | cons v vs =>
        have value : read p.1 v = some p.2 := values (p, v) (by simp)
        have others := (ih (pairWords (ps.map Prod.fst) vs)).mpr
          ⟨vs, by simpa using lengths, rfl, fun q hq => values q (by simp [hq])⟩
        have words : pairWords ((p :: ps).map Prod.fst) (v :: vs) =
            .kw p.1 :: v :: pairWords (ps.map Prod.fst) vs := rfl
        rw [words, readPairs, value, others]

/-- Pairs are a keyword and its value each, at least one, no keyword twice. -/
theorem pairs_iff (read : Kw → Tok → Option α) (args : List Tok) (ps : List (Kw × α)) :
    pairs read args = some ps ↔ ps ≠ [] ∧ (ps.map Prod.fst).Nodup ∧ readPairs read args = some ps := by
  unfold pairs
  split
  next p qs h =>
    rw [h]
    split
    next distinct =>
      exact ⟨fun h => by cases h; exact ⟨by simp, distinct, rfl⟩, fun h => h.2.2⟩
    next twice =>
      exact ⟨fun h => by (cases h), fun ⟨_, distinct, same⟩ => by cases same; exact absurd distinct twice⟩
  next other =>
    refine ⟨fun h => by (cases h), fun ⟨nonempty, _, read⟩ => ?_⟩
    cases ps with
    | nil => exact absurd rfl nonempty
    | cons p ps => exact absurd read (other p ps)

/-- Every pair read has a value word. -/
theorem pairs_read {read : Kw → Tok → Option α} {args : List Tok} {ps : List (Kw × α)} (h : pairs read args = some ps)
    {p : Kw × α} (member : p ∈ ps) : ∃ v, read p.1 v = some p.2 := by
  obtain ⟨-, -, words⟩ := (pairs_iff _ _ _).mp h
  obtain ⟨vs, lengths, -, values⟩ := (readPairs_iff _ _ _).mp words
  obtain ⟨n, hn, rfl⟩ := List.getElem_of_mem member
  exact ⟨vs[n], values (ps[n], vs[n]) (List.mem_iff_getElem.mpr ⟨n, by simp; omega, by simp⟩)⟩

/-! ## Writing pairs one after another -/

section
variable {edit : σ → Kw × α → Option σ} {ok : Kw × α → Prop}

/-- Writing fails exactly when one of the values cannot be written. -/
theorem foldlM_none_iff {bad : Kw × α → Prop} (one : ∀ c p, ok p → (edit c p = none ↔ bad p)) {ps : List (Kw × α)}
    (all : ∀ p ∈ ps, ok p) (c : σ) : ps.foldlM edit c = none ↔ ∃ p ∈ ps, bad p := by
  induction ps generalizing c with
  | nil => simp
  | cons p ps ih =>
    have here := one c p (all p (by simp))
    simp only [List.foldlM_cons, List.exists_mem_cons_iff]
    cases written : edit c p with
    | none => simp [here.mp written]
    | some d =>
      have good : ¬bad p := fun h => by simp [here.mpr h] at written
      simpa [good] using ih (fun q hq => all q (by simp [hq])) d

/-- A field that the pair with one keyword writes: it takes the value given, or stays when none is. -/
theorem foldlM_field {k : Kw} {field : σ → β} {value : α → Option β}
    (one : ∀ c d p, ok p → edit c p = some d → if p.1 = k then value p.2 = some (field d) else field d = field c)
    {ps : List (Kw × α)} (all : ∀ p ∈ ps, ok p) (distinct : (ps.map Prod.fst).Nodup) {c d : σ}
    (h : ps.foldlM edit c = some d) :
    (∃ a, given ps k = some a ∧ value a = some (field d)) ∨ given ps k = none ∧ field d = field c := by
  induction ps generalizing c with
  | nil => cases h; exact .inr ⟨rfl, rfl⟩
  | cons p ps ih =>
    obtain ⟨absent, distinct⟩ := List.nodup_cons.mp distinct
    simp only [List.foldlM_cons, Option.bind_eq_bind, Option.bind_eq_some_iff] at h
    obtain ⟨e, first, rest⟩ := h
    have here := one c e p (all p (by simp)) first
    have later := ih (fun q hq => all q (by simp [hq])) distinct rest
    rw [given_cons]
    split at here
    next same =>
      rw [if_pos same]
      have none : given ps k = none := (given_none_iff ps k).mpr (same ▸ absent)
      rw [none] at later
      obtain ⟨-, kept⟩ := later.resolve_left (by simp)
      exact .inl ⟨p.2, rfl, kept ▸ here⟩
    next other =>
      rw [if_neg other, ← here]
      exact later

end

end

/-! ## The pairs of HHEDIT -/

/-- The pairs that HHEDIT takes (R25, R26). -/
inductive EditPair : Kw × EditValue → Prop
  | cap (n : Int) : EditPair (.CAP, .num n)
  | floor (n : Int) : EditPair (.FLOOR, .num n)
  | addr (n : Int) : EditPair (.ADDR, .num n)
  | policy (p : Policy) : EditPair (.POLICY, .policy p)
  | shown (b : Bool) : EditPair (.SHOW, .shown b)
  | feeder (f : Feeder) : EditPair (.FEEDER, .feeder f)

theorem policyOf_iff (v : Tok) (p : Policy) : policyOf v = some p ↔ v = .kw p.kw := by
  constructor
  · intro h; unfold policyOf at h; split at h <;> cases h <;> rfl
  · rintro rfl; cases p <;> rfl

theorem yesNoOf_iff (v : Tok) (b : Bool) : yesNoOf v = some b ↔ v = .kw (if b then .YES else .NO) := by
  constructor
  · intro h; unfold yesNoOf at h; split at h <;> cases h <;> rfl
  · rintro rfl; cases b <;> rfl

theorem feederOf_iff (v : Tok) (f : Feeder) : feederOf v = some f ↔ v = .kw (feederKw f) := by
  constructor
  · intro h; unfold feederOf at h; split at h <;> cases h <;> rfl
  · rintro rfl; cases f <;> rfl

theorem numberOf_iff (v : Tok) (n : Int) : numberOf v = some n ↔ v = .num n := by
  constructor
  · intro h; unfold numberOf at h; split at h <;> cases h <;> rfl
  · rintro rfl; rfl

theorem map_eq_some {α β : Type} (o : Option α) (f : α → β) (b : β) :
    o.map f = some b ↔ ∃ a, o = some a ∧ b = f a := by
  rw [Option.map_eq_some_iff]
  simp only [eq_comm]

theorem readEdit_iff (k : Kw) (v : Tok) (a : EditValue) :
    readEdit k v = some a ↔
      ((k = .CAP ∨ k = .FLOOR ∨ k = .ADDR) ∧ ∃ n, v = .num n ∧ a = .num n) ∨
        (k = .POLICY ∧ ∃ p : Policy, v = .kw p.kw ∧ a = .policy p) ∨
        (k = .SHOW ∧ ∃ b : Bool, v = .kw (if b then .YES else .NO) ∧ a = .shown b) ∨
        (k = .FEEDER ∧ ∃ f, v = .kw (feederKw f) ∧ a = .feeder f) := by
  unfold readEdit
  split <;> simp_all [-Option.map_eq_some_iff, map_eq_some, numberOf_iff, policyOf_iff, yesNoOf_iff, feederOf_iff]

theorem editPair_of_pairs {args : List Tok} {ps : List (Kw × EditValue)} (h : pairs readEdit args = some ps) :
    ∀ p ∈ ps, EditPair p := by
  rintro ⟨k, a⟩ member
  obtain ⟨v, read⟩ := pairs_read h member
  rcases (readEdit_iff k v a).mp read with
    ⟨rfl | rfl | rfl, n, -, rfl⟩ | ⟨rfl, p, -, rfl⟩ | ⟨rfl, b, -, rfl⟩ | ⟨rfl, f, -, rfl⟩
  exacts [.cap n, .floor n, .addr n, .policy p, .shown b, .feeder f]

/-- A value of HHEDIT that cannot be written. -/
def State.editBad (s : State) : Kw × EditValue → Prop
  | (.CAP, .num n) => ¬(1 ≤ n ∧ n ≤ s.capCeiling)
  | (.FLOOR, .num n) => ¬(s.lowestFloor ≤ n ∧ n ≤ 0)
  | (.ADDR, .num n) => ¬(1 ≤ n ∧ n ≤ 247)
  | _ => False

theorem natIn_none_iff (lo hi : Nat) (n : Int) : natIn lo hi n = none ↔ ¬((lo : Int) ≤ n ∧ n ≤ hi) := by
  unfold natIn; split <;> simp_all

theorem State.floorOk_iff (s : State) (n : Int) : s.floorOk n = true ↔ s.lowestFloor ≤ n ∧ n ≤ 0 := by
  simp [State.floorOk]

theorem State.editOne_none_iff (s : State) (c : Settings) (p : Kw × EditValue) (ok : EditPair p) :
    s.editOne c p = none ↔ s.editBad p := by
  cases ok with
  | cap n => simpa [State.editOne, State.editBad] using natIn_none_iff 1 s.capCeiling n
  | floor n => simp [State.editOne, State.editBad, ← s.floorOk_iff]
  | addr n => simpa [State.editOne, State.editBad] using natIn_none_iff 1 247 n
  | _ => simp [State.editOne, State.editBad]

/-- The number that a value of HHEDIT is, the policy, the choice, the feeder. -/
def EditValue.number : EditValue → Option Int
  | .num n => some n
  | _ => none
def EditValue.policyGiven : EditValue → Option Policy
  | .policy p => some p
  | _ => none
def EditValue.shownGiven : EditValue → Option Bool
  | .shown b => some b
  | _ => none
def EditValue.feederGiven : EditValue → Option Feeder
  | .feeder f => some f
  | _ => none

/-- The settings that pairs of HHEDIT make of others, field by field (R25). -/
structure State.Edited (s : State) (ps : List (Kw × EditValue)) (c d : Settings) : Prop where
  cap : (∃ n, given ps .CAP = some (.num n) ∧ natIn 1 s.capCeiling n = some d.cap) ∨ given ps .CAP = none ∧ d.cap = c.cap
  floor : (∃ n, given ps .FLOOR = some (.num n) ∧ s.floorOk n = true ∧ d.floor = n) ∨
    given ps .FLOOR = none ∧ d.floor = c.floor
  addr : (∃ n, given ps .ADDR = some (.num n) ∧ natIn 1 247 n = some d.addr) ∨ given ps .ADDR = none ∧ d.addr = c.addr
  policy : (∃ p, given ps .POLICY = some (.policy p) ∧ d.policy = p) ∨ given ps .POLICY = none ∧ d.policy = c.policy
  shown : (∃ b, given ps .SHOW = some (.shown b) ∧ d.shown = b) ∨ given ps .SHOW = none ∧ d.shown = c.shown
  feeder : (∃ f, given ps .FEEDER = some (.feeder f) ∧ d.feeder = f) ∨ given ps .FEEDER = none ∧ d.feeder = c.feeder

/-- What one pair of HHEDIT writes. -/
theorem State.editOne_some {s : State} {c d : Settings} {p : Kw × EditValue} (ok : EditPair p)
    (h : s.editOne c p = some d) :
    (if p.1 = .CAP then p.2.number.bind (natIn 1 s.capCeiling) = some d.cap else d.cap = c.cap) ∧
      (if p.1 = .FLOOR then (p.2.number.filter s.floorOk) = some d.floor else d.floor = c.floor) ∧
      (if p.1 = .ADDR then p.2.number.bind (natIn 1 247) = some d.addr else d.addr = c.addr) ∧
      (if p.1 = .POLICY then p.2.policyGiven = some d.policy else d.policy = c.policy) ∧
      (if p.1 = .SHOW then p.2.shownGiven = some d.shown else d.shown = c.shown) ∧
      (if p.1 = .FEEDER then p.2.feederGiven = some d.feeder else d.feeder = c.feeder) := by
  cases ok with
  | cap n =>
    obtain ⟨cap, inRange, rfl⟩ := Option.map_eq_some_iff.mp h
    simp [EditValue.number, inRange]
  | floor n =>
    simp only [State.editOne] at h
    split at h
    next inRange => cases h; simp [EditValue.number, Option.filter, inRange]
    next => cases h
  | addr n =>
    obtain ⟨addr, inRange, rfl⟩ := Option.map_eq_some_iff.mp h
    simp [EditValue.number, inRange]
  | policy p => cases h; simp [EditValue.policyGiven]
  | shown b => cases h; simp [EditValue.shownGiven]
  | feeder f => cases h; simp [EditValue.feederGiven]

theorem editAll_edited {s : State} {args : List Tok} {ps : List (Kw × EditValue)} (read : pairs readEdit args = some ps)
    {c d : Settings} (written : s.editAll c ps = some d) : s.Edited ps c d := by
  have ok := editPair_of_pairs read
  have distinct := ((pairs_iff _ _ _).mp read).2.1
  have shape {k : Kw} {a : EditValue} (h : given ps k = some a) : EditPair (k, a) :=
    ok _ ((given_some_iff distinct k a).mp h)
  refine ⟨?_, ?_, ?_, ?_, ?_, ?_⟩
  · refine (foldlM_field (k := .CAP) (field := Settings.cap)
      (value := fun a => a.number.bind (natIn 1 s.capCeiling)) (fun c d p ok h => (State.editOne_some ok h).1) ok distinct
      written).imp_left ?_
    rintro ⟨a, named, value⟩
    cases shape named with
    | cap n => exact ⟨n, named, value⟩
  · refine (foldlM_field (k := .FLOOR) (field := Settings.floor)
      (value := fun a => a.number.filter s.floorOk) (fun c d p ok h => (State.editOne_some ok h).2.1) ok
      distinct written).imp_left ?_
    rintro ⟨a, named, value⟩
    cases shape named with
    | floor n =>
      obtain ⟨same, inRange⟩ := Option.filter_eq_some_iff.mp value
      cases same
      exact ⟨d.floor, named, inRange, rfl⟩
  · refine (foldlM_field (k := .ADDR) (field := Settings.addr)
      (value := fun a => a.number.bind (natIn 1 247)) (fun c d p ok h => (State.editOne_some ok h).2.2.1) ok
      distinct written).imp_left ?_
    rintro ⟨a, named, value⟩
    cases shape named with
    | addr n => exact ⟨n, named, value⟩
  · refine (foldlM_field (k := .POLICY) (field := Settings.policy) (fun c d p ok h => (State.editOne_some ok h).2.2.2.1) ok
      distinct written).imp_left ?_
    rintro ⟨a, named, value⟩
    cases shape named with
    | policy p => cases value; exact ⟨d.policy, named, rfl⟩
  · refine (foldlM_field (k := .SHOW) (field := Settings.shown) (fun c d p ok h => (State.editOne_some ok h).2.2.2.2.1) ok
      distinct written).imp_left ?_
    rintro ⟨a, named, value⟩
    cases shape named with
    | shown b => cases value; exact ⟨d.shown, named, rfl⟩
  · refine (foldlM_field (k := .FEEDER) (field := Settings.feeder) (fun c d p ok h => (State.editOne_some ok h).2.2.2.2.2)
      ok distinct written).imp_left ?_
    rintro ⟨a, named, value⟩
    cases shape named with
    | feeder f => cases value; exact ⟨d.feeder, named, rfl⟩

end Sys2Proof.Machine
end

section
/-! The household table (R20, R21, R161): what the requests that write a record do to it. -/

namespace Sys2Proof.Machine

/-! ## Addresses -/

theorem State.boundTo_iff (s : State) (f : Feeder) (addr : Nat) (i : Slot) :
    s.boundTo f addr i = true ↔
      (s.household i).member ≠ .vacant ∧ ∃ c, (s.household i).settings = some c ∧ c.feeder = f ∧ c.addr = addr := by
  unfold State.boundTo
  cases (s.household i).settings <;> simp [Household.present]

theorem State.addressTaken_iff (s : State) (f : Feeder) (addr : Nat) (i : Slot) :
    s.addressTaken f addr i = true ↔ ∃ j, j ≠ i ∧ s.boundTo f addr j = true := by
  simp [State.addressTaken, allSlots]

/-- An address that no other household holds. -/
theorem State.free_of_addressTaken {s : State} (k : s.tableSound) {f : Feeder} {addr : Nat} {i : Slot}
    (free : s.addressTaken f addr i = false) {j : Slot} {c : Settings} (other : j ≠ i)
    (held : (s.household j).settings = some c) : ¬(c.feeder = f ∧ c.addr = addr) := by
  rintro ⟨feeder, address⟩
  have present : (s.household j).member ≠ .vacant := fun v => by simp [(k.1 j).1.mp v] at held
  have taken := (s.addressTaken_iff f addr i).mpr ⟨j, other, (s.boundTo_iff _ _ _).mpr ⟨present, c, held, feeder, address⟩⟩
  simp [taken] at free

/-- A table of which one record has been rewritten soundly, with a binding that no other household has. -/
theorem tableSound_of_one {s t : State} (k : s.tableSound) {i : Slot} (others : ∀ j, j ≠ i → t.household j = s.household j)
    (sound : (t.household i).sound)
    (free : ∀ d j c, (t.household i).settings = some d → j ≠ i → (s.household j).settings = some c →
      ¬(c.feeder = d.feeder ∧ c.addr = d.addr)) : t.tableSound := by
  refine ⟨fun j => ?_, fun j l c d hc hd feeder addr => ?_⟩
  · by_cases same : j = i
    · exact same ▸ sound
    · exact others j same ▸ k.1 j
  · by_cases ji : j = i <;> by_cases li : l = i
    · rw [ji, li]
    · subst ji
      rw [others l li] at hd
      exact absurd ⟨feeder.symm, addr.symm⟩ (free c l d hc li hd)
    · subst li
      rw [others j ji] at hc
      exact absurd ⟨feeder, addr⟩ (free d j c hd ji hc)
    · rw [others j ji] at hc
      rw [others l li] at hd
      exact k.2 j l c d hc hd feeder addr

/-! ## Enrolment and editing -/

/-- The settings that HHENROL accepts (R23, R24). -/
theorem enrolment_some {s : State} {i : Slot} {f : Feeder} {addr cap floor : Int} {p : Policy} {shown : Bool}
    {c : Settings} (h : s.enrolment i f addr cap floor p shown = some c) :
    natIn 1 247 addr = some c.addr ∧ s.addressTaken f c.addr i = false ∧ natIn 1 s.capCeiling cap = some c.cap ∧
      s.floorOk floor = true ∧ c = { feeder := f, addr := c.addr, cap := c.cap, floor := floor, policy := p, shown := shown } := by
  unfold State.enrolment at h
  split at h
  next a cp address capacity =>
    split at h
    next floorOk =>
      cases h
      unfold State.addressFree at address
      split at address
      next b inRange =>
        split at address
        next => cases address
        next free =>
          cases address
          exact ⟨inRange, by simpa using free, capacity, floorOk, rfl⟩
      next => cases address
    next => cases h
  next => cases h

theorem State.holdClosed_others {s : State} {i j : Slot} (other : j ≠ i) :
    (s.holdClosed i).household j = s.household j := by
  unfold State.holdClosed
  dsimp only
  split
  · rfl
  · split
    · rw [State.want, (State.offer_frame _ _ _ _).household (by simp) (by simp) (by simp),
        State.withHousehold_other s (Ne.symm other)]
    · rfl

/-- After the policy write of HOLD_CLOSED the wanted state is CLOSED (R161). -/
theorem State.holdClosed_wanted {s : State} {i : Slot} {c : Settings} (held : (s.household i).settings = some c) :
    ((s.holdClosed i).household i).wanted = .closed := by
  unfold State.holdClosed
  simp only [held]
  split
  · rw [State.want, (State.offer_frame _ _ _ _).household (by simp) (by simp) (by simp)]
    simp
  next closed =>
    cases h : (s.household i).wanted with
    | opened => exact absurd h closed
    | closed => rfl

theorem State.writeSettings_others {s : State} {i j : Slot} {c d : Settings} (other : j ≠ i) :
    (s.writeSettings i c d).household j = s.household j := by
  unfold State.writeSettings
  dsimp only
  split
  · rw [(State.unqueue_frame _ _ _).household (by simp) (by simp) (by simp), State.withHousehold_other s (Ne.symm other)]
  · exact State.withHousehold_other s (Ne.symm other) _

/-- The record that an HHEDIT has written (R25, R26). -/
theorem State.writeSettings_same (s : State) (i : Slot) (c d : Settings) :
    (s.writeSettings i c d).household i =
      { s.household i with
        settings := some d
        confirmed := if c.moved d then none else (s.household i).confirmed } := by
  unfold State.writeSettings
  dsimp only
  split
  · rw [(State.unqueue_frame _ _ _).household (by simp) (by simp) (by simp)]
    simp
  · simp

theorem State.Edited.addr_bounds {s : State} {ps : List (Kw × EditValue)} {c d : Settings} (h : s.Edited ps c d)
    (low : 1 ≤ c.addr) (high : c.addr ≤ 247) : 1 ≤ d.addr ∧ d.addr ≤ 247 := by
  rcases h.addr with ⟨n, -, inRange⟩ | ⟨-, same⟩
  · exact (natIn_some inRange).2
  · exact same ▸ ⟨low, high⟩

/-- Without a binding pair the binding stays. -/
theorem State.Edited.unbound {s : State} {ps : List (Kw × EditValue)} {c d : Settings} (h : s.Edited ps c d)
    (unbound : bindingPair ps = false) : d.feeder = c.feeder ∧ d.addr = c.addr := by
  obtain ⟨feeder, addr⟩ : given ps .FEEDER = none ∧ given ps .ADDR = none := by simpa [bindingPair] using unbound
  exact ⟨(h.feeder.resolve_left (by simp [feeder])).2, (h.addr.resolve_left (by simp [addr])).2⟩

theorem State.edits_tableSound {s : State} (k : s.tableSound) {i : Slot} {c d : Settings} {ps : List (Kw × EditValue)}
    (held : (s.household i).settings = some c) (edited : s.Edited ps c d)
    (free : bindingPair ps = true → s.addressTaken d.feeder d.addr i = false) :
    ((s.writeSettings i c d).afterEdit i ps).tableSound := by
  let t := s.writeSettings i c d
  have written := s.writeSettings_same i c d
  obtain ⟨low, high, wanted⟩ := (k.1 i).2 c held
  have present : (s.household i).member ≠ .vacant := fun v => by simp [(k.1 i).1.mp v] at held
  have bounds := edited.addr_bounds low high
  have unshared (j : Slot) (e : Settings) (other : j ≠ i) (he : (s.household j).settings = some e) :
      ¬(e.feeder = d.feeder ∧ e.addr = d.addr) := by
    cases binds : bindingPair ps with
    | true => exact State.free_of_addressTaken k (free binds) other he
    | false =>
      obtain ⟨feeder, addr⟩ := edited.unbound binds
      rw [feeder, addr]
      exact fun ⟨sameFeeder, sameAddr⟩ => other (k.2 j i e c he held sameFeeder sameAddr)
  have closed : (if given ps .POLICY = some (.policy .holdClosed) then t.holdClosed i else t).tableSound := by
    split
    next =>
      have settings : ((t.holdClosed i).household i).settings = some d := by
        rw [(t.holdClosed_frame i).settings (by simp), written]
      have member : ((t.holdClosed i).household i).member ≠ .vacant := by
        rw [(t.holdClosed_frame i).member (by simp), written]; exact present
      refine tableSound_of_one k (i := i) (fun j other => ?_) ⟨by simp [member, settings], fun e he => ?_⟩
        fun e j f he other hf => ?_
      · rw [State.holdClosed_others other]; exact State.writeSettings_others other
      · cases settings.symm.trans he
        exact ⟨bounds.1, bounds.2, fun _ => State.holdClosed_wanted (c := d) (by rw [written])⟩
      · cases settings.symm.trans he
        exact unshared j f other hf
    next another =>
      refine tableSound_of_one k (i := i) (fun j other => State.writeSettings_others other) ?_ fun e j f he other hf => ?_
      · rw [written]
        refine ⟨by simp [present], fun e he => ?_⟩
        cases he
        refine ⟨bounds.1, bounds.2, fun policy => ?_⟩
        rcases edited.policy with ⟨p, named, same⟩ | ⟨-, same⟩
        · exact absurd (by rw [named, ← same, policy]) another
        · exact wanted (same ▸ policy)
      · rw [written] at he
        cases he
        exact unshared j f other hf
  unfold State.afterEdit
  dsimp only
  split
  · exact (State.evaluate_frame _ i).soundTable (by simp) closed
  · exact closed

/-! ## Every step -/

theorem Accepted.table_sound {bs : List Block} {s t : State} (h : Accepted s bs t) (meets : .soundTable ∈ bs)
    (k : s.tableSound) : t.tableSound := by
  cases h with
  | enrols i c f addr cap floor p shown vacant limit inRange room =>
    obtain ⟨address, free, -, -, same⟩ := enrolment_some inRange
    refine (State.record_frame _ _).soundTable (by simp) ?_
    refine tableSound_of_one k (i := i) (fun j other => State.withHousehold_other s (Ne.symm other) _) ?_
      fun d j e hd other he => ?_
    · rw [State.withHousehold_same]
      refine ⟨by simp [enrolled], fun d hd => ?_⟩
      cases hd
      exact ⟨(natIn_some address).2.1, (natIn_some address).2.2, fun _ => rfl⟩
    · rw [State.withHousehold_same] at hd
      cases hd
      rw [same]
      exact State.free_of_addressTaken k free other he
  | edits i c d rest ps read held idle written free => exact State.edits_tableSound k held (editAll_edited read written) free
  | suspends i member =>
    refine (State.record_frame _ _).soundTable (by simp) (State.withHousehold_table k ?_ (.inr rfl))
    have settings : (s.household i).settings ≠ none := fun none => by simp [(k.1 i).1.mpr none] at member
    exact ⟨by simp [settings], (k.1 i).2⟩
  | enrolsAgain i a member =>
    refine (State.record_frame _ _).soundTable (by simp) (State.withHousehold_table k ?_ (.inr rfl))
    have settings : (s.household i).settings ≠ none := fun none => by simp [(k.1 i).1.mpr none] at member
    exact ⟨by simp [settings], (k.1 i).2⟩
  | leaves i member =>
    refine (State.record_frame _ _).soundTable (by simp) (State.withHousehold_table k ?_ (.inr rfl))
    have settings : (s.household i).settings ≠ none := fun none => member ((k.1 i).1.mpr none)
    exact ⟨by simp [settings], (k.1 i).2⟩
  | _ => simp at meets

theorem tableSound_depends (s t : State) (h : ∀ b ∈ [Block.soundTable], b.same s t) (k : s.tableSound) : t.tableSound :=
  h .soundTable (by simp) k

theorem tableSound_kept : Kept [.soundTable] State.tableSound where
  depends := tableSound_depends
  hostLine s v _ := hostLine_of_depends tableSound_depends (by simp) s v
  finish s r args _ _ :=
    finish_of_accepted tableSound_depends (by simp)
      (fun s cs t h meets => h.table_sound (by simpa using meets)) (fun s p _ k => k) s r args
  event c s request startup meets k := by
    cases c with
    | startupEnd order => exact absurd rfl (startup order)
    | _ => simp [Instr.request, eventBlocks] at request meets
  started s _ := s.started_frame.keeps tableSound_depends (by simp)
  startEvent s examined e service meets := by
    cases e with
    | service => exact absurd rfl service
    | _ => simp [startEventBlocks] at meets

/-- Settles O21: the requests that write a record check it, and no event writes one unsoundly. -/
theorem householdTableStaysSound : Obligations.HouseholdTableStaysSound :=
  fun _ _ sound stepped => tableSound_kept.step (by simp) stepped sound

end Sys2Proof.Machine
end

section
/-! The book store (R42, R43, R67, R199): what the operations do to the keys of the held books, and the soundness of the
store. -/

namespace Sys2Proof.Machine

/-! ## Soundness by the keys of the books -/

/-- A store that is sound, said of the keys of its books. -/
structure State.StoreWell (s : State) : Prop where
  few : s.bookKeys.length ≤ 6
  rising : (s.bookKeys.map BookKey.boundary).Pairwise (fun a b => a < b)
  bounds : ∀ k ∈ s.bookKeys, 1 ≤ k.boundary ∧ k.boundary ≤ s.calendar.bLast ∧ 1 ≤ k.span
  serving : s.bookKeys ≠ [] → s.service = .service
  locked : s.service = .service ↔ s.locked = true
  program : ∀ p, s.charter.program = some p →
    s.service = .commissioning ∧ s.power.phase = .running ∧ ∀ w value, p = .word w value → w ≠ 31
  idle : s.settlement.computation = none → ∀ k ∈ s.bookKeys, k.settling = false
  busy : ∀ c, s.settlement.computation = some c → ∃ k rest, s.bookKeys = k :: rest ∧ k.settling = true ∧
    k.boundary = c.boundary ∧ ∀ r ∈ rest, r.settling = false

theorem State.storeSound_iff (s : State) : s.storeSound ↔ s.StoreWell := by
  have boundaries : s.bookKeys.map BookKey.boundary = s.store.books.map Book.boundary := by
    rw [State.bookKeys, List.map_map]; rfl
  have each (P : BookKey → Prop) : (∀ k ∈ s.bookKeys, P k) ↔ ∀ b ∈ s.store.books, P b.key := by
    simp [State.bookKeys]
  have settling : s.settlingSound ↔
      (s.settlement.computation = none → ∀ k ∈ s.bookKeys, k.settling = false) ∧
        ∀ c, s.settlement.computation = some c → ∃ k rest, s.bookKeys = k :: rest ∧ k.settling = true ∧
          k.boundary = c.boundary ∧ ∀ r ∈ rest, r.settling = false := by
    unfold State.settlingSound State.bookKeys
    cases s.settlement.computation <;> cases s.store.books <;> simp [Book.key]
  constructor
  · rintro ⟨few, rising, bounds, serving, locked, program, fits⟩
    obtain ⟨idle, busy⟩ := settling.mp fits
    exact ⟨by simpa [State.bookKeys] using few, boundaries ▸ rising, (each _).mpr bounds,
      fun some => serving (by simpa [State.bookKeys] using some), locked, program, idle, busy⟩
  · rintro ⟨few, rising, bounds, serving, locked, program, idle, busy⟩
    exact ⟨by simpa [State.bookKeys] using few, boundaries ▸ rising, (each _).mp bounds,
      fun some => serving (by simpa [State.bookKeys] using some), locked, program, settling.mpr ⟨idle, busy⟩⟩

/-- The blocks that the soundness of the store speaks of. -/
abbrev storeBlocks : List Block := [.bookKeys, .calendar, .service, .charter, .power, .computation]

namespace State.StoreWell
variable {s : State} (k : s.StoreWell)
include k

theorem differ : s.boundariesDiffer := k.rising.imp fun h => Nat.ne_of_lt h

theorem empty_of_program {p : Program} (h : s.charter.program = some p) : s.bookKeys = [] := by
  by_contra held
  have := k.serving held
  simp [(k.program p h).1] at this

theorem idle_of_program {p : Program} (h : s.charter.program = some p) : s.settlement.computation = none := by
  cases computed : s.settlement.computation with
  | none => rfl
  | some c =>
    obtain ⟨key, rest, keys, -⟩ := k.busy c computed
    simp [k.empty_of_program h] at keys

/-- A change of the calendar that does not take b_last back. -/
theorem withCalendar {c : Calendar} (h : s.calendar.bLast ≤ c.bLast) : (s.withCalendar c).StoreWell :=
  { k with bounds := fun b hb => ⟨(k.bounds b hb).1, (k.bounds b hb).2.1.trans h, (k.bounds b hb).2.2⟩ }

end State.StoreWell

theorem State.locked_congr {s t : State} (charter : t.charter = s.charter) : t.locked = s.locked := by
  rw [State.locked, State.charterWord, charter]
  rfl

theorem storeWell_depends (s t : State) (h : ∀ b ∈ storeBlocks, b.same s t) (k : s.StoreWell) : t.StoreWell := by
  have keys : t.bookKeys = s.bookKeys := h .bookKeys (by simp) k.differ
  have calendar : t.calendar = s.calendar := h .calendar (by simp)
  have service : t.service = s.service := h .service (by simp)
  have charter : t.charter = s.charter := h .charter (by simp)
  have power : t.power = s.power := h .power (by simp)
  have computation : t.settlement.computation = s.settlement.computation := h .computation (by simp)
  have locked : t.locked = s.locked := State.locked_congr charter
  exact ⟨keys ▸ k.few, keys ▸ k.rising, by rw [keys, calendar]; exact k.bounds, by rw [keys, service]; exact k.serving,
    by rw [service, locked]; exact k.locked, by rw [charter, service, power]; exact k.program,
    by rw [keys, computation]; exact k.idle, by rw [keys, computation]; exact k.busy⟩

/-! ## Resets -/

theorem State.halt_bookKeys (s : State) (phase : PowerPhase) :
    (s.halt phase).bookKeys = s.bookKeys.map fun k => { k with settling := false } := by
  have books : (s.halt phase).store.books = s.store.books.map fun b => { b with state := b.state.undo } :=
    (s.halt_rest_frame phase).books (by simp)
  rw [State.bookKeys, books, State.bookKeys, List.map_map, List.map_map]
  refine List.map_congr_left fun b _ => ?_
  have calm : ({ b with state := b.state.undo } : Book).isSettling = false := by
    unfold Book.isSettling
    cases b.state <;> rfl
  simp only [Function.comp, Book.key, calm]
  rfl

theorem State.halt_computation (s : State) (phase : PowerPhase) : (s.halt phase).settlement.computation = none :=
  (s.halt_rest_frame phase).computation (by simp)

theorem State.beginStartup_service (s : State) (mode : ModeStrap) (rate : Rate) :
    (s.beginStartup mode rate).service = s.resolvedService mode := by
  simp only [State.beginStartup, State.withNotices_service, State.withStore_service, State.withReserve_service,
    State.withFeederB_service, State.withFeederA_service, State.withHost_service, State.withService_service]

namespace State.StoreWell
variable {s : State} (k : s.StoreWell)
include k

theorem halt (none : s.charter.program = none) (phase : PowerPhase) : (s.halt phase).StoreWell := by
  have keys := s.halt_bookKeys phase
  have service : (s.halt phase).service = s.service := (s.halt_frame phase).service (by simp)
  have charter : (s.halt phase).charter = s.charter := (s.halt_frame phase).charter (by simp)
  have locked : (s.halt phase).locked = s.locked := State.locked_congr charter
  refine ⟨by simpa [keys] using k.few, ?_, ?_, ?_, by rw [service, locked]; exact k.locked, by simp [charter, none], ?_, by simp [s.halt_computation]⟩
  · rw [keys, List.map_map]; exact k.rising
  · rw [keys, s.halt_calendar]; simpa using k.bounds
  · rw [keys, service]; simpa using k.serving
  · rw [keys]; simp

theorem beginStartup (none : s.charter.program = none) (mode : ModeStrap) (rate : Rate) :
    (s.beginStartup mode rate).StoreWell := by
  have halted := k.halt none .starting
  have rest := s.beginStartup_rest_frame mode rate
  have charter : (s.beginStartup mode rate).charter = s.charter :=
    (s.beginStartup_frame mode rate).charter (by simp)
  have keys : (s.beginStartup mode rate).bookKeys = (s.halt .starting).bookKeys := rest.bookKeys (by simp) halted.differ
  have service : (s.beginStartup mode rate).service = s.resolvedService mode := s.beginStartup_service mode rate
  have computation := rest.computation (by simp)
  have resolved : s.resolvedService mode = .service ↔ s.locked = true := by
    unfold State.resolvedService
    split
    next locked => simp [locked]
    next unlocked => cases mode <;> simp [unlocked]
  refine ⟨by rw [keys]; exact halted.few, by rw [keys]; exact halted.rising, ?_, ?_, ?_, by simp [charter, none], ?_, ?_⟩
  · rw [keys, rest.calendar (by simp)]; exact halted.bounds
  · rw [keys, service, resolved, ← k.locked, ← (s.halt_frame .starting).service (by simp)]
    exact halted.serving
  · rw [service, resolved, State.locked_congr charter]
  · rw [keys, computation]; exact halted.idle
  · rw [keys, computation]; exact halted.busy

theorem dueReset (none : s.charter.program = none) : s.dueReset.StoreWell := by
  unfold State.dueReset
  split
  · exact k
  · exact k.halt none _
  · exact k.beginStartup none _ _
  all_goals exact k.halt none _

theorem assertReset : s.assertReset.StoreWell := by
  unfold State.assertReset
  split
  next running =>
    split
    · exact { k with program := fun p h => ⟨(k.program p h).1, running, (k.program p h).2.2⟩ }
    next none => exact k.halt (by simpa using none) _
  next starting =>
    refine k.halt ?_ _
    rw [Option.eq_none_iff_forall_ne_some]
    exact fun p h => by simpa [starting] using (k.program p h).2.1
  · exact k
  next off => exact { k with program := fun p h => by simpa [off] using (k.program p h).2.1 }
  · exact k

theorem releaseReset (mode : ModeStrap) (rate : Rate) : (s.releaseReset mode rate).StoreWell := by
  have parked (phase : s.power.phase ≠ .running) : s.charter.program = none := by
    rw [Option.eq_none_iff_forall_ne_some]
    exact fun p h => phase (k.program p h).2.1
  unfold State.releaseReset
  split
  next held => exact k.beginStartup (parked (by simp [held])) _ _
  next running => exact { k with program := fun p h => ⟨(k.program p h).1, running, (k.program p h).2.2⟩ }
  · exact k
  · exact k
  next held => exact { k with program := fun p h => by simp [parked (by simp [held])] at h }

theorem losePower : s.losePower.StoreWell := by
  have parked (phase : s.power.phase ≠ .running) : s.charter.program = none := by
    rw [Option.eq_none_iff_forall_ne_some]
    exact fun p h => phase (k.program p h).2.1
  unfold State.losePower
  split
  next running =>
    split
    · exact { k with program := fun p h => ⟨(k.program p h).1, running, (k.program p h).2.2⟩ }
    next none => exact k.halt (by simpa using none) _
  next starting => exact k.halt (parked (by simp [starting])) _
  next held => exact k.halt (parked (by simp [held])) _
  all_goals exact k

theorem judgeCalendar (held : Bool) : (s.judgeCalendar held).StoreWell := by
  unfold State.judgeCalendar
  split
  · exact k
  · exact k.withCalendar (Nat.le_refl _)

theorem powerOn (held : Bool) (mode : ModeStrap) (rate : Rate) : (s.powerOn held mode rate).StoreWell := by
  have parked (phase : s.power.phase ≠ .running) : s.charter.program = none := by
    rw [Option.eq_none_iff_forall_ne_some]
    exact fun p h => phase (k.program p h).2.1
  unfold State.powerOn
  split
  next off => exact (k.beginStartup (parked (by simp [off])) _ _).judgeCalendar _
  next off =>
    refine StoreWell.judgeCalendar ?_ _
    exact { k with program := fun p h => by simp [parked (by simp [off])] at h }
  all_goals exact k

/-! ## Charter programs -/

/-- A charter word programmed: no books are held while a program is in flight. -/
theorem programmed {p : Program} (h : s.charter.program = some p) {t : State} (keys : t.bookKeys = s.bookKeys)
    (computation : t.settlement.computation = s.settlement.computation) (none : t.charter.program = none)
    (locked : t.service = .service ↔ t.locked = true) : t.StoreWell := by
  have empty := k.empty_of_program h
  exact ⟨by simp [keys, empty], by simp [keys, empty], by simp [keys, empty], by simp [keys, empty], locked,
    by simp [none], by simp [keys, empty], by simp [computation, k.idle_of_program h]⟩

theorem completeProgram : s.completeProgram.StoreWell := by
  unfold State.completeProgram
  split
  next w value h =>
    have written := s.programWord_frame w value
    have charter : (s.programWord w value).charter = { words := s.charter.words.set w value, program := none } := by
      unfold State.programWord
      dsimp only
      split
      · exact (State.lengthProgrammed_frame _ _).charter (by simp)
      · rfl
    have other : w ≠ 31 := (k.program _ h).2.2 w value rfl
    have locked : (s.programWord w value).locked = s.locked := by
      simp only [State.locked, State.charterWord, charter, charter_setWord, if_neg other]
      rfl
    have well : (s.programWord w value).StoreWell :=
      k.programmed h (written.bookKeys (by simp) k.differ) (written.computation (by simp)) (by rw [charter])
        (by rw [written.service (by simp), locked]; exact k.locked)
    have answered := State.answerProgram_frame (s.programWord w value) (okLine [.nat w.val, .nat value.toNat])
    exact (answered.keeps storeWell_depends (by simp) well).dueReset (by rw [answered.charter (by simp), charter])
  · exact k

theorem completeLock : s.completeLock.StoreWell := by
  unfold State.completeLock
  split
  next h =>
    have charter : s.programLock.charter = { words := s.charter.words.set 31 0, program := none } := rfl
    have locked : s.programLock.locked = true := by
      simp [State.locked, State.charterWord, charter]
    have well : s.programLock.StoreWell := k.programmed h rfl rfl (by rw [charter]) (by rw [locked]; exact iff_of_true rfl rfl)
    have answered := State.answerProgram_frame s.programLock (okLine [.kw .SERVICE])
    exact (answered.keeps storeWell_depends (by simp) well).dueReset (by rw [answered.charter (by simp), charter])
  · exact k

/-! ## Boundary events -/

end State.StoreWell

/-- What a boundary event does to the keys: nothing, or a book joins (R46, R49). -/
theorem State.boundaryAtStore_keys (s : State) (len b step : Nat) :
    (s.boundaryAtStore len b step).bookKeys = s.bookKeys ∨
      s.service = .service ∧ s.bookKeys.length < 6 ∧ ∃ t : State, t.store.fresh = s.store.fresh ∧
        t.store.carried = s.store.carried ∧ t.table = s.table ∧
        (s.boundaryAtStore len b step).bookKeys = s.bookKeys ++ [(t.newBook len b step).key] := by
  unfold State.boundaryAtStore
  split
  · exact .inl rfl
  next service =>
    split
    · exact .inl (State.notify_frame _ _ |>.books (by simp) |> bookKeys_congr)
    · dsimp only
      let t := s.withStore { s.store with books := closeByGrace s.grace b s.store.books }
      have closed : t.bookKeys = s.bookKeys := closeByGrace_keys _ _ _
      split
      next room =>
        refine .inr ⟨by simpa using service, ?_, t, rfl, rfl, rfl, ?_⟩
        · rw [← closed, State.bookKeys, List.length_map]
          exact room
        · rw [← closed]
          exact List.map_append
      next => exact .inl ((State.notify_frame _ _ |>.books (by simp) |> bookKeys_congr).trans closed)

namespace State.StoreWell
variable {s : State} (k : s.StoreWell)
include k

theorem boundaryEvent {len b : Nat} (later : s.calendar.bLast < b) : (s.boundaryEvent len b).StoreWell := by
  let t := s.withCalendar { s.calendar with bLast := b, held := false }
  have dated : t.StoreWell := k.withCalendar (Nat.le_of_lt later)
  have rest := s.boundaryEvent_rest_frame len b
  have books : (s.boundaryEvent len b).store.books = (t.boundaryAtStore len b (b - s.calendar.bLast)).store.books := by
    unfold State.boundaryEvent
    dsimp only
    rw [(State.buildPass_frame _ .B b _).books (by simp), (State.buildPass_frame _ .A b _).books (by simp),
      (State.retry_frame _).books (by simp)]
  have keys := bookKeys_congr books
  rcases t.boundaryAtStore_keys len b (b - s.calendar.bLast) with same | ⟨service, few, u, fresh, carried, -, joined⟩
  · have kept : Frame [.books, .counts, .reserve, .deferral, .feeder .A, .feeder .B, .notices] t (s.boundaryEvent len b) :=
      rest.without fun _ => keys.trans same
    exact kept.keeps storeWell_depends (by simp) dated
  · have all : (s.boundaryEvent len b).bookKeys = t.bookKeys ++ [(u.newBook len b (b - s.calendar.bLast)).key] :=
      keys.trans joined
    have span : 1 ≤ u.store.nextSpan (b - s.calendar.bLast) := by
      unfold BookStore.nextSpan
      split <;> omega
    have charter : (s.boundaryEvent len b).charter = s.charter := rest.charter (by simp)
    have computation : (s.boundaryEvent len b).settlement.computation = s.settlement.computation := rest.computation (by simp)
    refine ⟨?_, ?_, ?_, fun _ => ?_, ?_, ?_, ?_, ?_⟩
    · rw [all, List.length_append]; exact few
    · rw [all, List.map_append, List.pairwise_append]
      refine ⟨dated.rising, by simp, fun old hold new hnew => ?_⟩
      obtain ⟨key, held, rfl⟩ := List.mem_map.mp hold
      cases List.mem_singleton.mp hnew
      exact Nat.lt_of_le_of_lt (k.bounds key held).2.1 later
    · rw [all, s.boundaryEvent_calendar]
      intro key hkey
      rcases List.mem_append.mp hkey with hkey | hkey
      · exact dated.bounds key hkey
      · cases List.mem_singleton.mp hkey
        exact ⟨Nat.lt_of_le_of_lt (Nat.zero_le _) later, Nat.le_refl _, span⟩
    · rw [rest.service (by simp)]; exact service
    · rw [rest.service (by simp), State.locked_congr charter]; exact k.locked
    · rw [charter, rest.service (by simp), rest.power (by simp)]; exact k.program
    · rw [computation, all]
      intro none key hkey
      rcases List.mem_append.mp hkey with hkey | hkey
      · exact k.idle none key hkey
      · cases List.mem_singleton.mp hkey; rfl
    · rw [computation, all]
      intro c computed
      obtain ⟨key, tail, held, settling, boundary, calm⟩ := k.busy c computed
      have held : t.bookKeys = key :: tail := held
      refine ⟨key, tail ++ [_], by rw [held]; rfl, settling, boundary, fun r hr => ?_⟩
      rcases List.mem_append.mp hr with hr | hr
      · exact calm r hr
      · cases List.mem_singleton.mp hr; rfl

theorem checkBoundary : s.checkBoundary.StoreWell := by
  unfold State.checkBoundary
  split
  · exact k
  · split
    · exact k.boundaryEvent (Nat.lt_succ_self _)
    · exact k

theorem catchUp : s.catchUp.StoreWell := by
  unfold State.catchUp
  split
  · exact k
  · split
    next later => exact k.boundaryEvent (by simp at later; exact later.2)
    next => exact k

theorem invalidate (t : DateTime) : (s.invalidate t).StoreWell :=
  (State.notify_frame _ _).keeps storeWell_depends (by simp) (k.withCalendar (Nat.le_refl _))

theorem completeAlignment : s.completeAlignment.StoreWell := by
  unfold State.completeAlignment
  split
  · exact StoreWell.checkBoundary (k.withCalendar (Nat.le_refl _))
  · exact k.invalidate _

theorem calendarStep : s.calendarStep.StoreWell := by
  unfold State.calendarStep
  split
  · exact k
  split
  · exact k.completeAlignment
  split
  · exact StoreWell.checkBoundary (k.withCalendar (Nat.le_refl _))
  · exact k.invalidate _

/-! ## Settlement -/

omit k in
/-- Keys of which the one at a boundary is changed. -/
theorem mapBook_bookKeys {n : Nat} {f : Book → Book} {g : BookKey → BookKey}
    (h : ∀ b ∈ s.store.books, b.boundary = n → (f b).key = g b.key) :
    (s.mapBook n f).bookKeys = s.bookKeys.map fun key => if key.boundary = n then g key else key := by
  have books : (s.mapBook n f).store.books = s.store.books.map fun b => if b.boundary = n then f b else b := rfl
  rw [State.bookKeys, books, State.bookKeys, List.map_map, List.map_map]
  refine List.map_congr_left fun b hb => ?_
  dsimp only [Function.comp]
  have boundary : b.key.boundary = b.boundary := rfl
  rw [boundary]
  split
  next same => exact h b hb same
  next => rfl

/-- The keys after the first lie above it. -/
theorem rest_above {key : BookKey} {rest : List BookKey} (keys : s.bookKeys = key :: rest) :
    ∀ r ∈ rest, key.boundary < r.boundary := by
  have rising := k.rising
  rw [keys, List.map_cons, List.pairwise_cons] at rising
  exact fun r hr => rising.1 _ (List.mem_map_of_mem hr)

/-- Books that begin or cease to be SETTLING. -/
theorem resettled {t : State} {cs : List Block} (frame : Frame cs s t) {f : BookKey → BookKey}
    (boundary : ∀ key, (f key).boundary = key.boundary) (span : ∀ key, (f key).span = key.span)
    (keys : t.bookKeys = s.bookKeys.map f)
    (idle : t.settlement.computation = none → ∀ k ∈ t.bookKeys, k.settling = false)
    (busy : ∀ c, t.settlement.computation = some c → ∃ k rest, t.bookKeys = k :: rest ∧ k.settling = true ∧
      k.boundary = c.boundary ∧ ∀ r ∈ rest, r.settling = false)
    (calendar : .calendar ∉ cs) (service : .service ∉ cs) (charter : .charter ∉ cs) (power : .power ∉ cs) :
    t.StoreWell := by
  have boundaries : t.bookKeys.map BookKey.boundary = s.bookKeys.map BookKey.boundary := by
    rw [keys, List.map_map]
    exact List.map_congr_left fun key _ => boundary key
  refine ⟨by rw [keys, List.length_map]; exact k.few, by rw [boundaries]; exact k.rising, ?_, ?_, ?_, ?_, idle, busy⟩
  · rw [keys, frame.calendar calendar]
    intro key hkey
    obtain ⟨old, held, rfl⟩ := List.mem_map.mp hkey
    rw [boundary, span]
    exact k.bounds old held
  · rw [keys, frame.service service]
    exact fun held => k.serving (by simpa using held)
  · rw [frame.service service, State.locked_congr (frame.charter charter)]; exact k.locked
  · rw [frame.charter charter, frame.service service, frame.power power]; exact k.program

end State.StoreWell

/-- The start conditions: the oldest held book is DUE, and the engine is IDLE without a cause in SERVICE with the monitor
GOOD (R68). -/
theorem State.startable_iff (s : State) (b : Book) (c : Cause) :
    s.startable = some (b, c) ↔
      s.settlement.computation = none ∧ s.settlement.deferral = .none ∧ s.service = .service ∧ s.supply.warning = false ∧
        ∃ rest, s.store.books = b :: rest ∧ b.state = .due c := by
  have oldest : s.oldestDue = some (b, c) ↔ ∃ rest, s.store.books = b :: rest ∧ b.state = .due c := by
    unfold State.oldestDue
    cases s.store.books with
    | nil => simp
    | cons k rest => cases h : k.state <;> simp <;> grind
  unfold State.startable
  rw [← oldest]
  cases s.settlement.computation <;> simp [and_assoc]

/-- The entry of a slot after the firing. -/
theorem State.fire_entry (s : State) (b : Book) (i : Slot) :
    (s.fire b)[i] = (s.firing b i).elim b.entries[i] fun e => .substituted e.imp e.exp := by
  rw [State.fire, tabulate_at]
  cases s.firing b i <;> rfl

theorem State.firing_of_concerned (s : State) {b : Book} {i : Slot} {e : Sub} (fires : s.firing b i = some e) :
    b.concerns i = true := by
  unfold State.firing at fires
  split at fires
  next concerned => exact concerned
  next => cases fires

theorem Book.concerns_iff (b : Book) (i : Slot) : b.concerns i = true ↔ b.entries[i] ≠ .excluded := by
  simp [Book.concerns]

/-- Firing leaves the slots that a book concerns (R61). -/
theorem State.fire_concerns (s : State) (b : Book) (i : Slot) :
    ({ b with entries := s.fire b } : Book).concerns i = b.concerns i := by
  rw [Bool.eq_iff_iff, Book.concerns_iff, Book.concerns_iff]
  change (s.fire b)[i] ≠ .excluded ↔ _
  rw [s.fire_entry]
  cases fires : s.firing b i with
  | some e => simpa using (b.concerns_iff i).mp (s.firing_of_concerned fires)
  | none => rfl

namespace State.StoreWell
variable {s : State} (k : s.StoreWell)
include k

theorem takeBook_keys {b : Book} {c : Cause} (held : b ∈ s.store.books) :
    (s.takeBook b c).bookKeys =
      s.bookKeys.map fun key => if key.boundary = b.boundary then { key with settling := true } else key := by
  refine mapBook_bookKeys (s := s) (f := fun b' => { b' with state := .settling c, entries := s.fire b })
    fun k' other same => ?_
  obtain rfl := State.eq_of_boundary k.differ held other same
  simp only [Book.key, BookKey.mk.injEq, true_and]
  exact ⟨rfl, funext fun i => s.fire_concerns k' i⟩

theorem takeBook {b : Book} {c : Cause} {rest : List Book} (books : s.store.books = b :: rest)
    (uncomputed : s.settlement.computation = none) : (s.takeBook b c).StoreWell := by
  have frame := s.takeBook_frame b c
  have head : s.bookKeys = b.key :: rest.map Book.key := by rw [State.bookKeys, books]; rfl
  have above := k.rest_above head
  have keys := k.takeBook_keys (c := c) (b := b) (by rw [books]; simp)
  have taken : (s.takeBook b c).bookKeys = { b.key with settling := true } :: rest.map Book.key := by
    rw [keys, head, List.map_cons]
    have boundary : b.key.boundary = b.boundary := rfl
    rw [if_pos boundary]
    congr 1
    refine List.map_congr_left (g := id) (fun key hkey => ?_) |>.trans (List.map_id _)
    exact if_neg (Nat.ne_of_gt (above key hkey))
  refine k.resettled frame (fun key => ?_) (fun key => ?_) keys (fun none => ?_) (fun d computed => ?_) (by simp)
    (by simp) (by simp) (by simp)
  · split <;> rfl
  · split <;> rfl
  · cases none
  · cases computed
    refine ⟨_, _, taken, rfl, rfl, fun r hr => ?_⟩
    exact k.idle uncomputed r (by rw [head]; exact List.mem_cons_of_mem _ hr)

theorem startSettling : s.startSettling.StoreWell := by
  unfold State.startSettling
  split
  next b c start =>
    obtain ⟨uncomputed, -, -, -, rest, books, -⟩ := (s.startable_iff b c).mp start
    exact k.takeBook books uncomputed
  next => exact k

/-- The book of a computation in flight is the oldest. -/
theorem bookOf_computation {c : Computation} (computed : s.settlement.computation = some c) {b : Book}
    (held : s.bookOf c.boundary = some b) :
    ∃ rest, s.store.books = b :: rest ∧ b.boundary = c.boundary ∧ ∀ r ∈ rest, r.isSettling = false ∧ b.boundary < r.boundary := by
  obtain ⟨key, tail, keys, -, boundary, calm⟩ := k.busy c computed
  obtain ⟨member, named⟩ := State.bookOf_some held
  have above := k.rest_above keys
  unfold State.bookKeys at keys
  obtain ⟨first, rest, books, head, others⟩ := List.map_eq_cons_iff.mp keys
  have same : b = first := by
    refine State.eq_of_boundary k.differ (by rw [books]; simp) member ?_
    rw [named, ← boundary, ← head]
    rfl
  subst same
  refine ⟨rest, books, named, fun r hr => ?_⟩
  have tailed : r.key ∈ tail := others ▸ List.mem_map_of_mem hr
  exact ⟨calm _ tailed, by have := above _ tailed; rwa [← head] at this⟩

omit k in
theorem failPosting_keys (b : Book) (d : Deferral) (n : Notice) :
    (s.failPosting b d n).bookKeys =
      s.bookKeys.map fun key => if key.boundary = b.boundary then { key with settling := false } else key := by
  refine (bookKeys_congr ((State.notify_frame _ _).books (by simp))).trans
    (mapBook_bookKeys (s := s) (f := fun b => { b with state := b.state.undo }) fun k' _ _ => ?_)
  have calm : ({ k' with state := k'.state.undo } : Book).isSettling = false := by
    unfold Book.isSettling
    cases k'.state <;> rfl
  simp only [Book.key, calm]
  rfl

theorem failPosting {c : Computation} (computed : s.settlement.computation = some c) {b : Book}
    (held : s.bookOf c.boundary = some b) (d : Deferral) (n : Notice) : (s.failPosting b d n).StoreWell := by
  obtain ⟨rest, books, -, calm⟩ := k.bookOf_computation computed held
  have frame := s.failPosting_frame b d n
  have keys := failPosting_keys (s := s) b d n
  refine k.resettled frame (fun key => ?_) (fun key => ?_) keys (fun _ key hkey => ?_) (fun d computed => ?_) (by simp)
    (by simp) (by simp) (by simp)
  · split <;> rfl
  · split <;> rfl
  · rw [keys] at hkey
    obtain ⟨old, held, rfl⟩ := List.mem_map.mp hkey
    split
    next => rfl
    next other =>
      rw [State.bookKeys, books, List.map_cons] at held
      rcases List.mem_cons.mp held with rfl | held
      · exact absurd rfl other
      · obtain ⟨r, hr, rfl⟩ := List.mem_map.mp held
        exact (calm r hr).1
  · cases computed

end State.StoreWell

/-- The books after a posting. -/
theorem State.post_books (s : State) (b : Book) (c : Computation) :
    (s.post b c).store.books = s.store.books.filter fun k => k.boundary ≠ b.boundary := by
  rw [s.post_eq, (State.evaluations_frame _ _).books (by simp), (s.postRecord_frame b c).books (by simp),
    (s.postGone_frame b c).books (by simp)]
  have slots := (s.postSlots_frame c).books (by simp)
  unfold State.postBook
  dsimp only
  rw [show ∀ t : State, (t.removeSubsAtPosting b).store.books = t.store.books from fun t =>
    (t.removeSubsAtPosting_frame b).books (by simp)]
  simp only [State.withStore_store, State.withFund_store, slots]

theorem State.post_settlement (s : State) (b : Book) (c : Computation) :
    (s.post b c).settlement = { computation := none, deferral := .none } := by
  rw [s.post_eq, (State.evaluations_frame _ _).settlement (by simp) (by simp)]
  rfl

namespace State.StoreWell
variable {s : State} (k : s.StoreWell)
include k

theorem post {c : Computation} (computed : s.settlement.computation = some c) {b : Book}
    (held : s.bookOf c.boundary = some b) : (s.post b c).StoreWell := by
  obtain ⟨rest, books, -, calm⟩ := k.bookOf_computation computed held
  have frame := s.post_frame b c
  have left : (s.post b c).store.books = rest := by
    rw [s.post_books, books, List.filter_cons_of_neg (by simp)]
    exact List.filter_eq_self.mpr fun r hr => by simpa using Nat.ne_of_gt (calm r hr).2
  have keys : s.bookKeys = b.key :: (s.post b c).bookKeys := by rw [State.bookKeys, State.bookKeys, books, left]; rfl
  have sub : (s.post b c).bookKeys.Sublist s.bookKeys := by rw [keys]; exact List.sublist_cons_self _ _
  refine ⟨sub.length_le.trans k.few, k.rising.sublist (sub.map _), ?_, ?_, ?_, ?_, ?_, ?_⟩
  · rw [frame.calendar (by simp)]
    exact fun key hkey => k.bounds key (sub.subset hkey)
  · rw [frame.service (by simp)]
    exact fun _ => k.serving (by simp [keys])
  · rw [frame.service (by simp), State.locked_congr (frame.charter (by simp))]; exact k.locked
  · rw [frame.charter (by simp), frame.service (by simp), frame.power (by simp)]; exact k.program
  · rw [State.bookKeys, left]
    intro _ key hkey
    obtain ⟨r, hr, rfl⟩ := List.mem_map.mp hkey
    exact (calm r hr).1
  · rw [s.post_settlement]
    intro d computed
    cases computed

theorem attemptPosting : s.attemptPosting.StoreWell := by
  have attempted := s.attemptPosting_attempted
  generalize s.attemptPosting = t at attempted
  cases attempted with
  | idle => exact k
  | dropped c computed unheld =>
    obtain ⟨key, tail, keys, -, boundary, -⟩ := k.busy c computed
    unfold State.bookKeys at keys
    obtain ⟨first, rest, books, head, -⟩ := List.map_eq_cons_iff.mp keys
    have absent := List.find?_eq_none.mp unheld first (by rw [books]; simp)
    rw [← head] at boundary
    exact absurd boundary (by simpa [Book.key] using absent)
  | failed c b d n computed held => exact k.failPosting computed held d n
  | posted c b computed held => exact k.post computed held

end State.StoreWell

/-! ## Every step -/

theorem Accepted.store_well {bs : List Block} {s t : State} (h : Accepted s bs t) (meets : ∃ b ∈ storeBlocks, b ∈ bs)
    (k : s.StoreWell) : t.StoreWell := by
  cases h with
  | setsClock => exact k.withCalendar (Nat.le_refl _)
  | givesEvent d len valid length above =>
    exact State.StoreWell.boundaryEvent (s := s.setClock d) (k.withCalendar (Nat.le_refl _)) above
  | holdsClock d =>
    refine (State.notify_frame _ _).keeps storeWell_depends (by simp) ?_
    exact State.StoreWell.withCalendar (s := s.setClock d) (k.withCalendar (Nat.le_refl _)) (Nat.le_refl _)
  | aligns => exact k.withCalendar (Nat.le_refl _)
  | wipes service =>
    have frame := s.wipe_frame
    have empty : s.wipe.bookKeys = [] := rfl
    have idle : s.settlement.computation = none := by
      cases computed : s.settlement.computation with
      | none => rfl
      | some c =>
        obtain ⟨key, rest, keys, -⟩ := k.busy c computed
        have serving := k.serving (by simp [keys])
        simp [service] at serving
    refine ⟨by simp [empty], by simp [empty], by simp [empty], by simp [empty], ?_, ?_, by simp [empty], ?_⟩
    · rw [frame.service (by simp), State.locked_congr (frame.charter (by simp))]; exact k.locked
    · rw [frame.charter (by simp), frame.service (by simp), frame.power (by simp)]; exact k.program
    · rw [frame.computation (by simp), idle]
      intro c computed
      cases computed
  | _ => simp at meets

theorem storeWell_kept : Kept storeBlocks State.StoreWell where
  depends := storeWell_depends
  hostLine s v _ := hostLine_of_depends storeWell_depends (by simp) s v
  finish s r args running _ k := by
    have answered := serveRequest_answer (s := s) r args
    generalize serveRequest r args s = o at answered
    cases answered with
    | refused reply => exact hostLine_of_depends storeWell_depends (by simp) s _ k
    | done cs t reply h =>
      refine hostLine_of_depends storeWell_depends (by simp) t _ ?_
      by_cases meets : ∃ b ∈ storeBlocks, b ∈ cs
      · exact h.store_well meets k
      · exact h.frame.keeps storeWell_depends meets k
    | programming p allowed =>
      refine hostLine_of_depends storeWell_depends (by simp) _ _ ?_
      refine { k with program := ?_ }
      rintro q same
      cases same
      exact ⟨allowed.commissioning, running, fun w value same => (allowed.word w value same).1⟩
  event c s request startup meets k := by
    cases c with
    | charterProgramCompletion => exact whileRunning_keeps k fun _ => k.completeProgram
    | lockCompletion => exact whileRunning_keeps k fun _ => k.completeLock
    | calendarStep => exact k.calendarStep
    | alignmentCompletion =>
      refine whileRunning_keeps
        (f := fun s => if s.calendar.valid && s.calendar.aligning then s.completeAlignment else s) k fun _ => ?_
      split
      · exact k.completeAlignment
      · exact k
    | settlingStart => exact whileRunning_keeps k fun _ => atGrant_keeps _ _ k k.startSettling
    | postingAttempt => exact whileRunning_keeps k fun _ => atGrant_keeps _ _ k k.attemptPosting
    | resetPinAssert => exact k.assertReset
    | resetPinRelease mode rate => exact k.releaseReset mode rate
    | powerLoss => exact k.losePower
    | powerOn held mode rate => exact k.powerOn held mode rate
    | startupEnd order => exact absurd rfl (startup order)
    | _ => simp [Instr.request, eventBlocks] at request meets
  started s starting k := by
    have none : s.charter.program = none := by
      rw [Option.eq_none_iff_forall_ne_some]
      exact fun p h => by simpa [starting] using (k.program p h).2.1
    exact { k with program := fun p h => by simp [State.started, none] at h }
  startEvent s examined e service meets running k := by
    cases e with
    | service => exact absurd rfl service
    | catchUp => exact k.catchUp
    | settling => exact atGrant_keeps _ _ k k.startSettling
    | _ => simp [startEventBlocks] at meets

/-- Settles O27: an invariant of the keys of the books, which most operations leave as they are. -/
theorem bookStoreStaysSound : Obligations.BookStoreStaysSound := by
  intro s t sound stepped
  exact t.storeSound_iff.mpr (storeWell_kept.step (by simp) stepped (s.storeSound_iff.mp sound))

end Sys2Proof.Machine
end

section
/-! The reserve watch, the values that the charter bounds, and the balances (R15, R16, R20, R21, R36, R136, R149, R152): each
kept by every step. -/

namespace Sys2Proof.Machine

/-! ## The reserve watch -/

/-- A flag of the accumulator is held when the state at the moment calls for it (R149). -/
structure ReserveFlags.Cover (f : ReserveFlags) (w : WatchState) : Prop where
  scarce : w.effective = .scarce → f.scarce = true
  surplus : w.effective = .surplus → f.surplus = true
  stale : w.isStale = true → f.stale = true

/-- A reserve watch in its ranges (R136, R140, R149, R152). -/
structure Reserve.Sound (r : Reserve) : Prop where
  settings : r.settings.sound
  counters : r.countersSound
  timer : r.timer = none ↔ r.state.isStale = true
  last : ∀ v, r.last = some v → v.charge ≤ 1000
  counts : r.accepted ≤ 65535 ∧ r.bad ≤ 65535 ∧ r.repeats ≤ 65535 ∧ r.outOfRange ≤ 65535
  cover : r.flags.Cover r.state

theorem State.reserveSound_iff (s : State) : s.reserveSound ↔ s.reserve.Sound :=
  ⟨fun ⟨settings, counters, timer, last, counts, scarce, surplus, stale⟩ =>
      ⟨settings, counters, timer, last, counts, ⟨scarce, surplus, stale⟩⟩,
    fun ⟨settings, counters, timer, last, counts, ⟨scarce, surplus, stale⟩⟩ =>
      ⟨settings, counters, timer, last, counts, scarce, surplus, stale⟩⟩

theorem WatchState.flags_cover (w : WatchState) : w.flags.Cover w :=
  ⟨fun h => by simp [WatchState.flags, h], fun h => by simp [WatchState.flags, h], fun h => by simp [WatchState.flags, h]⟩

theorem ReserveFlags.join_cover (f : ReserveFlags) (w : WatchState) : (f.join w.flags).Cover w :=
  ⟨fun h => by simp [ReserveFlags.join, w.flags_cover.scarce h], fun h => by simp [ReserveFlags.join, w.flags_cover.surplus h],
    fun h => by simp [ReserveFlags.join, w.flags_cover.stale h]⟩

theorem ReserveSettings.sound_divisor {c : ReserveSettings} (h : c.sound) : 1 ≤ c.divisor := by
  obtain ⟨-, -, -, -, -, divisor, -⟩ := h
  omega

theorem ReserveSettings.sound_count {c : ReserveSettings} (h : c.sound) : 1 ≤ c.count := by
  obtain ⟨-, -, -, -, -, -, count, -⟩ := h
  exact count

theorem ReserveSettings.default_sound : ReserveSettings.default.sound := by
  simp [ReserveSettings.sound, ReserveSettings.default]

/-- The counters at 0 are in their ranges under any settings (R153). -/
theorem Reserve.countersSound_of_zero {r : Reserve} (settings : r.settings.sound) (position : r.position < r.settings.divisor)
    (scarcity : r.scarcity = 0) (surplus : r.surplus = 0) (leaving : r.leaving = 0) : r.countersSound := by
  have count := ReserveSettings.sound_count settings
  exact ⟨position, by omega, by omega, by omega, fun _ => ⟨scarcity, surplus⟩, fun _ _ => leaving⟩

theorem Reserve.clearCounters_sound {r : Reserve} (k : r.Sound) {c : ReserveSettings} (sound : c.sound) :
    ({ r.clearCounters with settings := c } : Reserve).Sound :=
  { k with
    settings := sound
    counters := Reserve.countersSound_of_zero sound (ReserveSettings.sound_divisor sound) rfl rfl rfl }

theorem Reserve.restart_sound {r : Reserve} (sound : r.settings.sound) : r.restart.Sound where
  settings := sound
  counters := Reserve.countersSound_of_zero sound (ReserveSettings.sound_divisor sound) rfl rfl rfl
  timer := by simp [Reserve.restart, Reserve.fresh, WatchState.isStale]
  last := by simp [Reserve.restart, Reserve.fresh]
  counts := by simp [Reserve.restart, Reserve.fresh]
  cover := ⟨by simp [Reserve.restart, Reserve.fresh, WatchState.effective],
    by simp [Reserve.restart, Reserve.fresh, WatchState.effective], by simp [Reserve.restart, Reserve.fresh]⟩

section
variable {s : State} (k : s.reserve.Sound)
include k

theorem Reserve.Sound.changeCondition (old new : Condition) (running : s.reserve.timer ≠ none) :
    (s.changeCondition old new).reserve.Sound := by
  have changed : (s.changeCondition old new).reserve =
      { s.reserve with
        state := .live new, scarcity := 0, surplus := 0, leaving := 0
        flags := s.reserve.flags.join (WatchState.live new).flags } := by
    unfold State.changeCondition
    dsimp only
    split
    · rw [(State.evaluateAuto_frame _).reserve (by simp), (State.notify_frame _ _).reserve (by simp)]; rfl
    · rw [(State.notify_frame _ _).reserve (by simp)]; rfl
  rw [changed]
  exact { k with
    counters := Reserve.countersSound_of_zero k.settings k.counters.1 rfl rfl rfl
    timer := by simp [WatchState.isStale, running]
    cover := ReserveFlags.join_cover _ _ }

theorem Reserve.Sound.sample (c : Condition) (v : PlantValues) (live : s.reserve.state = .live c) :
    (s.sample c v).reserve.Sound := by
  have running : s.reserve.timer ≠ none := fun stopped => by simpa [live, WatchState.isStale] using k.timer.mp stopped
  obtain ⟨position, scarcity, surplus, leaving, normal, other⟩ := k.counters
  have left (old : Condition) (counts : Bool) (h : s.reserve.state = .live .scarce ∨ s.reserve.state = .live .surplus) :
      (s.sampleLeaving old counts).reserve.Sound := by
    unfold State.sampleLeaving
    dsimp only
    split
    · exact k.changeCondition _ _ running
    next below =>
      refine { k with counters := ⟨position, scarcity, surplus, Nat.lt_of_not_le below, normal, fun a b => ?_⟩ }
      rcases h with h | h
      · exact absurd h a
      · exact absurd h b
  cases c with
  | normal =>
    simp only [State.sample, State.sampleNormal]
    split
    · exact k.changeCondition _ _ running
    split
    · exact k.changeCondition _ _ running
    next scarce surplus =>
      exact { k with
        counters := ⟨position, Nat.lt_of_not_le scarce, Nat.lt_of_not_le surplus, leaving, fun h => absurd live h, other⟩ }
  | scarce => exact left _ _ (.inl live)
  | surplus => exact left _ _ (.inr live)

omit k in
theorem Reserve.inRange_charge {r : Reserve} {v : PlantValues} (h : r.inRange v = true) : v.charge ≤ 1000 := by
  obtain ⟨⟨charge, -⟩, -⟩ : (_ ∧ _) ∧ _ := by simpa only [Reserve.inRange, Bool.and_eq_true] using h
  exact of_decide_eq_true charge

theorem Reserve.Sound.acceptFrame (fr : PlantFrame) (inRange : s.reserve.inRange fr.values = true) :
    (s.acceptFrame fr).reserve.Sound := by
  have last (v : PlantValues) (h : some fr.values = some v) : v.charge ≤ 1000 := by
    cases h; exact Reserve.inRange_charge inRange
  have counts : bump Config.countCeiling s.reserve.accepted ≤ 65535 ∧ _ := ⟨bump_le _ _, k.counts.2⟩
  unfold State.acceptFrame
  dsimp only
  split
  next held stale =>
    rw [(State.notify_frame _ _).reserve (by simp)]
    have stale : s.reserve.state = .stale held := stale
    exact
      { settings := k.settings
        counters := Reserve.countersSound_of_zero k.settings (ReserveSettings.sound_divisor k.settings) rfl rfl rfl
        timer := by simp [WatchState.isStale, Reserve.clearCounters, Reserve.accept]
        last := last
        counts := counts
        cover :=
          ⟨fun h => k.cover.scarce (by rw [stale]; exact h), fun h => k.cover.surplus (by rw [stale]; exact h), by
            simp [WatchState.isStale]⟩ }
  next c live =>
    have live : s.reserve.state = .live c := live
    have accepted (n : Nat) (h : n < s.reserve.settings.divisor) :
        ({ s.reserve.accept fr with position := n } : Reserve).Sound :=
      { k with
        counters := ⟨h, k.counters.2⟩
        timer := by simp [Reserve.accept, live, WatchState.isStale]
        last := last
        counts := counts }
    split
    next below => exact accepted _ below
    next =>
      exact Reserve.Sound.sample (s := s.withReserve { s.reserve.accept fr with position := 0 })
        (accepted 0 (ReserveSettings.sound_divisor k.settings)) c fr.values live

theorem Reserve.Sound.plantFrame (bytes : List Byte) : (s.plantFrame bytes).reserve.Sound := by
  obtain ⟨accepted, bad, repeats, outOfRange⟩ := k.counts
  unfold State.plantFrame
  dsimp only
  split
  · exact { k with counts := ⟨accepted, bump_le _ _, repeats, outOfRange⟩ }
  split
  · exact { k with counts := ⟨accepted, bad, bump_le _ _, outOfRange⟩ }
  split
  · exact { k with counts := ⟨accepted, bad, repeats, bump_le _ _⟩ }
  next inRange => exact k.acceptFrame _ (by simpa using inRange)

theorem Reserve.Sound.plantGap : s.plantGap.reserve.Sound :=
  { k with counts := ⟨k.counts.1, bump_le _ _, k.counts.2.2⟩ }

theorem Reserve.Sound.goStale : s.goStale.reserve.Sound := by
  unfold State.goStale
  split
  · exact k
  next c live =>
    rw [(State.notify_frame _ _).reserve (by simp)]
    exact
      { k with
        counters := Reserve.countersSound_of_zero k.settings k.counters.1 rfl rfl rfl
        timer := by simp [WatchState.isStale]
        cover := ⟨fun h => k.cover.scarce (by rw [live]; exact h), fun h => k.cover.surplus (by rw [live]; exact h), by simp⟩ }

theorem Reserve.Sound.boundaryEvent (len b : Nat) : (s.boundaryEvent len b).reserve.Sound := by
  have handed (t : State) (h : t.reserve = s.reserve) (step : Nat) : (t.boundaryAtStore len b step).reserve.Sound := by
    have sound : t.reserve.Sound := h ▸ k
    unfold State.boundaryAtStore State.skipBoundary
    split
    · exact sound
    split
    · rw [(State.notify_frame _ _).reserve (by simp)]; exact sound
    dsimp only
    split
    · exact { sound with cover := WatchState.flags_cover _ }
    · rw [(State.notify_frame _ _).reserve (by simp)]; exact sound
  unfold State.boundaryEvent
  dsimp only
  rw [(State.buildPass_frame _ _ _ _).reserve (by simp), (State.buildPass_frame _ _ _ _).reserve (by simp),
    (State.retry_frame _).reserve (by simp)]
  exact handed (s.withCalendar { s.calendar with bLast := b, held := false }) rfl _

theorem Reserve.Sound.checkBoundary : s.checkBoundary.reserve.Sound := by
  unfold State.checkBoundary
  split
  · exact k
  split
  · exact k.boundaryEvent _ _
  · exact k

theorem Reserve.Sound.catchUp : s.catchUp.reserve.Sound := by
  unfold State.catchUp
  split
  · exact k
  split
  · exact k.boundaryEvent _ _
  · exact k

theorem Reserve.Sound.completeAlignment : s.completeAlignment.reserve.Sound := by
  unfold State.completeAlignment
  split
  next t _ => exact Reserve.Sound.checkBoundary (s := s.withCalendar { s.calendar with now := t, aligning := false }) k
  next => rw [(State.invalidate_frame _ _).reserve (by simp)]; exact k

theorem Reserve.Sound.calendarStep : s.calendarStep.reserve.Sound := by
  unfold State.calendarStep
  split
  · exact k
  split
  · exact k.completeAlignment
  split
  next t _ => exact Reserve.Sound.checkBoundary (s := s.withCalendar { s.calendar with now := t }) k
  next => rw [(State.invalidate_frame _ _).reserve (by simp)]; exact k

theorem Reserve.Sound.beginStartup (mode : ModeStrap) (rate : Rate) : (s.beginStartup mode rate).reserve.Sound := by
  have restarted : (s.beginStartup mode rate).reserve = (s.halt .starting).reserve.restart := by
    simp only [State.beginStartup, State.withNotices_reserve, State.withStore_reserve, State.withReserve_reserve,
      State.withFeederB_reserve, State.withFeederA_reserve, State.withHost_reserve, State.withService_reserve]
  rw [restarted, (s.halt_frame .starting).reserve (by simp)]
  exact Reserve.restart_sound k.settings

theorem Reserve.Sound.halt (phase : PowerPhase) : (s.halt phase).reserve.Sound := by
  rw [(s.halt_frame phase).reserve (by simp)]
  exact k

theorem Reserve.Sound.dueReset : s.dueReset.reserve.Sound := by
  unfold State.dueReset
  split
  · exact k
  · exact k.halt _
  · exact k.beginStartup _ _
  all_goals exact k.halt _

theorem Reserve.Sound.completeProgram : s.completeProgram.reserve.Sound := by
  unfold State.completeProgram
  split
  · refine Reserve.Sound.dueReset ?_
    rw [(State.answerProgram_frame _ _).reserve (by simp), (State.programWord_frame _ _ _).reserve (by simp)]
    exact k
  · exact k

theorem Reserve.Sound.completeLock : s.completeLock.reserve.Sound := by
  unfold State.completeLock
  split
  · refine Reserve.Sound.dueReset ?_
    rw [(State.answerProgram_frame _ _).reserve (by simp), (State.programLock_frame _).reserve (by simp)]
    exact k
  · exact k

theorem Reserve.Sound.releaseReset (mode : ModeStrap) (rate : Rate) : (s.releaseReset mode rate).reserve.Sound := by
  unfold State.releaseReset
  split
  · exact k.beginStartup _ _
  all_goals exact k

theorem Reserve.Sound.powerOn (held : Bool) (mode : ModeStrap) (rate : Rate) :
    (s.powerOn held mode rate).reserve.Sound := by
  unfold State.powerOn
  split
  · rw [(State.judgeCalendar_frame _ _).reserve (by simp)]; exact k.beginStartup _ _
  · rw [(State.judgeCalendar_frame _ _).reserve (by simp)]; exact k
  all_goals exact k

end

/-- The value of a setting after a RESCFG is in its range when the value held is (R152, R153). -/
theorem settingOf_bounds {ps : List (Kw × Int)} {k : Kw} {lo hi held n : Nat} (h : settingOf ps k lo hi held = some n)
    (range : lo ≤ held ∧ held ≤ hi) : lo ≤ n ∧ n ≤ hi := by
  unfold settingOf at h
  split at h
  · exact (natIn_some h).2
  · cases h; exact range

theorem ReserveSettings.edit_sound {c d : ReserveSettings} {ps : List (Kw × Int)} (k : c.sound) (edited : c.edit ps = some d)
    (legal : d.legal = true) : d.sound := by
  obtain ⟨-, band, top, ceiling, hyst, -, low, high⟩ := k
  obtain ⟨⟨⟨charge, frequency⟩, within⟩, divisor⟩ : ((_ ∧ _) ∧ _) ∧ _ := by
    simpa only [ReserveSettings.legal, Bool.and_eq_true] using legal
  unfold ReserveSettings.edit at edited
  split at edited
  next fHyst _ fMax _ count =>
    cases edited
    obtain ⟨-, most⟩ := settingOf_bounds fMax ⟨Nat.zero_le _, ceiling⟩
    obtain ⟨least, -⟩ := settingOf_bounds fHyst ⟨hyst, by omega⟩
    obtain ⟨few, many⟩ := settingOf_bounds count ⟨low, high⟩
    exact ⟨of_decide_eq_true charge, of_decide_eq_true frequency, of_decide_eq_true within, most, least,
      by simpa using divisor, few, many⟩
  · cases edited

theorem Accepted.reserve_sound {bs : List Block} {s t : State} (h : Accepted s bs t) (k : s.reserve.Sound) :
    t.reserve.Sound := by
  by_cases watched : .reserve ∈ bs
  · cases h with
    | givesEvent d len => exact Reserve.Sound.boundaryEvent (s := s.setClock d) k _ _
    | configuresWatch ps c edited legal => exact Reserve.clearCounters_sound k (ReserveSettings.edit_sound k.settings edited legal)
    | wipes =>
      rw [State.wipe, (State.driveAttn_frame _).reserve (by simp)]
      have wiped : s.wipeAccounts.wipeSettings.reserve = s.reserve.wipe := rfl
      rw [wiped]
      exact Reserve.clearCounters_sound k ReserveSettings.default_sound
    | _ => simp at watched
  · rw [h.frame.reserve watched]
    exact k

theorem reserve_depends (s t : State) (h : ∀ b ∈ [Block.reserve], b.same s t) (k : s.reserve.Sound) : t.reserve.Sound := by
  have same : t.reserve = s.reserve := h .reserve (by simp)
  rwa [same]

theorem Reserve.Sound.whileRunning {f : State → State} {s : State} (k : s.reserve.Sound) (h : (f s).reserve.Sound) :
    (whileRunning f s).reserve.Sound :=
  whileRunning_keeps (P := fun s => s.reserve.Sound) k fun _ => h

theorem reserve_kept : Kept [.reserve] fun s => s.reserve.Sound where
  depends := reserve_depends
  hostLine s v _ := hostLine_of_depends reserve_depends (by simp) s v
  finish s r args _ _ := finish_of_accepted reserve_depends (by simp) (fun _ _ _ h _ => h.reserve_sound) (fun _ _ _ => id) s r args
  event c s request startup meets k := by
    cases c with
    | charterProgramCompletion => exact Reserve.Sound.whileRunning k k.completeProgram
    | lockCompletion => exact Reserve.Sound.whileRunning k k.completeLock
    | calendarStep => exact k.calendarStep
    | alignmentCompletion =>
      refine Reserve.Sound.whileRunning
        (f := fun s => if s.calendar.valid && s.calendar.aligning then s.completeAlignment else s) k ?_
      split
      · exact k.completeAlignment
      · exact k
    | plantFrameReceived bytes => exact Reserve.Sound.whileRunning k (k.plantFrame bytes)
    | plantIdleGap => exact Reserve.Sound.whileRunning k k.plantGap
    | staleTimerExpiry => exact Reserve.Sound.whileRunning k k.goStale
    | resetPinRelease mode rate => exact k.releaseReset mode rate
    | powerOn held mode rate => exact k.powerOn held mode rate
    | startupEnd order => exact absurd rfl (startup order)
    | _ => simp [Instr.request, eventBlocks] at request meets
  started s _ k := k
  startEvent s examined e service meets _ k := by
    cases e with
    | service => exact absurd rfl service
    | catchUp => exact k.catchUp
    | _ => simp [startEventBlocks] at meets

end Sys2Proof.Machine
end

section
/-! Largest remainder and money (R37, R80 to R88): the shares of a side sum to what is matched, and the debits, the credits and
the fund change of a computation sum to 0. -/

namespace Sys2Proof.Machine

/-! ## Sums and counts over the slots -/

theorem sum_allSlots {M : Type} [AddCommMonoid M] (f : Slot → M) : (allSlots.map f).sum = ∑ i, f i :=
  (Fin.sum_univ_def f).symm

theorem countP_allSlots (p : Slot → Bool) : allSlots.countP p = (Finset.univ.filter fun i => p i = true).card := by
  rw [Finset.card_def, Finset.filter_val, Fin.univ_def, ← Multiset.countP_eq_card_filter, Multiset.coe_countP]
  simp [allSlots]

theorem toList_eq_map_allSlots {α : Type} (x : Vector α 96) : x.toList = allSlots.map fun i => x[i] := by
  refine List.ext_getElem (by simp [allSlots]) fun n h k => ?_
  simp [allSlots]

theorem total_eq_sum (x : Vector Nat 96) : total x = ∑ i : Slot, x[i] := by
  rw [total, toList_eq_map_allSlots, sum_allSlots]

/-- The total of what each slot has, written as the slots' amounts. -/
theorem total_tabulate (f : Slot → Nat) : total (tabulate 96 f) = ∑ i, f i := by
  rw [total_eq_sum]
  exact Finset.sum_congr rfl fun i _ => tabulate_at 96 f i

/-- Of n members in a strict order, k have fewer than k members before them. -/
theorem card_rank_lt {n : Nat} (before : Fin n → Fin n → Prop) [DecidableRel before]
    (irrefl : ∀ i, ¬before i i) (trans : ∀ i j k, before i j → before j k → before i k)
    (total : ∀ i j, i ≠ j → before i j ∨ before j i) (k : Nat) :
    (Finset.univ.filter fun i => (Finset.univ.filter (before · i)).card < k).card = min k n := by
  have bound (i : Fin n) : (Finset.univ.filter (before · i)).card < n := by
    calc (Finset.univ.filter (before · i)).card < (Finset.univ : Finset (Fin n)).card :=
          Finset.card_lt_card (Finset.filter_ssubset.mpr ⟨i, Finset.mem_univ i, irrefl i⟩)
      _ = n := by simp
  let rank : Fin n → Fin n := fun i => ⟨(Finset.univ.filter (before · i)).card, bound i⟩
  have rises {i j : Fin n} (h : before i j) : rank i < rank j := by
    have fewer : (Finset.univ.filter (before · i)).card < (Finset.univ.filter (before · j)).card := ?_
    · exact fewer
    refine Finset.card_lt_card ?_
    rw [Finset.ssubset_iff_of_subset]
    · exact ⟨i, by simp [h], by simp [irrefl]⟩
    · intro l hl
      simp only [Finset.mem_filter, Finset.mem_univ, true_and] at hl ⊢
      exact trans l i j hl h
  have injective : Function.Injective rank := by
    intro i j same
    by_contra differ
    rcases total i j differ with h | h
    · exact absurd same (Fin.ne_of_lt (rises h))
    · exact absurd same.symm (Fin.ne_of_lt (rises h))
  have bijective := Finite.injective_iff_bijective.mp injective
  calc (Finset.univ.filter fun i => (Finset.univ.filter (before · i)).card < k).card
      = (Finset.univ.filter fun r : Fin n => r.val < k).card :=
        Finset.card_bij (fun i _ => rank i) (fun i hi => by simpa using hi) (fun i _ j _ h => injective h)
          fun r hr => by
            obtain ⟨i, rfl⟩ := bijective.2 r
            exact ⟨i, by simpa using hr, rfl⟩
    _ = min k n := by
        rw [Fin.card_filter_val_lt]
        exact Nat.min_comm _ _

/-! ## Largest remainder (R82, R83) -/

section
variable (m t : Nat) (x : Vector Nat 96)

/-- Slot j is taken before slot i. -/
def TakenBefore (j i : Slot) : Prop :=
  remainderOf m t x[i] < remainderOf m t x[j] ∨ (remainderOf m t x[i] = remainderOf m t x[j] ∧ j.val < i.val)

theorem TakenBefore.irrefl (i : Slot) : ¬TakenBefore m t x i i := by simp [TakenBefore]

theorem TakenBefore.total {i j : Slot} (differ : i ≠ j) : TakenBefore m t x i j ∨ TakenBefore m t x j i := by
  have order : i.val ≠ j.val := fun same => differ (Fin.ext same)
  simp only [TakenBefore]
  omega

variable {m t x} in
theorem TakenBefore.trans {i j k : Slot} (h : TakenBefore m t x i j) (l : TakenBefore m t x j k) : TakenBefore m t x i k := by
  simp only [TakenBefore] at h l ⊢
  omega

theorem takenBefore_iff (i j : Slot) : takenBefore m t x i j = true ↔ TakenBefore m t x j i := by
  simp [takenBefore, TakenBefore]

/-- A slot has one Wh of the shortfall (R82, R83). -/
def hasExtra (i : Slot) : Bool := rank m t x i < shortfall m t x

theorem longShare_eq (i : Slot) : longShare m t x i = m * x[i] / t + if hasExtra m t x i then 1 else 0 := by
  simp [longShare, firstShare, hasExtra]

theorem shortfall_eq : shortfall m t x = (∑ i : Slot, m * x[i] % t) / t := by
  rw [shortfall, toList_eq_map_allSlots, List.map_map, sum_allSlots]
  rfl

theorem rank_eq [DecidableRel (TakenBefore m t x)] (i : Slot) :
    rank m t x i = (Finset.univ.filter (TakenBefore m t x · i)).card := by
  rw [rank, countP_allSlots]
  congr 1
  ext j
  simp [takenBefore_iff]

/-- The members that have one Wh of it are as many as the shortfall, or all. -/
theorem countP_hasExtra : allSlots.countP (hasExtra m t x) = min (shortfall m t x) 96 := by
  classical
  have ranked := card_rank_lt (TakenBefore m t x) (TakenBefore.irrefl m t x) (fun _ _ _ => TakenBefore.trans)
    (fun _ _ => TakenBefore.total m t x) (shortfall m t x)
  rw [countP_allSlots, ← ranked]
  congr 1
  ext i
  simp [hasExtra, rank_eq]

/-- Who is taken before a member that has one Wh has one too. -/
theorem hasExtra_of_takenBefore {i j : Slot} (h : hasExtra m t x i = true) (before : TakenBefore m t x j i) :
    hasExtra m t x j = true := by
  have fewer : rank m t x j ≤ rank m t x i := by
    refine List.countP_mono_left fun k _ taken => ?_
    rw [takenBefore_iff] at taken ⊢
    exact taken.trans before
  simp only [hasExtra, decide_eq_true_eq] at h ⊢
  omega

end

section
variable {m : Nat} {x : Vector Nat 96}

theorem sum_remainders_lt {t : Nat} (pos : 0 < t) : ∑ i : Slot, m * x[i] % t < 96 * t := by
  calc ∑ i : Slot, m * x[i] % t < ∑ _i : Slot, t :=
        Finset.sum_lt_sum_of_nonempty Finset.univ_nonempty fun i _ => Nat.mod_lt _ pos
    _ = 96 * t := by simp

/-- The first shares and the shortfall are what is matched (R82). -/
theorem sum_firstShares {t : Nat} (pos : 0 < t) (all : total x = t) :
    ∑ i : Slot, m * x[i] / t + shortfall m t x = m := by
  have split : m * t = t * ∑ i : Slot, m * x[i] / t + ∑ i : Slot, m * x[i] % t := by
    have whole : m * t = ∑ i : Slot, m * x[i] := by rw [← all, total_eq_sum, Finset.mul_sum]
    rw [whole, Finset.mul_sum, ← Finset.sum_add_distrib]
    exact Finset.sum_congr rfl fun i _ => (Nat.div_add_mod _ _).symm
  rw [shortfall_eq]
  refine Nat.eq_of_mul_eq_mul_right pos ?_
  have whole : t ∣ ∑ i : Slot, m * x[i] % t :=
    (Nat.dvd_add_right (Dvd.intro _ rfl)).mp (split ▸ Dvd.intro_left m rfl)
  rw [Nat.add_mul, Nat.div_mul_cancel whole, Nat.mul_comm _ t, split]

/-- A slot has a remainder (R82). -/
def hasRemainder (m t : Nat) (x : Vector Nat 96) (i : Slot) : Bool := 0 < remainderOf m t x[i]

/-- No more is short than members have a remainder. -/
theorem shortfall_le {t : Nat} (pos : 0 < t) : shortfall m t x ≤ allSlots.countP (hasRemainder m t x) := by
  have few : ∑ j : Slot, m * x[j] % t ≤ allSlots.countP (hasRemainder m t x) * t := by
    rw [countP_allSlots, ← smul_eq_mul, ← Finset.sum_const, Finset.sum_filter]
    refine Finset.sum_le_sum fun j _ => ?_
    split
    next => exact (Nat.mod_lt _ pos).le
    next zero => exact Nat.le_of_not_lt fun some => zero (decide_eq_true some)
  rw [shortfall_eq]
  exact Nat.div_le_of_le_mul (Nat.mul_comm _ t ▸ few)

/-- A member that has one Wh of the shortfall has a remainder. -/
theorem remainder_pos_of_hasExtra {t : Nat} (pos : 0 < t) {i : Slot} (h : hasExtra m t x i = true) : 0 < m * x[i] % t := by
  by_contra none
  have zero : remainderOf m t x[i] = 0 := by unfold remainderOf; omega
  have before : allSlots.countP (hasRemainder m t x) ≤ rank m t x i := by
    refine List.countP_mono_left fun j _ some => ?_
    rw [takenBefore_iff]
    left
    rw [zero]
    exact of_decide_eq_true some
  have short := shortfall_le (m := m) (x := x) pos
  simp only [hasExtra, decide_eq_true_eq] at h
  omega

/-- The matched energies of a side sum to what is matched (R81, R82). -/
theorem sum_matchedOf (h : m ≤ total x) : ∑ i, matchedOf m (total x) x i = m := by
  unfold matchedOf
  split
  next whole => rw [← whole, total_eq_sum]
  next part =>
    have pos : 0 < total x := by omega
    have shares : ∑ i, longShare m (total x) x i
        = ∑ i : Slot, m * x[i] / total x + ∑ i, if hasExtra m (total x) x i = true then 1 else 0 := by
      rw [← Finset.sum_add_distrib]
      exact Finset.sum_congr rfl fun i _ => longShare_eq _ _ _ i
    have extra : ∑ i, (if hasExtra m (total x) x i = true then 1 else 0) = shortfall m (total x) x := by
      rw [← Finset.card_filter, ← countP_allSlots, countP_hasExtra, Nat.min_eq_left]
      rw [shortfall_eq]
      exact (Nat.div_lt_of_lt_mul (Nat.mul_comm _ (total x) ▸ sum_remainders_lt pos)).le
    rw [shares, extra, sum_firstShares pos rfl]

/-- No member is matched for more than it has. -/
theorem matchedOf_le (h : m ≤ total x) (i : Slot) : matchedOf m (total x) x i ≤ x[i] := by
  unfold matchedOf
  split
  · exact Nat.le_refl _
  next part =>
    have pos : 0 < total x := by omega
    have most : m * x[i] ≤ x[i] * total x := Nat.mul_comm m x[i] ▸ Nat.mul_le_mul_left _ h
    rw [longShare_eq]
    split
    next extra =>
      have rest := remainder_pos_of_hasExtra pos extra
      refine (Nat.div_lt_iff_lt_mul pos).mpr (lt_of_le_of_ne most fun whole => ?_)
      rw [whole, Nat.mul_mod_left] at rest
      exact Nat.lt_irrefl 0 rest
    next => exact Nat.div_le_of_le_mul (Nat.mul_comm _ (total x) ▸ most)

end

end Sys2Proof.Machine
end

section
/-! What a computation gives (R37, R72 to R88): the derivations, the results of the slots, and the sums over them. -/

namespace Sys2Proof.Machine

/-! ## Results slot by slot -/

section
variable (c : Computation)

/-- The result of one slot of a computation. -/
def Computation.resultAt (i : Slot) : SlotResult :=
  slotResult c.prices c.flags i c.derivations[i] (slotMatched c.derivations i)

theorem Computation.results_eq : c.results = allSlots.map c.resultAt := rfl

theorem Computation.mem_results (r : SlotResult) : r ∈ c.results ↔ ∃ i, c.resultAt i = r := by
  simp [Computation.results_eq]

theorem Computation.resultAt_mem (i : Slot) : c.resultAt i ∈ c.results := (c.mem_results _).mpr ⟨i, rfl⟩

theorem Computation.derivations_at (i : Slot) : c.derivations[i] = derive c.span c.tolerance c.slots[i] := tabulate_at 96 _ i

theorem Computation.sum_results {M : Type} [AddCommMonoid M] (f : SlotResult → M) :
    (c.results.map f).sum = ∑ i, f (c.resultAt i) := by
  rw [c.results_eq, List.map_map, sum_allSlots]
  rfl

end

theorem demands_at (ds : Vector (Option Derived) 96) (i : Slot) : (demands ds)[i] = demandOf ds[i] := tabulate_at 96 _ i

theorem supplies_at (ds : Vector (Option Derived) 96) (i : Slot) : (supplies ds)[i] = supplyOf ds[i] := tabulate_at 96 _ i

/-- A slot has a demand or a supply, not both (R80). -/
theorem demandOf_eq_zero_of_supply {d : Option Derived} (h : 0 < supplyOf d) : demandOf d = 0 := by
  cases d with
  | none => rfl
  | some d =>
    have h : 0 < d.exp - d.imp := h
    change d.imp - d.exp = 0
    omega

/-! ### The money of one result -/

section
variable (p : PriceSet) (f : ReserveFlags) (i : Slot) (d : Option Derived) (matched : Nat)

theorem slotResult_slot : (slotResult p f i d matched).slot = i := by
  simp only [slotResult]; split <;> [rfl; (split <;> rfl)]

theorem slotResult_derived : (slotResult p f i d matched).derived = d := by
  simp only [slotResult]; split <;> [rfl; (split <;> rfl)]

theorem slotResult_demand : (slotResult p f i d matched).demand = demandOf d := by
  simp only [slotResult]
  split
  · rfl
  next none => split <;> simp at none ⊢ <;> omega

theorem slotResult_supply : (slotResult p f i d matched).supply = supplyOf d := by
  simp only [slotResult]
  split
  · rfl
  split
  · rfl
  next none => simp at none ⊢; omega

/-- A buyer's result (R86). -/
theorem slotResult_buyer (buys : 0 < demandOf d) :
    slotResult p f i d matched =
      let residual := demandOf d + supplyOf d - matched
      { slot := i, derived := d, demand := demandOf d, supply := supplyOf d, matched := matched, residual := residual
        debit := (matched * p.community : Int) + (residual * plantPrice p f : Int), credit := 0, levy := 0
        fundPart := (residual * plantPrice p f : Int) } := by
  rw [slotResult]
  exact if_pos buys

/-- A seller's result (R87). -/
theorem slotResult_seller (sells : 0 < supplyOf d) :
    slotResult p f i d matched =
      let residual := demandOf d + supplyOf d - matched
      let levy : Int := matched * p.community * p.levy / 1000
      { slot := i, derived := d, demand := demandOf d, supply := supplyOf d, matched := matched, residual := residual
        debit := 0, credit := matched * p.community - levy + (residual * feedPrice p f : Int), levy := levy
        fundPart := levy - (residual * feedPrice p f : Int) } := by
  rw [slotResult]
  exact (if_neg (by rw [demandOf_eq_zero_of_supply sells]; omega)).trans (if_pos sells)

/-- The result of a slot that trades nothing. -/
theorem slotResult_idle (demand : demandOf d = 0) (supply : supplyOf d = 0) :
    slotResult p f i d matched =
      { slot := i, derived := d, demand := 0, supply := 0, matched := 0, residual := 0, debit := 0, credit := 0, levy := 0
        fundPart := 0 } := by
  rw [slotResult]
  exact (if_neg (by omega)).trans (if_neg (by omega))

/-- What a slot pays, receives and leaves to the fund comes to the price of what it is matched for: out of a buyer, to a
seller (R86 to R88). -/
theorem slotResult_money :
    let r := slotResult p f i d matched
    r.credit - r.debit + r.fundPart =
      ((if 0 < r.supply then (r.matched : Int) else 0) - if 0 < r.demand then (r.matched : Int) else 0) * p.community := by
  rcases Nat.eq_zero_or_pos (demandOf d) with demand | buys
  · rcases Nat.eq_zero_or_pos (supplyOf d) with supply | sells
    · simp [slotResult_idle p f i d matched demand supply]
    · simp [slotResult_seller p f i d matched sells, sells, demand]
  · have supply : supplyOf d = 0 := by
      by_contra sells
      exact Nat.ne_of_gt buys (demandOf_eq_zero_of_supply (Nat.pos_of_ne_zero sells))
    simp [slotResult_buyer p f i d matched buys, buys, supply]

/-- A slot that settles no energy pays and receives nothing. -/
theorem slotResult_free (h : ∀ k, d = some k → k.imp = k.exp) :
    (slotResult p f i d matched).credit = 0 ∧ (slotResult p f i d matched).debit = 0 := by
  have none : demandOf d = 0 ∧ supplyOf d = 0 := by
    cases d with
    | none => exact ⟨rfl, rfl⟩
    | some k => simp [demandOf, supplyOf, h k rfl]
  rw [slotResult_idle p f i d matched none.1 none.2]
  exact ⟨rfl, rfl⟩

end

section
variable (c : Computation) (i : Slot)

@[simp] theorem Computation.resultAt_slot : (c.resultAt i).slot = i := slotResult_slot _ _ _ _ _

@[simp] theorem Computation.resultAt_derived : (c.resultAt i).derived = c.derivations[i] := slotResult_derived _ _ _ _ _

theorem Computation.resultAt_demand : (c.resultAt i).demand = (demands c.derivations)[i] := by
  rw [demands_at]; exact slotResult_demand _ _ _ _ _

theorem Computation.resultAt_supply : (c.resultAt i).supply = (supplies c.derivations)[i] := by
  rw [supplies_at]; exact slotResult_supply _ _ _ _ _

/-- A result has its slot's place in the list. -/
theorem Computation.results_getElem? : c.results[i.val]? = some (c.resultAt i) := by
  simp [c.results_eq, allSlots]

/-- The matched energy of a slot, as a buyer and as a seller. -/
theorem Computation.resultAt_matched :
    (c.resultAt i).matched = slotMatched c.derivations i := by
  unfold Computation.resultAt
  rcases Nat.eq_zero_or_pos (demandOf c.derivations[i]) with demand | buys
  · rcases Nat.eq_zero_or_pos (supplyOf c.derivations[i]) with supply | sells
    · rw [slotResult_idle _ _ _ _ _ demand supply, slotMatched, if_neg (by omega), if_neg (by omega)]
    · rw [slotResult_seller _ _ _ _ _ sells]
  · rw [slotResult_buyer _ _ _ _ _ buys]

theorem Computation.buyer_matched (buys : 0 < (demands c.derivations)[i]) :
    (c.resultAt i).matched = matchedOf (matchedTotal c.derivations) (total (demands c.derivations)) (demands c.derivations) i := by
  rw [c.resultAt_matched, slotMatched, if_pos (by rwa [demands_at] at buys)]

theorem Computation.seller_matched (sells : 0 < (supplies c.derivations)[i]) :
    (c.resultAt i).matched = matchedOf (matchedTotal c.derivations) (total (supplies c.derivations)) (supplies c.derivations) i := by
  rw [supplies_at] at sells
  rw [c.resultAt_matched, slotMatched, if_neg (by rw [demandOf_eq_zero_of_supply sells]; omega), if_pos sells]

end

/-! ## Conservation (R37, R84, R88) -/

section
variable (c : Computation)

/-- The members of a side are matched for M together. -/
theorem sum_matched_members {m : Nat} {x : Vector Nat 96} (h : m ≤ total x) {matched : Slot → Nat}
    (members : ∀ i, 0 < x[i] → matched i = matchedOf m (total x) x i) :
    ∑ i, (if 0 < x[i] then (matched i : Int) else 0) = m := by
  have each (i : Slot) : (if 0 < x[i] then (matched i : Int) else 0) = (matchedOf m (total x) x i : Nat) := by
    split
    next member => rw [members i member]
    next other =>
      have := matchedOf_le h i
      have : matchedOf m (total x) x i = 0 := by omega
      rw [this]
      rfl
  rw [Finset.sum_congr rfl fun i _ => each i, ← Nat.cast_sum, sum_matchedOf h]

theorem Computation.sum_bought :
    ∑ i, (if 0 < (c.resultAt i).demand then ((c.resultAt i).matched : Int) else 0) = matchedTotal c.derivations := by
  simp only [c.resultAt_demand]
  exact sum_matched_members (Nat.min_le_left _ _) c.buyer_matched

theorem Computation.sum_sold :
    ∑ i, (if 0 < (c.resultAt i).supply then ((c.resultAt i).matched : Int) else 0) = matchedTotal c.derivations := by
  simp only [c.resultAt_supply]
  exact sum_matched_members (Nat.min_le_right _ _) c.seller_matched

/-- Debits, credits and the fund change sum to 0. -/
theorem Computation.money_conserved : ∑ i, ((c.resultAt i).credit - (c.resultAt i).debit + (c.resultAt i).fundPart) = 0 := by
  have each (i : Slot) := slotResult_money c.prices c.flags i c.derivations[i] (slotMatched c.derivations i)
  calc ∑ i, ((c.resultAt i).credit - (c.resultAt i).debit + (c.resultAt i).fundPart)
      = ∑ i, ((if 0 < (c.resultAt i).supply then ((c.resultAt i).matched : Int) else 0) -
          if 0 < (c.resultAt i).demand then ((c.resultAt i).matched : Int) else 0) * c.prices.community :=
        Finset.sum_congr rfl fun i _ => each i
    _ = 0 := by rw [← Finset.sum_mul, Finset.sum_sub_distrib, c.sum_bought, c.sum_sold, sub_self, zero_mul]

theorem Computation.fundChange_eq : fundChange c.results = ∑ i, (c.resultAt i).fundPart := c.sum_results _

end

/-! ## The statement of the shares and of the money -/

/-- The demand as an integer. -/
theorem demandOf_cast (d : Option Derived) :
    (demandOf d : Int) = match d with
      | some k => max 0 ((k.imp : Int) - k.exp)
      | none => 0 := by
  cases d with
  | none => rfl
  | some k => simp only [demandOf]; omega

theorem supplyOf_cast (d : Option Derived) :
    (supplyOf d : Int) = match d with
      | some k => max 0 ((k.exp : Int) - k.imp)
      | none => 0 := by
  cases d with
  | none => rfl
  | some k => simp only [supplyOf]; omega

/-- What is left after the match (R84). -/
theorem Computation.resultAt_residual (c : Computation) (i : Slot) :
    ((c.resultAt i).residual : Int) = (c.resultAt i).demand + (c.resultAt i).supply - (c.resultAt i).matched := by
  have bought : 0 < demandOf c.derivations[i] → slotMatched c.derivations i ≤ demandOf c.derivations[i] := fun buys => by
    rw [slotMatched, if_pos buys]
    exact (matchedOf_le (Nat.min_le_left _ _) i).trans (demands_at _ _).le
  have sold : 0 < supplyOf c.derivations[i] → slotMatched c.derivations i ≤ supplyOf c.derivations[i] := fun sells => by
    rw [slotMatched, if_neg (by rw [demandOf_eq_zero_of_supply sells]; omega), if_pos sells]
    exact (matchedOf_le (Nat.min_le_right _ _) i).trans (supplies_at _ _).le
  unfold Computation.resultAt
  rcases Nat.eq_zero_or_pos (demandOf c.derivations[i]) with demand | buys
  · rcases Nat.eq_zero_or_pos (supplyOf c.derivations[i]) with supply | sells
    · rw [slotResult_idle _ _ _ _ _ demand supply]; rfl
    · have most := sold sells
      rw [slotResult_seller _ _ _ _ _ sells]
      dsimp only
      omega
  · have most := bought buys
    rw [slotResult_buyer _ _ _ _ _ buys]
    dsimp only
    omega

/-- What a buyer pays (R86). -/
theorem Computation.resultAt_buyer (c : Computation) (i : Slot) :
    let r := c.resultAt i
    0 < r.demand →
      let plant : Int := r.residual * (if c.flags.scarce then c.prices.plantScarcity else c.prices.plant : Nat)
      r.debit = r.matched * c.prices.community + plant ∧ r.credit = 0 ∧ r.levy = 0 ∧ r.fundPart = plant := by
  intro r buys
  have buys : 0 < demandOf c.derivations[i] := by rwa [c.resultAt_demand, demands_at] at buys
  have result := slotResult_buyer c.prices c.flags i c.derivations[i] (slotMatched c.derivations i) buys
  rw [show r = _ from result]
  exact ⟨rfl, rfl, rfl, rfl⟩

/-- What a seller receives and gives to the fund (R87). -/
theorem Computation.resultAt_seller (c : Computation) (i : Slot) :
    let r := c.resultAt i
    0 < r.supply →
      let feed : Int := r.residual * (if c.flags.surplus then c.prices.feedSurplus else c.prices.feed : Nat)
      r.levy = r.matched * c.prices.community * c.prices.levy / 1000 ∧
        r.credit = r.matched * c.prices.community - r.levy + feed ∧ r.debit = 0 ∧ r.fundPart = r.levy - feed := by
  intro r sells
  have sells : 0 < supplyOf c.derivations[i] := by rwa [c.resultAt_supply, supplies_at] at sells
  have result := slotResult_seller c.prices c.flags i c.derivations[i] (slotMatched c.derivations i) sells
  rw [show r = _ from result]
  exact ⟨rfl, rfl, rfl, rfl⟩

theorem Computation.resultAt_idle (c : Computation) (i : Slot) :
    let r := c.resultAt i
    r.demand = 0 → r.supply = 0 →
      (r.debit = 0 ∧ r.credit = 0 ∧ r.levy = 0 ∧ r.fundPart = 0) ∧ r.matched = 0 := by
  intro r demand supply
  rw [c.resultAt_demand, demands_at] at demand
  rw [c.resultAt_supply, supplies_at] at supply
  have result := slotResult_idle c.prices c.flags i c.derivations[i] (slotMatched c.derivations i) demand supply
  rw [show r = _ from result]
  exact ⟨⟨rfl, rfl, rfl, rfl⟩, rfl⟩

/-- On a long side there is one Wh more for as many members as the shortfall. -/
theorem longSide {m : Nat} {x : Vector Nat 96} (long : m < total x) :
    (∀ i : Slot, matchedOf m (total x) x i = m * x[i] / total x + if hasExtra m (total x) x i = true then 1 else 0) ∧
      allSlots.countP (hasExtra m (total x) x) = (allSlots.map fun i : Slot => m * x[i] % total x).sum / total x := by
  refine ⟨fun i => ?_, ?_⟩
  · rw [matchedOf, if_neg (Nat.ne_of_gt long), longShare_eq]
  · rw [countP_hasExtra, sum_allSlots, ← shortfall_eq, Nat.min_eq_left]
    rw [shortfall_eq]
    exact (Nat.div_lt_of_lt_mul (Nat.mul_comm _ (total x) ▸ sum_remainders_lt (by omega))).le

/-- Settles O30: the first shares and the shortfall sum to M, and every matched Wh passes at one price from a buyer to a
seller. -/
theorem sharesSumToMAndMoneyIsConserved : Obligations.SharesSumToMAndMoneyIsConserved := by
  refine ⟨fun m x h => ⟨?_, matchedOf_le h⟩, fun m x => ?_, fun c => ?_, fun c => ⟨rfl, ?_, ?_⟩⟩
  · rw [sum_allSlots, sum_matchedOf h]
  · refine ⟨rfl, fun whole i => if_pos whole.symm, fun long => ?_⟩
    obtain ⟨shares, count⟩ := longSide (x := x) long
    exact ⟨hasExtra m (total x) x, shares, count, fun i j extra before => hasExtra_of_takenBefore m (total x) x extra before⟩
  · refine ⟨demands c.derivations, supplies c.derivations, fun i => ⟨c.derivations_at i, ?_, ?_⟩, ?_, fun i => ?_⟩
    · rw [demands_at, c.derivations_at]; exact demandOf_cast _
    · rw [supplies_at, c.derivations_at]; exact supplyOf_cast _
    · simp [c.results_eq, allSlots]
    · refine ⟨c.resultAt i, c.results_getElem? i, c.resultAt_slot i, (c.resultAt_derived i).trans (c.derivations_at i),
        c.resultAt_demand i, c.resultAt_supply i, c.resultAt_residual i, ⟨fun buys => ?_, fun sells => ?_, ?_⟩, ?_, ?_, ?_⟩
      · exact c.buyer_matched i (by rwa [c.resultAt_demand] at buys)
      · exact c.seller_matched i (by rwa [c.resultAt_supply] at sells)
      · exact fun demand supply => (c.resultAt_idle i demand supply).2
      · exact c.resultAt_buyer i
      · exact c.resultAt_seller i
      · exact fun demand supply => (c.resultAt_idle i demand supply).1
  · rw [c.sum_results, c.money_conserved]
  · rw [c.sum_results, c.sum_results, c.sum_bought, c.sum_sold]

end Sys2Proof.Machine
end

section
/-! A posting household by household (R33, R34, R90): what the results, the vacating and the evaluations leave in each
record. -/

namespace Sys2Proof.Machine

/-! ## One slot -/

section
variable (s : State)

theorem State.vacate_household (i j : Slot) :
    (s.vacate i).household j = if j = i then (s.household i).vacated else s.household j := by
  have rest : Frame [.subs, .feeder .A, .feeder .B, .notices] (s.withHousehold i (s.household i).vacated) (s.vacate i) := by
    have dropped := (State.removeSubsOf_frame (s.withHousehold i (s.household i).vacated) i).mono
      (cs := [.subs, .feeder .A, .feeder .B, .notices]) (by simp)
    have queues := dropped.trans (((State.unqueue_frame _ .A i).andThen (State.unqueue_frame _ .B i) (by simp)))
    exact queues.trans ((State.orphanExchange_frame _ .A i).andThen (State.orphanExchange_frame _ .B i) (by simp))
  rw [rest.household (by simp) (by simp) (by simp), State.withHousehold_household]
  simp only [eq_comm]

theorem State.settleSlot_household (r : SlotResult) (j : Slot) :
    (s.settleSlot r).household j = if j = r.slot then (s.household r.slot).settle r else s.household j := by
  have rest : Frame [.notices] (s.withHousehold r.slot ((s.household r.slot).settle r)) (s.settleSlot r) := by
    unfold State.settleSlot
    dsimp only
    have told (t : State) : Frame [.notices] t (if .regression ∈ r.flags then t.notify .householdFault else t) := by
      split
      · exact t.notify_frame _
      · exact Frame.refl _ t
    refine (told _).trans ?_
    cases r.derived with
    | none => exact Frame.refl _ _
    | some d =>
      dsimp only
      by_cases silenced : silent (s.household r.slot).misses d.misses = true
      · rw [if_pos silenced]; exact State.notify_frame _ _
      · rw [if_neg silenced]; exact Frame.refl _ _
  rw [rest.household (by simp) (by simp) (by simp), State.withHousehold_household]
  simp only [eq_comm]

end

/-- A slot that has no line settles no energy. -/
theorem Derived.free_of_no_line {d : Derived} (h : d.hasLine = false) : d.imp = d.exp := by
  simp [Derived.hasLine] at h
  omega

section
variable (c : Computation) (i : Slot)

/-- A slot without a line pays and receives nothing (R79, R86, R87). -/
theorem Computation.resultAt_free (h : (c.resultAt i).hasLine = false) :
    (c.resultAt i).credit = 0 ∧ (c.resultAt i).debit = 0 := by
  refine slotResult_free _ _ _ _ _ fun k derived => ?_
  rw [SlotResult.hasLine, c.resultAt_derived, derived] at h
  exact Derived.free_of_no_line h

/-- The balance after a slot's result. -/
theorem Household.settle_balance (h : Household) :
    (h.settle (c.resultAt i)).balance = h.balance + (c.resultAt i).credit - (c.resultAt i).debit := by
  unfold Household.settle
  split
  next none =>
    have free := c.resultAt_free i (by rw [SlotResult.hasLine, none])
    omega
  next => rfl

end

/-! ## The stages of a posting -/

section
variable (s : State) (b : Book) (c : Computation)

theorem State.settleSlots_household (is : List Slot) (distinct : is.Nodup) (j : Slot) :
    ((is.map c.resultAt).foldl State.settleSlot s).household j =
      if j ∈ is then (s.household j).settle (c.resultAt j) else s.household j := by
  induction is generalizing s with
  | nil => simp
  | cons i is ih =>
    obtain ⟨new, distinct⟩ := List.nodup_cons.mp distinct
    rw [List.map_cons, List.foldl_cons, ih _ distinct, State.settleSlot_household, c.resultAt_slot]
    by_cases same : j = i
    · subst same
      simp [new]
    · simp [same]

theorem State.postSlots_household (j : Slot) : (s.postSlots c).household j = (s.household j).settle (c.resultAt j) := by
  have every := s.settleSlots_household c allSlots (List.nodup_finRange 96) j
  rw [if_pos (mem_allSlots j)] at every
  exact every

theorem State.vacateAll_household (is : List Slot) (j : Slot) :
    (is.foldl State.vacate s).household j = if j ∈ is then (s.household j).vacated else s.household j := by
  induction is generalizing s with
  | nil => simp
  | cons i is ih =>
    rw [List.foldl_cons, ih, State.vacate_household]
    by_cases same : j = i
    · subst same
      simp [Household.vacated]
    · simp [same]

theorem State.mem_goneAt (j : Slot) : j ∈ s.goneAt b c ↔ s.postingVacates b (c.resultAt j) = true := by
  simp only [State.goneAt, List.mem_map, List.mem_filter, c.mem_results]
  constructor
  · rintro ⟨r, ⟨⟨i, rfl⟩, vacates⟩, same⟩
    rw [c.resultAt_slot] at same
    exact same ▸ vacates
  · exact fun vacates => ⟨_, ⟨⟨j, rfl⟩, vacates⟩, c.resultAt_slot j⟩

/-- The record of a slot after a posting but for the evaluations. -/
def State.postedHousehold (j : Slot) : Household :=
  let h := (s.household j).settle (c.resultAt j)
  if s.postingVacates b (c.resultAt j) then h.vacated else h

theorem State.postRecord_household (j : Slot) : (s.postRecord b c).household j = s.postedHousehold b c j := by
  have kept := s.postBook_frame b c
  rw [(s.postRecord_frame b c).household (by simp) (by simp) (by simp), State.postGone, State.vacateAll_household,
    kept.household (by simp) (by simp) (by simp), s.postSlots_household]
  simp only [State.mem_goneAt, State.postedHousehold]

/-- The evaluations move no more than what is wanted of the relay. -/
theorem State.post_household (j : Slot) :
    (s.post b c).household j = { s.postedHousehold b c j with wanted := ((s.post b c).household j).wanted } := by
  have evaluated := State.evaluations_frame (s.postRecord b c) ((s.listed b c.results).map SlotResult.slot)
  rw [← s.post_eq] at evaluated
  have account := evaluated.accounts (by simp) j
  rw [evaluated.confirmed (by simp), s.postRecord_household] at account
  exact account

theorem State.balanceAfter_eq (j : Slot) :
    s.balanceAfter (c.resultAt j) = (s.household j).balance + (c.resultAt j).credit - (c.resultAt j).debit := by
  rw [State.balanceAfter, c.resultAt_slot]

/-- Every balance moves by its credit and its debit, of a vacated slot too (R90). -/
theorem State.postedHousehold_balance (j : Slot) : (s.postedHousehold b c j).balance = s.balanceAfter (c.resultAt j) := by
  unfold State.postedHousehold
  dsimp only
  split
  next vacates =>
    have zero : s.balanceAfter (c.resultAt j) = 0 := by
      simp only [State.postingVacates, Bool.and_eq_true, decide_eq_true_eq] at vacates
      exact vacates.2
    rw [zero]; rfl
  next => rw [Household.settle_balance, s.balanceAfter_eq]

theorem State.post_balance (j : Slot) : ((s.post b c).household j).balance = s.balanceAfter (c.resultAt j) := by
  rw [s.post_household]
  exact s.postedHousehold_balance b c j

theorem State.post_fund : (s.post b c).fund = s.fund + fundChange c.results := by
  rw [s.post_eq, (State.evaluations_frame _ _).fund (by simp), (s.postRecord_frame b c).fund (by simp),
    (s.postGone_frame b c).fund (by simp), ← (s.postSlots_frame c).fund (by simp)]
  exact (State.removeSubsAtPosting_frame _ _).fund (by simp)

/-- A slot that is not listed keeps its balance (R79, R89). -/
theorem State.balanceAfter_of_unlisted {j : Slot} (h : c.resultAt j ∉ s.listed b c.results) :
    s.balanceAfter (c.resultAt j) = (s.household j).balance := by
  have unlined : (c.resultAt j).hasLine = false := by
    simp only [State.listed, List.mem_filter, Bool.or_eq_true, not_and, not_or, Bool.not_eq_true] at h
    exact (h (c.resultAt_mem j)).1
  obtain ⟨credit, debit⟩ := c.resultAt_free j unlined
  rw [s.balanceAfter_eq, credit, debit]
  omega

end

end Sys2Proof.Machine
end

section
/-! What an accepted request does to the accounts, said once, and the balance limit (R20, R36, R37). -/

namespace Sys2Proof.Machine

/-! ## The accounts after a request -/

/-- A record that a request may write in place of another, with what it adds to the injection total. -/
inductive Rewritten (s : State) (i : Slot) : Household → Int → Prop
  | enrolled (c : Settings) (vacant : (s.household i).member = .vacant) (limit : s.memberCount < s.householdLimit)
      (cap : 1 ≤ c.cap ∧ c.cap ≤ s.capCeiling) (floor : s.lowestFloor ≤ c.floor ∧ c.floor ≤ 0) :
      Rewritten s i (enrolled c) 0
  | edited (c d : Settings) (held : (s.household i).settings = some c)
      (cap : 1 ≤ d.cap ∧ d.cap ≤ s.capCeiling ∨ d.cap = c.cap)
      (floor : s.lowestFloor ≤ d.floor ∧ d.floor ≤ 0 ∨ d.floor = c.floor) :
      Rewritten s i { s.household i with settings := some d } 0
  | moved (m : MemberState) (bases : Option Bases) (misses : Nat) (present : (s.household i).member ≠ .vacant)
      (stays : m ≠ .vacant) : Rewritten s i { s.household i with member := m, bases := bases, misses := misses } 0
  | vacated (n : Int) (present : (s.household i).member ≠ .vacant) (clear : s.clearOfBooks i = true)
      (zero : (s.household i).balance + n = 0) : Rewritten s i (s.household i).vacated n
  | credited (n : Int) (present : (s.household i).member ≠ .vacant)
      (limit : withinLimit ((s.household i).balance + n) = true) :
      Rewritten s i { s.household i with balance := (s.household i).balance + n } n

/-- The accounts after an accepted request: as they were, with one record rewritten, with the fund moved, or as WIPE leaves
them. -/
inductive AccountsAfter (s t : State) : Prop
  | kept (accounts : Block.accounts.same s t) (fund : t.fund = s.fund) (injection : t.injection = s.injection)
  | one (i : Slot) (h : Household) (n : Int) (change : Rewritten s i h n)
      (accounts : Block.accounts.same (s.withHousehold i h) t) (fund : t.fund = s.fund)
      (injection : t.injection = s.injection + n)
  | funded (n : Int) (limit : withinLimit (s.fund + n) = true) (accounts : Block.accounts.same s t)
      (fund : t.fund = s.fund + n) (injection : t.injection = s.injection + n)
  | wiped (whole : t = s.wipe)

theorem accountsSame_of_household {s t : State} (h : ∀ j, t.household j = s.household j) : Block.accounts.same s t := by
  intro j; rw [h j]

/-- Accounts that differ from each other only in the relay. -/
theorem accountsSame_of {s t : State}
    (h : ∀ j, ∃ w c, s.household j = { t.household j with wanted := w, confirmed := c }) : Block.accounts.same s t := by
  intro j
  obtain ⟨w, c, eq⟩ := h j
  rw [eq]

theorem State.vacate_accounts (s : State) (i : Slot) :
    Block.accounts.same (s.withHousehold i (s.household i).vacated) (s.vacate i) := by
  refine accountsSame_of_household fun j => ?_
  rw [s.vacate_household, State.withHousehold_household]
  simp only [eq_comm]

theorem State.wipe_household (s : State) (j : Slot) : s.wipe.household j = Household.wiped := by
  rw [State.wipe, (State.driveAttn_frame _).household (by simp) (by simp) (by simp)]
  change (Vector.replicate 96 Household.wiped)[j] = _
  simp

theorem editAll_bounds {s : State} {ps : List (Kw × EditValue)} {c d : Settings} (h : s.Edited ps c d) :
    (1 ≤ d.cap ∧ d.cap ≤ s.capCeiling ∨ d.cap = c.cap) ∧ (s.lowestFloor ≤ d.floor ∧ d.floor ≤ 0 ∨ d.floor = c.floor) := by
  constructor
  · rcases h.cap with ⟨n, -, inRange⟩ | ⟨-, same⟩
    · exact .inl (natIn_some inRange).2
    · exact .inr same
  · rcases h.floor with ⟨n, -, ok, same⟩ | ⟨-, same⟩
    · exact .inl (same ▸ (s.floorOk_iff n).mp ok)
    · exact .inr same

theorem State.writeSettings_accounts (s : State) (i : Slot) (c d : Settings) :
    Block.accounts.same (s.withHousehold i { s.household i with settings := some d }) (s.writeSettings i c d) := by
  intro j
  rw [State.withHousehold_household]
  by_cases same : i = j
  · subst same
    rw [if_pos rfl, s.writeSettings_same]
  · rw [if_neg same, State.writeSettings_others (Ne.symm same)]

/-- The accounts after a change of one record and what follows it. -/
theorem AccountsAfter.one_of {s u t : State} {bs : List Block} {i : Slot} {h : Household} {n : Int} (change : Rewritten s i h n)
    (accounts : Block.accounts.same (s.withHousehold i h) u) (fund : u.fund = s.fund)
    (injection : u.injection = s.injection + n) (rest : Frame bs u t) (untouched : ¬∃ b ∈ [Block.accounts, .fund, .injection], b ∈ bs) :
    AccountsAfter s t := by
  have out (b : Block) (h : b ∈ [Block.accounts, .fund, .injection]) : b ∉ bs := fun k => untouched ⟨b, h, k⟩
  exact .one i h n change (Block.same_trans accounts (rest .accounts (out _ (by simp))))
    ((rest.fund (out _ (by simp))).trans fund) ((rest.injection (out _ (by simp))).trans injection)

theorem Accepted.accounts_after {bs : List Block} {s t : State} (h : Accepted s bs t) : AccountsAfter s t := by
  by_cases touched : ∃ b ∈ [Block.accounts, .fund, .injection], b ∈ bs
  · cases h with
    | enrols i c f addr cap floor p shown vacant limit inRange room =>
      obtain ⟨-, -, capacity, floorOk, same⟩ := enrolment_some inRange
      have floors : c.floor = floor := by rw [same]
      exact .one_of (.enrolled c vacant limit (natIn_some capacity).2 (floors ▸ (s.floorOk_iff _).mp floorOk))
        (Block.same_refl _ _) rfl (by simp) (State.record_frame _ _) (by simp)
    | edits i c d rest ps read held idle written free =>
      obtain ⟨cap, floor⟩ := editAll_bounds (editAll_edited read written)
      have frame := s.writeSettings_frame i c d
      exact .one_of (.edited c d held cap floor) (s.writeSettings_accounts i c d) (frame.fund (by simp))
        (by simpa using frame.injection (by simp)) (State.afterEdit_frame _ i ps) (by simp)
    | suspends i member room =>
      exact .one_of (.moved .suspended _ _ (by rintro none; simp [none] at member) (by simp)) (Block.same_refl _ _) rfl (by simp)
        (State.record_frame _ _) (by simp)
    | enrolsAgain i a member idle room =>
      exact .one_of (.moved .enrolled none 0 (by rintro none; simp [none] at member) (by simp)) (Block.same_refl _ _) rfl (by simp)
        (State.record_frame _ _) (by simp)
    | withdraws i member clear balance room =>
      have frame := s.vacate_frame i
      exact .one_of (.vacated 0 member clear (by simpa using balance)) (s.vacate_accounts i) (frame.fund (by simp))
        (by simpa using frame.injection (by simp)) (State.record_frame _ _) (by simp)
    | leaves i member room =>
      exact .one_of (.moved .leaving _ _ member (by simp)) (Block.same_refl _ _) rfl (by simp) (State.record_frame _ _) (by simp)
    | accountVacates i cause amount present vacates room =>
      obtain ⟨⟨-, clear⟩, zero⟩ : (_ ∧ _) ∧ _ := by
        simpa only [State.accountVacates, Bool.and_eq_true, decide_eq_true_eq] using vacates
      have credited := (s.credit i amount).record_frame (.account i cause amount ((s.household i).balance + amount))
      have vacated : Block.accounts.same (s.withHousehold i (s.household i).vacated)
          (((s.credit i amount).record (.account i cause amount ((s.household i).balance + amount))).vacate i) := by
        refine accountsSame_of_household fun j => ?_
        rw [State.vacate_household, credited.household (by simp) (by simp) (by simp),
          credited.household (by simp) (by simp) (by simp), State.credit, State.household_withInjection,
          State.household_withInjection, State.withHousehold_household, State.withHousehold_household,
          State.withHousehold_household]
        by_cases same : j = i
        · subst same; simp [Household.vacated]
        · simp [same, Ne.symm same]
      have frame := State.vacate_frame ((s.credit i amount).record (.account i cause amount ((s.household i).balance + amount))) i
      exact .one_of (.vacated amount present clear zero) vacated (frame.fund (by simp)) (frame.injection (by simp))
        ((State.record_frame _ _).andThen (State.retry_frame _) (by simp) (cs := [.journal, .deferral])) (by simp)
    | accounts i cause amount present limit room =>
      refine .one_of (u := s.credit i amount) (.credited amount present limit) (accountsSame_of_household fun _ => rfl) rfl rfl
        (((State.record_frame _ _).andThen (State.evaluate_frame _ i) (by simp)
          (cs := [.journal, .deferral, .wanted, .feeder .A, .feeder .B, .notices])).trans
          ((State.retry_frame _).mono (by simp))) (by simp)
    | addsFund amount limit room =>
      exact .funded amount limit (accountsSame_of_household fun j => rfl) rfl rfl
    | wipes => exact .wiped rfl
    | _ => simp at touched
  · have frame := h.frame
    exact .kept (frame .accounts fun m => touched ⟨_, by simp, m⟩) (frame.fund fun m => touched ⟨_, by simp, m⟩)
      (frame.injection fun m => touched ⟨_, by simp, m⟩)

/-! ## The balance limit (R20, R36) -/

theorem withinLimit_iff (x : Int) : withinLimit x = true ↔ -140737488355327 ≤ x ∧ x ≤ 140737488355327 := decide_eq_true_iff

/-- Every balance and the fund lie inside the limit. -/
theorem State.limitsSound_iff (s : State) :
    s.limitsSound ↔ (∀ i, withinLimit (s.household i).balance = true) ∧ withinLimit s.fund = true := by
  simp only [withinLimit_iff]
  rfl

theorem balance_of_accounts {s t : State} (h : Block.accounts.same s t) (i : Slot) :
    (t.household i).balance = (s.household i).balance := by rw [h i]

theorem limits_depends (s t : State) (h : ∀ b ∈ [Block.accounts, .fund], b.same s t) (k : s.limitsSound) : t.limitsSound := by
  have fund : t.fund = s.fund := h .fund (by simp)
  rw [State.limitsSound_iff] at k ⊢
  rw [fund]
  exact ⟨fun i => balance_of_accounts (h .accounts (by simp)) i ▸ k.1 i, k.2⟩

theorem Rewritten.limit {s : State} {i : Slot} {h : Household} {n : Int} (change : Rewritten s i h n)
    (k : withinLimit (s.household i).balance = true) : withinLimit h.balance = true := by
  cases change with
  | enrolled => exact rfl
  | edited => exact k
  | moved => exact k
  | vacated => exact rfl
  | credited n present limit => exact limit

theorem AccountsAfter.limits {s t : State} (h : AccountsAfter s t) (k : s.limitsSound) : t.limitsSound := by
  rw [State.limitsSound_iff] at k ⊢
  obtain ⟨balances, fund⟩ := k
  cases h with
  | kept accounts same => exact ⟨fun j => balance_of_accounts accounts j ▸ balances j, same ▸ fund⟩
  | one i h n change accounts same =>
    refine ⟨fun j => ?_, same ▸ fund⟩
    rw [balance_of_accounts accounts, State.withHousehold_household]
    split
    next here => subst here; exact change.limit (balances i)
    next => exact balances j
  | funded n limit accounts same => exact ⟨fun j => balance_of_accounts accounts j ▸ balances j, same ▸ limit⟩
  | wiped whole =>
    subst whole
    exact ⟨fun j => by rw [s.wipe_household]; rfl, rfl⟩

/-- A posting that has passed the balance check keeps every balance and the fund inside the limit (R89). -/
theorem State.post_limits {s : State} {b : Book} {c : Computation} (k : s.limitsSound)
    (checked : s.withinLimits (s.listed b c.results) (fundChange c.results) = true) : (s.post b c).limitsSound := by
  rw [State.limitsSound_iff] at k ⊢
  obtain ⟨listed, fund⟩ : _ ∧ _ := by simpa only [State.withinLimits, Bool.and_eq_true, List.all_eq_true] using checked
  refine ⟨fun j => ?_, by rw [s.post_fund]; exact fund⟩
  rw [s.post_balance]
  by_cases line : c.resultAt j ∈ s.listed b c.results
  · exact listed _ line
  · rw [s.balanceAfter_of_unlisted b c line]; exact k.1 j

theorem limits_kept : Kept [.accounts, .fund] State.limitsSound where
  depends := limits_depends
  hostLine s v _ := hostLine_of_depends limits_depends (by simp) s v
  finish s r args _ _ :=
    finish_of_accepted limits_depends (by simp) (fun _ _ _ h _ => h.accounts_after.limits) (fun _ _ _ => id) s r args
  event c s request startup meets k := by
    cases c with
    | postingAttempt =>
      refine whileRunning_keeps k fun _ => atGrant_keeps _ _ k ?_
      have attempted := s.attemptPosting_attempted
      generalize s.attemptPosting = t at attempted
      cases attempted with
      | idle => exact k
      | dropped => exact k
      | failed c b d n => exact (s.failPosting_frame b d n).keeps limits_depends (by simp) k
      | posted c b computed held room limits => exact State.post_limits k limits
    | startupEnd order => exact absurd rfl (startup order)
    | _ => simp [Instr.request, eventBlocks] at request meets
  started s _ k := k
  startEvent s examined e service meets := by
    cases e with
    | service => exact absurd rfl service
    | _ => simp [startEventBlocks] at meets

end Sys2Proof.Machine
end

section
/-! The values that the charter bounds (R15, R16, R21): households, caps, floors and levies stay within the words in effect,
and within those that a program in flight gives. -/

namespace Sys2Proof.Machine

/-! ## Bounds of the charter -/

/-- The households held are within the bounds of some charter words (R21). -/
structure State.HouseholdsFit (s : State) (words : Vector Word16 32) : Prop where
  count : s.memberCount ≤ limitOf words[1].toNat
  bounds : ∀ (i : Slot) (c : Settings), (s.household i).member ≠ .vacant → (s.household i).settings = some c →
    (1 ≤ c.cap ∧ c.cap ≤ capCeilingOf words[4].toNat) ∧ lowestFloorOf words[6].toNat ≤ c.floor ∧ c.floor ≤ 0

/-- The levies held are within the bound of some charter words (R16). -/
def State.LeviesFit (s : State) (words : Vector Word16 32) : Prop :=
  ∀ i : SetIx, (s.tariff.sets[i]).levy ≤ levyCeilingOf words[5].toNat

theorem State.fits_iff (s : State) (words : Vector Word16 32) : s.fits words ↔ s.HouseholdsFit words ∧ s.LeviesFit words := by
  constructor
  · rintro ⟨count, bounds, levies⟩
    exact ⟨⟨count, fun i c present held => by simpa only [and_assoc] using bounds i c present held⟩, levies⟩
  · rintro ⟨⟨count, bounds⟩, levies⟩
    exact ⟨count, fun i c present held => by simpa only [and_assoc] using bounds i c present held, levies⟩

theorem State.memberCount_eq (s : State) : s.memberCount = allSlots.countP fun i => (s.household i).present := by
  rw [State.memberCount, toList_eq_map_allSlots, List.countP_map]
  rfl

/-- The households of one state are among those of another, with the same settings. -/
def State.Fewer (s t : State) : Prop :=
  ∀ i, (t.household i).member ≠ .vacant →
    (s.household i).member ≠ .vacant ∧ (t.household i).settings = (s.household i).settings

theorem State.Fewer.count {s t : State} (h : s.Fewer t) : t.memberCount ≤ s.memberCount := by
  rw [State.memberCount_eq, State.memberCount_eq]
  exact List.countP_mono_left fun i _ present => by simpa [Household.present] using (h i (by simpa [Household.present] using present)).1

theorem State.Fewer.fit {s t : State} (h : s.Fewer t) {words : Vector Word16 32} (k : s.HouseholdsFit words) :
    t.HouseholdsFit words where
  count := h.count.trans k.count
  bounds i c present held := by
    obtain ⟨before, settings⟩ := h i present
    exact k.bounds i c before (settings ▸ held)

theorem State.fewer_of_accounts {s t : State} (h : Block.accounts.same s t) : s.Fewer t := by
  intro i present
  rw [h i] at present ⊢
  exact ⟨present, rfl⟩

theorem State.memberCount_withHousehold (s : State) (i : Slot) (h : Household) :
    (s.withHousehold i h).memberCount =
      s.memberCount - (if (s.household i).present = true then 1 else 0) + if h.present = true then 1 else 0 := by
  rw [State.memberCount, State.withHousehold, State.withTable, Vector.toList_set, List.countP_set]
  rfl

/-! ## Requests -/

section
variable {s : State} {words : Vector Word16 32}

/-- Whatever settings a record is given must be in bounds; a record may not become present but by an enrolment. -/
theorem Rewritten.fit {i : Slot} {h : Household} {n : Int} (change : Rewritten s i h n)
    (k : s.HouseholdsFit s.charter.words) : (s.withHousehold i h).HouseholdsFit s.charter.words := by
  have others {j : Slot} (other : i ≠ j) : (s.withHousehold i h).household j = s.household j := s.withHousehold_other other h
  have fewer (present : h.member ≠ .vacant → (s.household i).member ≠ .vacant ∧ h.settings = (s.household i).settings) :
      s.Fewer (s.withHousehold i h) := by
    intro j
    rw [State.withHousehold_household]
    split
    next here => subst here; exact present
    next => exact fun present => ⟨present, rfl⟩
  cases change with
  | enrolled c vacant limit cap floor =>
    refine ⟨?_, fun j d present held => ?_⟩
    · have new : s.memberCount < limitOf s.charter.words[1].toNat := limit
      have count := s.memberCount_withHousehold i (Machine.enrolled c)
      rw [count]
      simpa [Household.present, vacant, Machine.enrolled] using new
    · by_cases here : i = j
      · subst here
        rw [State.withHousehold_same] at held
        cases held
        exact ⟨cap, floor⟩
      · rw [others here] at present held
        exact k.bounds j d present held
  | edited c d held cap floor =>
    refine ⟨?_, fun j e present given => ?_⟩
    · have count := s.memberCount_withHousehold i { s.household i with settings := some d }
      rw [count]
      have positive : (s.household i).present = true → 0 < s.memberCount := fun present => by
        rw [s.memberCount_eq]
        exact List.countP_pos_iff.mpr ⟨i, mem_allSlots i, present⟩
      have := k.count
      change s.memberCount - (if (s.household i).present = true then 1 else 0) +
        (if (s.household i).present = true then 1 else 0) ≤ _
      split
      next present => have := positive present; omega
      next => omega
    · by_cases here : i = j
      · subst here
        rw [State.withHousehold_same] at present given
        cases given
        obtain ⟨oldCap, oldFloor⟩ := k.bounds i c present held
        exact ⟨cap.elim id fun same => same ▸ oldCap, floor.elim id fun same => same ▸ oldFloor⟩
      · rw [others here] at present given
        exact k.bounds j e present given
  | moved m bases misses present => exact (fewer fun _ => ⟨present, rfl⟩).fit k
  | vacated n present => exact (fewer fun none => absurd rfl none).fit k
  | credited n present => exact (fewer fun _ => ⟨present, rfl⟩).fit k

theorem AccountsAfter.fit {t : State} (h : AccountsAfter s t) (k : s.HouseholdsFit s.charter.words) :
    t.HouseholdsFit s.charter.words := by
  cases h with
  | kept accounts => exact (State.fewer_of_accounts accounts).fit k
  | one i h n change accounts => exact (State.fewer_of_accounts accounts).fit (change.fit k)
  | funded n limit accounts => exact (State.fewer_of_accounts accounts).fit k
  | wiped whole =>
    subst whole
    refine State.Fewer.fit (fun i present => ?_) k
    rw [s.wipe_household] at present
    exact absurd rfl present

theorem Accepted.levies_fit {bs : List Block} {t : State} (h : Accepted s bs t) (k : s.LeviesFit s.charter.words) :
    t.LeviesFit s.charter.words := by
  by_cases priced : .tariff ∈ bs
  · cases h with
    | bandOn => exact k
    | bandOff => exact k
    | setsPrices i p sound ceiling =>
      intro j
      change ((s.tariff.sets.set i p)[j]).levy ≤ _
      by_cases here : i = j
      · subst here
        have written : (s.tariff.sets.set i p)[i] = p := by simp
        rw [written]
        exact ceiling
      · rw [Fin.getElem_fin, Vector.getElem_set_ne _ _ fun e => here (Fin.ext e)]; exact k j
    | wipes =>
      intro j
      have prices : s.wipe.tariff.sets = Vector.replicate 4 PriceSet.default := rfl
      simp [prices, PriceSet.default]
    | _ => simp at priced
  · have same := h.frame.tariff priced
    intro i
    rw [same]
    exact k i

end

/-! ## Charter programs -/

/-- A value that programming can reach is no greater. -/
theorem programmable_le {before after : Word16} (h : programmable before after = true) : after.toNat ≤ before.toNat := by
  have masked : after &&& before = after := of_decide_eq_true h
  rw [← masked, BitVec.toNat_and]
  exact Nat.and_le_right

theorem someSettings_false {s : State} {p : Settings → Bool} (h : s.someSettings p = false) {i : Slot} {c : Settings}
    (present : (s.household i).member ≠ .vacant) (held : (s.household i).settings = some c) : p c = false := by
  rw [State.someSettings, List.any_eq_false] at h
  have here := h (s.household i) (by rw [toList_eq_map_allSlots]; exact List.mem_map_of_mem (mem_allSlots i))
  simpa [held, Household.present, present] using here

/-- A program that passes the guards leaves every value held within the bounds of the words after it (R16, R21). -/
theorem Programmable.fits {s : State} {w : CharterIx} {value : Word16} (h : Programmable s (.word w value))
    (k : s.fits s.charter.words) : s.fits (s.charter.words.set w value) := by
  obtain ⟨-, reach, guarded⟩ := h.word w value rfl
  have word (v : CharterIx) : (s.charter.words.set w value)[v] = if w = v then value else s.charter.words[v] := by
    by_cases here : w = v
    · subst here; simp
    · rw [if_neg here, Fin.getElem_fin, Vector.getElem_set_ne _ _ fun e => here (Fin.ext e)]; rfl
  obtain ⟨⟨count, bounds⟩, levies⟩ := (s.fits_iff _).mp k
  refine (s.fits_iff _).mpr ⟨⟨?_, fun i c present held => ?_⟩, fun i => ?_⟩
  · change _ ≤ limitOf ((s.charter.words.set w value)[(1 : CharterIx)]).toNat
    rw [word]
    split
    next here => subst here; simpa [State.guards] using guarded
    next => exact count
  · obtain ⟨cap, floor⟩ := bounds i c present held
    change (_ ∧ _ ≤ capCeilingOf ((s.charter.words.set w value)[(4 : CharterIx)]).toNat) ∧
      lowestFloorOf ((s.charter.words.set w value)[(6 : CharterIx)]).toNat ≤ _ ∧ _
    rw [word, word]
    refine ⟨⟨cap.1, ?_⟩, ?_, floor.2⟩
    · split
      next here =>
        subst here
        have inside := someSettings_false (by simpa [State.guards] using guarded) present held
        simpa using inside
      next => exact cap.2
    · split
      next here =>
        subst here
        have inside := someSettings_false (by simpa [State.guards] using guarded) present held
        simpa using inside
      next => exact floor.1
  · change _ ≤ levyCeilingOf ((s.charter.words.set w value)[(5 : CharterIx)]).toNat
    rw [word]
    split
    next here =>
      subst here
      have before := levies i
      have smaller := programmable_le reach
      unfold levyCeilingOf Config.maxLevy at before ⊢
      simp only [State.guards, Config.maxLevy] at guarded
      split
      next low =>
        have inside : s.tariff.sets.toList.any (fun p => value.toNat < p.levy) = false := by simpa [low] using guarded
        rw [List.any_eq_false] at inside
        exact Nat.le_of_not_lt (by simpa using inside s.tariff.sets[i] (by simp))
      next high => 
        have above : ¬ s.charter.words[5].toNat ≤ 200 := fun low => high (smaller.trans low)
        simpa [above] using before
    next => exact levies i

/-! ## Every step -/

/-- The blocks that the bounds of the charter speak of. -/
abbrev valueBlocks : List Block := [.charter, .power, .host, .accounts, .tariff]

theorem State.fits_of_fewer {s t : State} (fewer : s.Fewer t) (tariff : t.tariff = s.tariff) {words : Vector Word16 32}
    (k : s.fits words) : t.fits words := by
  obtain ⟨households, levies⟩ := (s.fits_iff words).mp k
  exact (t.fits_iff words).mpr ⟨fewer.fit households, fun i => by rw [tariff]; exact levies i⟩

theorem State.fits_of_frame {bs : List Block} {s t : State} (h : Frame bs s t) (accounts : .accounts ∉ bs)
    (tariff : .tariff ∉ bs) {words : Vector Word16 32} (k : s.fits words) : t.fits words :=
  State.fits_of_fewer (State.fewer_of_accounts (h .accounts accounts)) (h.tariff tariff) k

theorem values_depends (s t : State) (h : ∀ b ∈ valueBlocks, b.same s t) (k : s.valuesSound) : t.valuesSound := by
  have charter : t.charter = s.charter := h .charter (by simp)
  have power : t.power = s.power := h .power (by simp)
  have host : t.host = s.host := h .host (by simp)
  have fits (words : Vector Word16 32) : s.fits words → t.fits words :=
    State.fits_of_fewer (State.fewer_of_accounts (h .accounts (by simp))) (h .tariff (by simp))
  rw [State.valuesSound, charter, power, host]
  exact ⟨fits _ k.1, fun p held => ⟨(k.2 p held).1, (k.2 p held).2.1, fun w value word => fits _ ((k.2 p held).2.2 w value word)⟩⟩

/-- Without a program in flight only the words in effect count. -/
theorem State.valuesSound_of_idle {s : State} (none : s.charter.program = none) (k : s.fits s.charter.words) : s.valuesSound :=
  ⟨k, fun p held => by simp [none] at held⟩

theorem values_hostKept : HostKept State.valuesSound := by
  intro s v kept k
  refine ⟨k.1, fun p held => ?_⟩
  obtain ⟨running, ⟨line, stage⟩, fits⟩ := k.2 p held
  refine ⟨running, ⟨line, ?_⟩, fits⟩
  rcases kept with same | free
  · exact same.trans stage
  · exact absurd rfl (free _ stage)

section
variable {s : State} (k : s.valuesSound)
include k

/-- While the line in service is not that of a program, none is in flight. -/
theorem State.valuesSound.idle_of_free {r : Req} {args : List Tok} (free : s.free r args) : s.charter.program = none := by
  rw [Option.eq_none_iff_forall_ne_some]
  intro p held
  obtain ⟨-, ⟨line, stage⟩, -⟩ := k.2 p held
  have := free _ stage
  simp at this

theorem State.valuesSound.idle_of_phase (phase : s.power.phase ≠ .running) : s.charter.program = none := by
  rw [Option.eq_none_iff_forall_ne_some]
  exact fun p held => phase (k.2 p held).1

/-- A change that leaves the charter and the tariff, and no household that was not there, while no program is in flight. -/
theorem State.valuesSound.idle_frame {bs : List Block} {t : State} (h : Frame bs s t) (none : s.charter.program = none)
    (untouched : ¬∃ b ∈ [Block.accounts, .tariff, .charter], b ∈ bs) : t.valuesSound := by
  have out (b : Block) (h : b ∈ [Block.accounts, .tariff, .charter]) : b ∉ bs := fun k => untouched ⟨b, h, k⟩
  have charter := h.charter (out _ (by simp))
  refine State.valuesSound_of_idle (by rw [charter, none]) ?_
  rw [charter]
  exact State.fits_of_frame h (out _ (by simp)) (out _ (by simp)) k.1

/-- The power changed while the part runs on. -/
theorem State.valuesSound.withPower {p : Power} (running : p.phase = .running) : (s.withPower p).valuesSound :=
  ⟨k.1, fun q held => ⟨running, (k.2 q held).2⟩⟩

theorem State.valuesSound.withPower_idle (none : s.charter.program = none) (p : Power) : (s.withPower p).valuesSound :=
  State.valuesSound_of_idle none k.1

theorem State.valuesSound.dueReset (none : s.charter.program = none) : s.dueReset.valuesSound :=
  k.idle_frame s.dueReset_frame none (by simp)

theorem State.valuesSound.assertReset : s.assertReset.valuesSound := by
  unfold State.assertReset
  split
  next running =>
    split
    · exact k.withPower running
    next none => exact k.idle_frame (s.halt_frame _) (by simpa using none) (by simp)
  next starting => exact k.idle_frame (s.halt_frame _) (k.idle_of_phase (by simp [starting])) (by simp)
  · exact k
  next off => exact k.withPower_idle (k.idle_of_phase (by simp [off])) _
  · exact k

theorem State.valuesSound.releaseReset (mode : ModeStrap) (rate : Rate) : (s.releaseReset mode rate).valuesSound := by
  unfold State.releaseReset
  split
  next held => exact k.idle_frame (s.beginStartup_frame _ _) (k.idle_of_phase (by simp [held])) (by simp)
  next running => exact k.withPower running
  · exact k
  · exact k
  next held => exact k.withPower_idle (k.idle_of_phase (by simp [held])) _

theorem State.valuesSound.losePower : s.losePower.valuesSound := by
  unfold State.losePower
  split
  next running =>
    split
    · exact k.withPower running
    next none => exact k.idle_frame (s.halt_frame _) (by simpa using none) (by simp)
  next starting => exact k.idle_frame (s.halt_frame _) (k.idle_of_phase (by simp [starting])) (by simp)
  next held => exact k.idle_frame (s.halt_frame _) (k.idle_of_phase (by simp [held])) (by simp)
  all_goals exact k

theorem State.valuesSound.powerOn (held : Bool) (mode : ModeStrap) (rate : Rate) :
    (s.powerOn held mode rate).valuesSound := by
  unfold State.powerOn
  split
  next off =>
    exact k.idle_frame ((s.beginStartup_frame _ _).trans ((State.judgeCalendar_frame _ _).mono (by simp)))
      (k.idle_of_phase (by simp [off])) (by simp)
  next off =>
    have waits := k.withPower_idle (k.idle_of_phase (by simp [off])) { phase := .resetHeld, resetDue := none }
    exact (State.judgeCalendar_frame _ _).keeps values_depends (by simp) waits
  all_goals exact k

/-- A program's end: the words after it are in effect, and the values held are within their bounds. -/
theorem State.valuesSound.completeProgram : s.completeProgram.valuesSound := by
  unfold State.completeProgram
  split
  next w value h =>
    have charter : (s.programWord w value).charter = { words := s.charter.words.set w value, program := none } := by
      unfold State.programWord
      dsimp only
      split
      · exact (State.lengthProgrammed_frame _ _).charter (by simp)
      · rfl
    have written : (s.programWord w value).valuesSound := by
      refine State.valuesSound_of_idle (by rw [charter]) ?_
      rw [charter]
      exact State.fits_of_frame (s.programWord_frame w value) (by simp) (by simp) ((k.2 _ h).2.2 w value rfl)
    have answered := State.answerProgram_frame (s.programWord w value) (okLine [.nat w.val, .nat value.toNat])
    exact (written.idle_frame answered (by rw [charter]) (by simp)).dueReset (by rw [answered.charter (by simp), charter])
  · exact k

theorem State.valuesSound.completeLock : s.completeLock.valuesSound := by
  unfold State.completeLock
  split
  · have written : s.programLock.valuesSound := by
      refine State.valuesSound_of_idle rfl ?_
      obtain ⟨count, bounds, levies⟩ := State.fits_of_frame s.programLock_frame (by simp) (by simp) k.1
      have other (n : Nat) (h : n < 32) (low : n ≠ 31) : s.programLock.charter.words[n] = s.charter.words[n] :=
        Vector.getElem_set_ne (Nat.lt_succ_self 31) h (Ne.symm low)
      refine ⟨?_, ?_, ?_⟩
      · rw [other 1 (by omega) (by omega)]; exact count
      · rw [other 4 (by omega) (by omega), other 6 (by omega) (by omega)]; exact bounds
      · rw [other 5 (by omega) (by omega)]; exact levies
    have answered := State.answerProgram_frame s.programLock (okLine [.kw .SERVICE])
    exact (written.idle_frame answered rfl (by simp)).dueReset (by rw [answered.charter (by simp)]; rfl)
  · exact k

/-- A posting leaves no household that was not there (R90). -/
theorem State.valuesSound.attemptPosting : s.attemptPosting.valuesSound := by
  have attempted := s.attemptPosting_attempted
  generalize s.attemptPosting = t at attempted
  cases attempted with
  | idle => exact k
  | dropped => exact k
  | failed c b d n => exact (s.failPosting_frame b d n).keeps values_depends (by simp) k
  | posted c b computed held room limits =>
    have frame := s.post_frame b c
    have fewer : s.Fewer (s.post b c) := by
      intro i
      rw [s.post_household]
      unfold State.postedHousehold
      dsimp only
      split
      · exact fun present => absurd rfl present
      · exact fun present => ⟨fun none => present ((Household.settle_vacant _ _).mpr none), Household.settle_settings _ _⟩
    have fits (words : Vector Word16 32) : s.fits words → (s.post b c).fits words := State.fits_of_fewer fewer (frame.tariff (by simp))
    rw [State.valuesSound, frame.charter (by simp), frame.power (by simp), frame.host (by simp)]
    exact ⟨fits _ k.1, fun p held => ⟨(k.2 p held).1, (k.2 p held).2.1, fun w value word => fits _ ((k.2 p held).2.2 w value word)⟩⟩

end

theorem values_kept : Kept valueBlocks State.valuesSound where
  depends := values_depends
  hostLine := values_hostKept
  finish s r args running free k := by
    have none := k.idle_of_free free
    have answered := serveRequest_answer (s := s) r args
    generalize serveRequest r args s = o at answered
    cases answered with
    | refused reply => exact State.valuesSound_of_idle none k.1
    | done cs t reply h =>
      obtain ⟨households, levies⟩ := (s.fits_iff _).mp k.1
      have charter : t.charter = s.charter := h.frame.charter fun m => by simpa using h.blocks_subset m
      refine State.valuesSound_of_idle (by rw [← none, ← charter]; rfl) ?_
      have kept : t.fits t.charter.words := by
        rw [charter]
        exact (t.fits_iff _).mpr ⟨h.accounts_after.fit households, h.levies_fit levies⟩
      exact kept
    | programming p allowed =>
      refine ⟨k.1, fun q held => ⟨running, ⟨_, rfl⟩, fun w value word => ?_⟩⟩
      cases held
      subst word
      exact allowed.fits k.1
  event c s request startup meets k := by
    cases c with
    | charterProgramCompletion => exact whileRunning_keeps k fun _ => k.completeProgram
    | lockCompletion => exact whileRunning_keeps k fun _ => k.completeLock
    | hostLineComplete chars =>
      change (match receiveLine chars with
        | some line => s.offerLine line
        | none => s).valuesSound
      split
      · exact values_hostKept.offerLine _ k
      · exact k
    | replySent => exact whileRunning_keeps k fun _ => values_hostKept.replySent k
    | postingAttempt => exact whileRunning_keeps k fun _ => atGrant_keeps _ _ k k.attemptPosting
    | resetPinAssert => exact k.assertReset
    | resetPinRelease mode rate => exact k.releaseReset mode rate
    | powerLoss => exact k.losePower
    | powerOn held mode rate => exact k.powerOn held mode rate
    | startupEnd order => exact absurd rfl (startup order)
    | _ => simp [Instr.request, eventBlocks] at request meets
  started s starting k := k.idle_frame s.started_frame (k.idle_of_phase (by simp [starting])) (by simp)
  startEvent s examined e service meets running k := by
    cases e with
    | service => exact absurd rfl service
    | firstLine => exact values_hostKept.takeHeldLine k
    | _ => simp [startEventBlocks] at meets

/-! ## The statement of the three -/

theorem State.reset_vacant (i : Slot) : (State.reset.household i).member = .vacant := by
  rw [Tests.reset_household]; rfl

theorem State.reset_valuesSound : State.reset.valuesSound := by
  refine State.valuesSound_of_idle rfl ((State.reset.fits_iff _).mpr ⟨⟨?_, fun i _ present => ?_⟩, fun i => ?_⟩)
  · rw [State.memberCount_eq, List.countP_eq_zero.mpr fun i _ => by simp [Household.present, State.reset_vacant]]
    exact Nat.zero_le _
  · exact absurd (State.reset_vacant i) present
  · have prices : State.reset.tariff.sets = Vector.replicate 4 PriceSet.default := rfl
    simp [prices, PriceSet.default]

theorem State.reset_limitsSound : State.reset.limitsSound :=
  State.reset.limitsSound_iff.mpr ⟨fun i => by rw [Tests.reset_household]; rfl, rfl⟩

/-- Settles O31: each of the three is kept by every operation that writes what it speaks of. -/
theorem settingsValuesAndBalancesStayInRange : Obligations.SettingsValuesAndBalancesStayInRange := by
  refine ⟨fun s t sound stepped => ?_, fun _ _ sound stepped => values_kept.step (by simp) stepped sound,
    fun _ _ sound stepped => limits_kept.step (by simp) stepped sound, Tests.reset_reserve, State.reset_valuesSound,
    State.reset_limitsSound⟩
  exact t.reserveSound_iff.mpr (reserve_kept.step (by simp) stepped (s.reserveSound_iff.mp sound))

end Sys2Proof.Machine
end

section
/-! Money (R37): the balances and the fund sum to the injection total, a VACANT slot holds none of it, and what is settled
concerns households only. -/

namespace Sys2Proof.Machine

/-! ## The sum of the balances -/

theorem State.balanceSum_eq (s : State) : s.balanceSum = ∑ i, (s.household i).balance := by
  rw [State.balanceSum, toList_eq_map_allSlots, List.map_map, sum_allSlots]
  rfl

theorem State.balanceSum_congr {s t : State} (h : ∀ i, (t.household i).balance = (s.household i).balance) :
    t.balanceSum = s.balanceSum := by
  rw [State.balanceSum_eq, State.balanceSum_eq]
  exact Finset.sum_congr rfl fun i _ => h i

theorem State.balanceSum_withHousehold (s : State) (i : Slot) (h : Household) :
    (s.withHousehold i h).balanceSum = s.balanceSum + (h.balance - (s.household i).balance) := by
  have each (j : Slot) : ((s.withHousehold i h).household j).balance =
      (s.household j).balance + if j = i then h.balance - (s.household i).balance else 0 := by
    rw [State.withHousehold_household]
    by_cases same : i = j
    · subst same; simp
    · simp [same, Ne.symm same]
  rw [State.balanceSum_eq, State.balanceSum_eq, Finset.sum_congr rfl fun j _ => each j, Finset.sum_add_distrib]
  simp

/-- The money of the part (R37). -/
structure State.MoneyWell (s : State) : Prop where
  sum : s.balanceSum + s.fund = s.injection
  empty : ∀ i, (s.household i).member = .vacant → (s.household i).balance = 0

theorem State.moneySound_iff (s : State) : s.moneySound ↔ s.MoneyWell :=
  ⟨fun ⟨sum, empty⟩ => ⟨sum, empty⟩, fun ⟨sum, empty⟩ => ⟨sum, empty⟩⟩

theorem State.MoneyWell.of_accounts {s t : State} (k : s.MoneyWell) (accounts : Block.accounts.same s t)
    (fund : t.fund = s.fund) (injection : t.injection = s.injection) : t.MoneyWell where
  sum := by rw [State.balanceSum_congr (balance_of_accounts accounts), fund, injection]; exact k.sum
  empty i := by rw [accounts i]; exact k.empty i

theorem Rewritten.money {s : State} {i : Slot} {h : Household} {n : Int} (change : Rewritten s i h n) (k : s.MoneyWell) :
    h.balance = (s.household i).balance + n ∧ (h.member = .vacant → h.balance = 0) := by
  cases change with
  | enrolled c vacant => exact ⟨by rw [k.empty i vacant]; rfl, fun _ => rfl⟩
  | edited => exact ⟨by simp, k.empty i⟩
  | moved m bases misses present stays => exact ⟨by simp, fun none => absurd none stays⟩
  | vacated n present clear zero => exact ⟨zero.symm, fun _ => rfl⟩
  | credited n present => exact ⟨rfl, fun none => absurd none present⟩

theorem AccountsAfter.money {s t : State} (h : AccountsAfter s t) (k : s.MoneyWell) : t.MoneyWell := by
  cases h with
  | kept accounts fund injection => exact k.of_accounts accounts fund injection
  | one i h n change accounts fund injection =>
    obtain ⟨balance, empty⟩ := change.money k
    refine ⟨?_, fun j => ?_⟩
    · have sum := k.sum
      rw [State.balanceSum_congr (balance_of_accounts accounts), State.balanceSum_withHousehold, fund, injection, balance]
      omega
    · rw [accounts j]
      dsimp only
      rw [State.withHousehold_household]
      split
      · exact empty
      · exact k.empty j
  | funded n limit accounts fund injection =>
    refine ⟨?_, fun j => by rw [accounts j]; exact k.empty j⟩
    have sum := k.sum
    rw [State.balanceSum_congr (balance_of_accounts accounts), fund, injection]
    omega
  | wiped whole =>
    subst whole
    refine ⟨?_, fun j _ => by rw [s.wipe_household]; rfl⟩
    rw [State.balanceSum_eq, Finset.sum_eq_zero fun i _ => by rw [s.wipe_household]; rfl]
    rfl

/-! ## What the books concern -/

/-- What is held and what is settled concern households (R22, R31, R69). -/
structure State.ConcernsWell (s : State) : Prop where
  held : ∀ k ∈ s.bookKeys, ∀ i, k.concerns i = true → (s.household i).member ≠ .vacant
  taken : ∀ c, s.settlement.computation = some c → ∀ k ∈ s.bookKeys, k.boundary = c.boundary →
    ∀ i : Slot, c.slots[i].entry ≠ .excluded → k.concerns i = true

theorem State.concernsSound_iff (s : State) : s.concernsSound ↔ s.ConcernsWell := by
  have each (P : BookKey → Prop) : (∀ k ∈ s.bookKeys, P k) ↔ ∀ b ∈ s.store.books, P b.key := by simp [State.bookKeys]
  constructor
  · rintro ⟨held, taken⟩
    exact ⟨(each _).mpr held, fun c computed => (each _).mpr (taken c computed)⟩
  · rintro ⟨held, taken⟩
    exact ⟨(each _).mp held, fun c computed => (each _).mp (taken c computed)⟩

/-- The keys of one state are among those of another but for what is SETTLING. -/
def State.KeysFrom (s t : State) : Prop :=
  ∀ k ∈ t.bookKeys, ∃ old ∈ s.bookKeys, k.boundary = old.boundary ∧ k.concerns = old.concerns

theorem State.keysFrom_of_eq {s t : State} (h : t.bookKeys = s.bookKeys) : s.KeysFrom t :=
  fun k hk => ⟨k, h ▸ hk, rfl, rfl⟩

theorem State.keysFrom_of_map {s t : State} {f : BookKey → BookKey} (h : t.bookKeys = s.bookKeys.map f)
    (boundary : ∀ k, (f k).boundary = k.boundary) (concerns : ∀ k, (f k).concerns = k.concerns) : s.KeysFrom t := by
  intro k hk
  rw [h] at hk
  obtain ⟨old, held, rfl⟩ := List.mem_map.mp hk
  exact ⟨old, held, boundary old, concerns old⟩

theorem State.ConcernsWell.transfer {s t : State} (k : s.ConcernsWell) (keys : s.KeysFrom t)
    (present : ∀ key ∈ t.bookKeys, ∀ i, key.concerns i = true → (s.household i).member ≠ .vacant → (t.household i).member ≠ .vacant)
    (computation : t.settlement.computation = none ∨ t.settlement.computation = s.settlement.computation) : t.ConcernsWell where
  held key hkey i concerned := by
    obtain ⟨old, held, -, concerns⟩ := keys key hkey
    exact present key hkey i concerned (k.held old held i (concerns ▸ concerned))
  taken c computed key hkey boundary i entry := by
    obtain ⟨old, held, named, concerns⟩ := keys key hkey
    rcases computation with none | same
    · cases none.symm.trans computed
    · rw [concerns]
      exact k.taken c (same ▸ computed) old held (named ▸ boundary) i entry

/-- A change that leaves the accounts as they are. -/
theorem State.ConcernsWell.of_accounts {s t : State} (k : s.ConcernsWell) (keys : s.KeysFrom t)
    (accounts : Block.accounts.same s t)
    (computation : t.settlement.computation = none ∨ t.settlement.computation = s.settlement.computation) : t.ConcernsWell :=
  k.transfer keys (fun _ _ i _ present => by rw [accounts i]; exact present) computation

/-- A slot that no held book has an entry for (R31, R32). -/
theorem State.clearOfBooks_keys {s : State} {i : Slot} (clear : s.clearOfBooks i = true) :
    ∀ k ∈ s.bookKeys, k.concerns i = false := by
  intro k hk
  obtain ⟨b, held, rfl⟩ := List.mem_map.mp hk
  simp only [State.clearOfBooks, State.heldFor, Bool.not_eq_true', List.any_eq_false] at clear
  exact Bool.eq_false_iff.mpr (clear b held)

/-! ## What keeps the accounts sound -/

/-- Money and concerns together. -/
structure State.AccountsWell (s : State) : Prop where
  money : s.MoneyWell
  concerns : s.ConcernsWell

/-- The blocks that the soundness of the accounts speaks of. -/
abbrev accountBlocks : List Block := [.bookKeys, .computation, .accounts, .fund, .injection]

theorem accountsWell_depends (s t : State) (differ : s.boundariesDiffer) (h : ∀ b ∈ accountBlocks, b.same s t)
    (k : s.AccountsWell) : t.AccountsWell where
  money := k.money.of_accounts (h .accounts (by simp)) (h .fund (by simp)) (h .injection (by simp))
  concerns := k.concerns.of_accounts (State.keysFrom_of_eq (h .bookKeys (by simp) differ)) (h .accounts (by simp))
    (.inr (h .computation (by simp)))

/-- A change of none of the blocks that the accounts speak of. -/
theorem State.AccountsWell.frame {s t : State} {bs : List Block} (k : s.AccountsWell) (differ : s.boundariesDiffer)
    (h : Frame bs s t) (disjoint : ¬∃ b ∈ accountBlocks, b ∈ bs) : t.AccountsWell :=
  accountsWell_depends s t differ (fun b hb => h b fun hc => disjoint ⟨b, hb, hc⟩) k

/-- A change that leaves the money, and the books but for what is SETTLING. -/
theorem State.AccountsWell.settled {s t : State} {bs : List Block} (k : s.AccountsWell) (h : Frame bs s t)
    (keys : s.KeysFrom t)
    (computation : t.settlement.computation = none ∨ t.settlement.computation = s.settlement.computation)
    (disjoint : ¬∃ b ∈ [Block.accounts, .fund, .injection], b ∈ bs) : t.AccountsWell := by
  have out (b : Block) (h : b ∈ [Block.accounts, .fund, .injection]) : b ∉ bs := fun k => disjoint ⟨b, h, k⟩
  have accounts := h .accounts (out _ (by simp))
  exact ⟨k.money.of_accounts accounts (h.fund (out _ (by simp))) (h.injection (out _ (by simp))),
    k.concerns.of_accounts keys accounts computation⟩

namespace State.AccountsWell
variable {s : State} (k : s.AccountsWell) (w : s.StoreWell)
include k

theorem withHost (v : HostLine) : (s.withHost v).AccountsWell :=
  ⟨⟨k.money.sum, k.money.empty⟩, ⟨k.concerns.held, k.concerns.taken⟩⟩

theorem withPower (v : Power) : (s.withPower v).AccountsWell :=
  ⟨⟨k.money.sum, k.money.empty⟩, ⟨k.concerns.held, k.concerns.taken⟩⟩

theorem program (p : Program) : (s.program p).AccountsWell :=
  ⟨⟨k.money.sum, k.money.empty⟩, ⟨k.concerns.held, k.concerns.taken⟩⟩

theorem halt (phase : PowerPhase) : (s.halt phase).AccountsWell :=
  k.settled (s.halt_frame phase) (State.keysFrom_of_map (s.halt_bookKeys phase) (fun _ => rfl) fun _ => rfl)
    (.inl (s.halt_computation phase)) (by simp)

theorem beginStartup (mode : ModeStrap) (rate : Rate) : (s.beginStartup mode rate).AccountsWell := by
  have rest := s.beginStartup_rest_frame mode rate
  have keys : (s.beginStartup mode rate).bookKeys = (s.halt .starting).bookKeys :=
    bookKeys_congr (rest.books (by simp))
  exact k.settled (s.beginStartup_frame mode rate)
    (State.keysFrom_of_map (keys.trans (s.halt_bookKeys .starting)) (fun _ => rfl) fun _ => rfl)
    (.inl ((rest.computation (by simp)).trans (s.halt_computation .starting))) (by simp)

theorem dueReset : s.dueReset.AccountsWell := by
  unfold State.dueReset
  split
  · exact k
  · exact k.halt _
  · exact k.beginStartup _ _
  all_goals exact k.halt _

theorem assertReset : s.assertReset.AccountsWell := by
  unfold State.assertReset
  split
  · split
    · exact k.withPower _
    · exact k.halt _
  · exact k.halt _
  · exact k
  · exact k.withPower _
  · exact k

theorem releaseReset (mode : ModeStrap) (rate : Rate) : (s.releaseReset mode rate).AccountsWell := by
  unfold State.releaseReset
  split
  · exact k.beginStartup _ _
  · exact k.withPower _
  · exact k
  · exact k
  · exact k.withPower _

theorem losePower : s.losePower.AccountsWell := by
  unfold State.losePower
  split
  · split
    · exact k.withPower _
    · exact k.halt _
  · exact k.halt _
  · exact k.halt _
  all_goals exact k

theorem judgeCalendar (held : Bool) : (s.judgeCalendar held).AccountsWell := by
  unfold State.judgeCalendar
  split
  · exact k
  · exact ⟨⟨k.money.sum, k.money.empty⟩, ⟨k.concerns.held, k.concerns.taken⟩⟩

theorem powerOn (held : Bool) (mode : ModeStrap) (rate : Rate) : (s.powerOn held mode rate).AccountsWell := by
  unfold State.powerOn
  split
  · exact (k.beginStartup _ _).judgeCalendar _
  · exact (k.withPower _).judgeCalendar _
  all_goals exact k

include w

theorem completeProgram : s.completeProgram.AccountsWell := by
  unfold State.completeProgram
  split
  · refine dueReset (k.frame w.differ (bs := [.charter, .calendar, .host]) ?_ (by simp))
    exact (s.programWord_frame _ _).andThen (State.answerProgram_frame _ _) (by simp)
  · exact k

theorem completeLock : s.completeLock.AccountsWell := by
  unfold State.completeLock
  split
  · refine dueReset (k.frame w.differ (bs := [.charter, .service, .counts, .host]) ?_ (by simp))
    exact s.programLock_frame.andThen (State.answerProgram_frame _ _) (by simp)
  · exact k

/-! ## Boundary events -/

end State.AccountsWell

/-- A book that is opened concerns ENROLLED and ACTIVE households (R22, R46). -/
theorem State.newBook_concerns (s : State) (len b step : Nat) (i : Slot) :
    (s.newBook len b step).concerns i = true ↔ (s.household i).member = .enrolled ∨ (s.household i).member = .active := by
  have entry : (s.newBook len b step).entries[i] = (s.household i).openingEntry := tabulate_at 96 _ i
  rw [Book.concerns_iff, entry, Household.openingEntry]
  cases (s.household i).member with
  | enrolled => exact iff_of_true nofun (.inl rfl)
  | active => exact iff_of_true nofun (.inr rfl)
  | _ => exact iff_of_false (fun other => other rfl) (by simp)

namespace State.AccountsWell
variable {s : State} (k : s.AccountsWell) (w : s.StoreWell)
include k w

theorem boundaryEvent {len b : Nat} (later : s.calendar.bLast < b) : (s.boundaryEvent len b).AccountsWell := by
  let t := s.withCalendar { s.calendar with bLast := b, held := false }
  have frame := s.boundaryEvent_frame len b
  have accounts : Block.accounts.same s (s.boundaryEvent len b) := frame .accounts (by simp)
  have computation := frame.computation (by simp)
  have books : (s.boundaryEvent len b).store.books = (t.boundaryAtStore len b (b - s.calendar.bLast)).store.books := by
    unfold State.boundaryEvent
    dsimp only
    rw [(State.buildPass_frame _ .B b _).books (by simp), (State.buildPass_frame _ .A b _).books (by simp),
      (State.retry_frame _).books (by simp)]
  have keys := bookKeys_congr books
  refine ⟨k.money.of_accounts accounts (frame.fund (by simp)) (frame.injection (by simp)), ?_⟩
  rcases t.boundaryAtStore_keys len b (b - s.calendar.bLast) with same | ⟨-, -, u, -, -, table, joined⟩
  · exact k.concerns.of_accounts (State.keysFrom_of_eq (keys.trans same)) accounts (.inr computation)
  · have all : (s.boundaryEvent len b).bookKeys = s.bookKeys ++ [(u.newBook len b (b - s.calendar.bLast)).key] :=
      keys.trans joined
    have household (i : Slot) : u.household i = s.household i := by rw [State.household, table]; rfl
    refine ⟨fun key hkey i concerned => ?_, fun c computed key hkey named => ?_⟩
    · rw [all] at hkey
      rw [accounts i]
      rcases List.mem_append.mp hkey with hkey | hkey
      · exact k.concerns.held key hkey i concerned
      · cases List.mem_singleton.mp hkey
        have member := (u.newBook_concerns len b _ i).mp concerned
        rw [household] at member
        intro vacant
        rcases member with member | member <;> cases vacant.symm.trans member
    · rw [all] at hkey
      rw [computation] at computed
      rcases List.mem_append.mp hkey with hkey | hkey
      · exact k.concerns.taken c computed key hkey named
      · cases List.mem_singleton.mp hkey
        obtain ⟨first, rest, held, -, boundary, -⟩ := w.busy c computed
        have below := (w.bounds first (by rw [held]; simp)).2.1
        have named : b = c.boundary := named
        omega

theorem checkBoundary : s.checkBoundary.AccountsWell := by
  unfold State.checkBoundary
  split
  · exact k
  · split
    · exact k.boundaryEvent w (Nat.lt_succ_self _)
    · exact k

theorem catchUp : s.catchUp.AccountsWell := by
  unfold State.catchUp
  split
  · exact k
  · split
    next later => exact k.boundaryEvent w (by simp at later; exact later.2)
    next => exact k

theorem withCalendar (c : Calendar) : (s.withCalendar c).AccountsWell :=
  k.frame w.differ (s.withCalendar_frame c) (by simp)

theorem completeAlignment : s.completeAlignment.AccountsWell := by
  unfold State.completeAlignment
  split
  · exact checkBoundary (k.withCalendar w _) (w.withCalendar (Nat.le_refl _))
  · exact k.frame w.differ (s.invalidate_frame _) (by simp)

theorem calendarStep : s.calendarStep.AccountsWell := by
  unfold State.calendarStep
  split
  · exact k
  split
  · exact k.completeAlignment w
  split
  · exact checkBoundary (k.withCalendar w _) (w.withCalendar (Nat.le_refl _))
  · exact k.frame w.differ (s.invalidate_frame _) (by simp)

/-! ## Settlement -/

theorem takeBook {b : Book} {c : Cause} (held : b ∈ s.store.books) : (s.takeBook b c).AccountsWell := by
  have frame := s.takeBook_frame b c
  have accounts : Block.accounts.same s (s.takeBook b c) := frame .accounts (by simp)
  have keys : s.KeysFrom (s.takeBook b c) :=
    State.keysFrom_of_map (w.takeBook_keys held) (fun _ => by split <;> rfl) fun _ => by split <;> rfl
  refine ⟨k.money.of_accounts accounts (frame.fund (by simp)) (frame.injection (by simp)), ⟨fun key hkey i concerned => ?_, ?_⟩⟩
  · obtain ⟨old, before, -, concerns⟩ := keys key hkey
    rw [accounts i]
    exact k.concerns.held old before i (concerns ▸ concerned)
  · intro d computed key hkey named i entry
    cases computed
    obtain ⟨old, before, boundary, concerns⟩ := keys key hkey
    obtain ⟨book, member, rfl⟩ := List.mem_map.mp before
    have same : book = b := State.eq_of_boundary w.differ held member (boundary.symm.trans named)
    subst same
    rw [concerns]
    have fired : (tabulate 96 fun j => s.slotInput (s.fire book) j)[i].entry = (s.fire book)[i] := by
      rw [tabulate_at]; rfl
    refine (s.fire_concerns book i).symm.trans ?_
    exact (Book.concerns_iff _ i).mpr (fired ▸ entry)

theorem startSettling : s.startSettling.AccountsWell := by
  unfold State.startSettling
  split
  next b c start =>
    obtain ⟨-, -, -, -, rest, books, -⟩ := (s.startable_iff b c).mp start
    exact k.takeBook w (by rw [books]; simp)
  next => exact k

omit w in
theorem failPosting (b : Book) (d : Deferral) (n : Notice) : (s.failPosting b d n).AccountsWell :=
  k.settled (s.failPosting_frame b d n)
    (State.keysFrom_of_map (State.StoreWell.failPosting_keys b d n) (fun _ => by split <;> rfl) fun _ => by split <;> rfl)
    (.inl ((State.notify_frame _ _).computation (by simp))) (by simp)

omit w in
/-- A slot without a household settles nothing (R72). -/
theorem vacant_free {c : Computation} (computed : s.settlement.computation = some c) {b : Book} (held : b ∈ s.store.books)
    (named : b.boundary = c.boundary) {i : Slot} (vacant : (s.household i).member = .vacant) :
    (c.resultAt i).hasLine = false := by
  have excluded : c.slots[i].entry = .excluded := by
    by_contra entry
    exact k.concerns.held b.key (List.mem_map_of_mem held) i
      (k.concerns.taken c computed b.key (List.mem_map_of_mem held) named i entry) vacant
  have none : c.derivations[i] = none := by
    rw [c.derivations_at, derive]
    split
    · rfl
    · rw [excluded]
  rw [SlotResult.hasLine, c.resultAt_derived, none]

omit w in
/-- The money after a posting (R37, R90). -/
theorem post_money {c : Computation} (computed : s.settlement.computation = some c) {b : Book} (held : b ∈ s.store.books)
    (named : b.boundary = c.boundary) : (s.post b c).MoneyWell where
  sum := by
    have sum := k.money.sum
    have conserved := c.money_conserved
    rw [Finset.sum_add_distrib, Finset.sum_sub_distrib, ← c.fundChange_eq] at conserved
    rw [State.balanceSum_eq, Finset.sum_congr rfl fun i _ => (s.post_balance b c i).trans (s.balanceAfter_eq c i),
      Finset.sum_sub_distrib, Finset.sum_add_distrib, ← State.balanceSum_eq, s.post_fund,
      (s.post_frame b c).injection (by simp)]
    omega
  empty i none := by
    rw [s.post_household] at none
    rw [s.post_balance, s.balanceAfter_eq]
    unfold State.postedHousehold at none
    dsimp only at none
    split at none
    next vacates =>
      simp only [State.postingVacates, Bool.and_eq_true, decide_eq_true_eq] at vacates
      rw [← s.balanceAfter_eq]
      exact vacates.2
    next =>
      have vacant := (Household.settle_vacant _ _).mp none
      obtain ⟨credit, debit⟩ := c.resultAt_free i (k.vacant_free computed held named vacant)
      rw [credit, debit, k.money.empty i vacant]
      rfl

omit w in
theorem post {c : Computation} (computed : s.settlement.computation = some c) {b : Book} (held : b ∈ s.store.books)
    (named : b.boundary = c.boundary) : (s.post b c).AccountsWell := by
  refine ⟨k.post_money computed held named, ?_⟩
  have keys : s.KeysFrom (s.post b c) := by
    intro key hkey
    rw [State.bookKeys, s.post_books] at hkey
    exact ⟨key, ((List.filter_sublist.map _).subset hkey), rfl, rfl⟩
  refine k.concerns.transfer keys (fun key hkey i concerned present => ?_) (.inl (by rw [s.post_settlement]))
  rw [s.post_household]
  unfold State.postedHousehold
  dsimp only
  split
  next vacates =>
    simp only [State.postingVacates, Bool.and_eq_true, c.resultAt_slot, State.heldElsewhere, Bool.not_eq_true',
      List.any_eq_false] at vacates
    obtain ⟨⟨-, elsewhere⟩, -⟩ := vacates
    rw [State.bookKeys, s.post_books] at hkey
    obtain ⟨other, member, rfl⟩ := List.mem_map.mp hkey
    obtain ⟨before, differs⟩ := List.mem_filter.mp member
    exact absurd (by simpa using ⟨by simpa using differs, concerned⟩) (elsewhere other before)
  next => exact fun none => present ((Household.settle_vacant _ _).mp none)

omit w in
theorem attemptPosting : s.attemptPosting.AccountsWell := by
  have attempted := s.attemptPosting_attempted
  generalize s.attemptPosting = t at attempted
  cases attempted with
  | idle => exact k
  | dropped =>
    exact k.settled (s.withSettlement_frame _) (State.keysFrom_of_eq rfl) (.inl rfl) (by simp)
  | failed c b d n => exact k.failPosting b d n
  | posted c b computed held =>
    obtain ⟨member, named⟩ := State.bookOf_some held
    exact k.post computed member named

end State.AccountsWell

/-! ## Requests -/

/-- No record becomes VACANT that a held book has an entry for (R31, R32). -/
theorem AccountsAfter.concerns {s t : State} (h : AccountsAfter s t) (k : s.ConcernsWell) (keys : s.KeysFrom t)
    (computation : t.settlement.computation = s.settlement.computation) : t.ConcernsWell := by
  cases h with
  | kept accounts => exact k.of_accounts keys accounts (.inr computation)
  | one i h n change accounts =>
    refine k.transfer keys (fun key hkey j concerned present => ?_) (.inr computation)
    rw [accounts j]
    dsimp only
    rw [State.withHousehold_household]
    split
    next here =>
      subst here
      cases change with
      | enrolled => simp [enrolled]
      | edited => exact present
      | moved m bases misses before stays => exact stays
      | vacated n before clear =>
        obtain ⟨old, held, -, concerns⟩ := keys key hkey
        have none := State.clearOfBooks_keys clear old held
        rw [← concerns, concerned] at none
        cases none
      | credited => exact present
    next => exact present
  | funded n limit accounts => exact k.of_accounts keys accounts (.inr computation)
  | wiped whole =>
    subst whole
    have none : s.wipe.bookKeys = [] := rfl
    exact ⟨by simp [none], by simp [none]⟩

theorem Accepted.accounts_well {bs : List Block} {s t : State} (h : Accepted s bs t) (k : s.AccountsWell) (w : s.StoreWell) :
    t.AccountsWell := by
  refine ⟨h.accounts_after.money k.money, ?_⟩
  by_cases keyed : .bookKeys ∈ bs
  · cases h with
    | givesEvent d len valid length above =>
      exact (State.AccountsWell.boundaryEvent (s := s.setClock d) (k.withCalendar w _) (w.withCalendar (Nat.le_refl _)) above).concerns
    | wipes service =>
      have none : s.wipe.bookKeys = [] := rfl
      exact ⟨by simp [none], by simp [none]⟩
    | _ => simp at keyed
  · have computed : .computation ∉ bs := by cases h <;> simp
    exact h.accounts_after.concerns k.concerns (State.keysFrom_of_eq (h.frame.bookKeys keyed w.differ))
      (h.frame.computation computed)

/-! ## Every step -/

/-- The accounts and the store are sound together. -/
structure State.Accounted (s : State) : Prop where
  store : s.StoreWell
  accounts : s.AccountsWell

theorem State.accountsSound_iff (s : State) : s.accountsSound ↔ s.Accounted := by
  rw [State.accountsSound, s.storeSound_iff, s.concernsSound_iff, s.moneySound_iff]
  exact ⟨fun ⟨store, concerns, money⟩ => ⟨store, money, concerns⟩, fun ⟨store, money, concerns⟩ => ⟨store, concerns, money⟩⟩

/-- The blocks that both speak of. -/
abbrev accountedBlocks : List Block :=
  [.bookKeys, .calendar, .service, .charter, .power, .computation, .accounts, .fund, .injection]

theorem accounted_depends (s t : State) (h : ∀ b ∈ accountedBlocks, b.same s t) (k : s.Accounted) : t.Accounted where
  store := storeWell_depends s t (fun b hb => h b (by revert b; simp)) k.store
  accounts := accountsWell_depends s t k.store.differ (fun b hb => h b (by revert b; simp)) k.accounts

theorem accounted_kept : Kept accountedBlocks State.Accounted where
  depends := accounted_depends
  hostLine s v _ := hostLine_of_depends accounted_depends (by simp) s v
  finish s r args running free k := by
    refine ⟨storeWell_kept.finish s r args running free k.store, ?_⟩
    have answered := serveRequest_answer (s := s) r args
    generalize serveRequest r args s = o at answered
    cases answered with
    | refused reply => exact k.accounts.withHost _
    | done cs t reply h => exact (h.accounts_well k.accounts k.store).withHost _
    | programming p allowed => exact (k.accounts.program p).withHost _
  event c s request startup meets k := by
    refine ⟨storeWell_kept.next c k.store, ?_⟩
    obtain ⟨w, k⟩ := k
    cases c with
    | charterProgramCompletion => exact whileRunning_keeps k fun _ => k.completeProgram w
    | lockCompletion => exact whileRunning_keeps k fun _ => k.completeLock w
    | calendarStep => exact k.calendarStep w
    | alignmentCompletion =>
      refine whileRunning_keeps
        (f := fun s => if s.calendar.valid && s.calendar.aligning then s.completeAlignment else s) k fun _ => ?_
      split
      · exact k.completeAlignment w
      · exact k
    | settlingStart => exact whileRunning_keeps k fun _ => atGrant_keeps _ _ k (k.startSettling w)
    | postingAttempt => exact whileRunning_keeps k fun _ => atGrant_keeps _ _ k k.attemptPosting
    | resetPinAssert => exact k.assertReset
    | resetPinRelease mode rate => exact k.releaseReset mode rate
    | powerLoss => exact k.losePower
    | powerOn held mode rate => exact k.powerOn held mode rate
    | startupEnd order => exact absurd rfl (startup order)
    | _ => simp [Instr.request, eventBlocks] at request meets
  started s starting k := ⟨storeWell_kept.started s starting k.store, k.accounts.frame k.store.differ s.started_frame (by simp)⟩
  startEvent s examined e service meets running k := by
    have store : (s.takeStartEvent examined e).StoreWell := by
      by_cases stored : ∃ b ∈ storeBlocks, b ∈ startEventBlocks e
      · exact storeWell_kept.startEvent s examined e service stored running k.store
      · exact (s.takeStartEvent_frame examined e).keeps storeWell_depends stored k.store
    refine ⟨store, ?_⟩
    cases e with
    | service => exact absurd rfl service
    | catchUp => exact k.accounts.catchUp k.store
    | settling => exact atGrant_keeps _ _ k.accounts (k.accounts.startSettling k.store)
    | _ => simp [startEventBlocks] at meets

/-- Settles O33: money moves between balances and the fund only at a posting, which conserves it, and enters the part only with
the injection total. -/
theorem everyMicrocreditStaysAccountedFor : Obligations.EveryMicrocreditStaysAccountedFor :=
  fun s t sound stepped => t.accountsSound_iff.mpr (accounted_kept.step (by simp) stepped (s.accountsSound_iff.mp sound))

end Sys2Proof.Machine
end

section
/-! The queue and the outcomes, requests in general, the independence of the two feeders, and the state right after reset. -/

namespace Sys2Proof.Machine

/-! ## The queue and the outcomes -/

/-- Settles O1. -/
theorem stepRunsTheFrontCommand : Obligations.StepRunsTheFrontCommand :=
  ⟨fun _ _ _ => rfl, fun s empty => by rw [step, empty]⟩

theorem pending_depends (q : List Instr) (s t : State) (h : ∀ b ∈ [Block.pending], b.same s t) (k : s.pending = q) :
    t.pending = q := (h .pending (by simp)).trans k

/-- Every command leaves the queue behind it as it is. -/
theorem pending_kept (q : List Instr) : Kept [.pending] fun s => s.pending = q where
  depends := pending_depends q
  hostLine s v _ k := k
  finish s r args _ _ := by
    refine finish_of_accepted (pending_depends q) (by simp) (fun s cs t h meets => ?_) (fun _ _ _ => id) s r args
    exact absurd meets (h.disjoint (by simp))
  event c s request startup meets := by
    cases c with
    | startupEnd order => exact absurd rfl (startup order)
    | _ => simp [Instr.request, eventBlocks] at request meets
  started s _ k := k
  startEvent s examined e service meets := by
    cases e with
    | service => exact absurd rfl service
    | _ => simp [startEventBlocks] at meets

/-- A line offered while another is in service waits, or is discarded and counted (R182). -/
theorem State.queueLine_cases (s : State) (line : Line) :
    (s.host.waiting = none → s.queueLine line = { s with host := { s.host with waiting := some line } }) ∧
      (s.host.waiting ≠ none →
        s.queueLine line = { s with host := { s.host with discarded := min (s.host.discarded + 1) 65535 } }) := by
  unfold State.queueLine
  split
  next free => exact ⟨fun _ => rfl, fun taken => absurd free taken⟩
  next line' taken => exact ⟨fun free => by simp [free] at taken, fun _ => rfl⟩

/-- Out of service a request's line is not received (R205). -/
theorem State.requestCommand_unpowered {s : State} (r : Req) (args : List Tok) (served : Served)
    (h : s.power.phase = .off ∨ s.power.phase = .offHeld ∨ s.power.phase = .resetHeld) :
    s.requestCommand r args served = s := by
  rcases h with h | h | h <;> rw [State.requestCommand, h]

/-- Another line than the one that a request stands for is in service. -/
theorem State.requestCommand_queues {s : State} {r : Req} {args : List Tok} (served : Served) (running : s.power.phase = .running)
    (held : s.host.inService ≠ none) (other : s.host.inService ≠ some { line := .request r args, stage := .taken }) :
    s.requestCommand r args served = s.queueLine (.request r args) := by
  obtain ⟨l, line⟩ := Option.ne_none_iff_exists'.mp held
  rw [line] at other
  rw [State.requestCommand, running, line]
  exact if_neg fun same => other (by rw [same])

/-- The effect of an event that acts only while the part runs (R205, R206). -/
def runningEffect : Instr → Option (State → State)
  | .charterProgramCompletion => some State.completeProgram
  | .lockCompletion => some State.completeLock
  | .replySent => some State.replySent
  | .alignmentCompletion => some fun s => if s.calendar.valid && s.calendar.aligning then s.completeAlignment else s
  | .markSent f => some fun s => s.markSent f
  | .guardEnd f => some fun s => s.guardEnd f
  | .responseTimeout f receiving => some fun s => s.responseTimeout f receiving
  | .feederFrameReceived l bytes => some fun s => s.receiveFrame l bytes
  | .feederIdleGap l => some fun s => s.idleGap l
  | .snapshotDelivery => some fun s => s.atGrant .intake false State.grantDelivery
  | .settlingStart => some fun s => s.atGrant .engine false State.startSettling
  | .postingAttempt => some fun s => s.atGrant .engine true State.attemptPosting
  | .plantFrameReceived bytes => some fun s => s.plantFrame bytes
  | .plantIdleGap => some State.plantGap
  | .staleTimerExpiry => some State.goStale
  | .dwellEnd => some fun s => s.withDisplay s.display.endDwell
  | .blankDwellEnd => some fun s => s.withDisplay s.display.endBlank
  | .pageLatch => some fun s => s.atGrant .display false State.latchPage
  | .supplyWarning => some fun s => if s.supply.warning then s else s.enterWarning
  | .supplyGood => some fun s => if s.supply.warning then s.leaveWarning else s
  | .vddSample low => some fun s => if low then s.lowSample else s.goodSample
  | .frameEnd => some fun s => s.withDisplay s.display.endFrame
  | .requestSent f => some fun s => s.requestSent f
  | _ => none

theorem next_of_runningEffect {c : Instr} {f : State → State} (h : runningEffect c = some f) (s : State) :
    next c s = whileRunning f s := by
  cases c <;> cases h <;> rfl

/-- The event of a command while the part runs. -/
theorem exec_running {c : Instr} {f : State → State} (h : runningEffect c = some f) {s : State}
    (running : s.power.phase = .running) : exec c s = .next (f s) := by
  rw [exec_eq_next, next_of_runningEffect h, whileRunning, State.running, decide_eq_true running, if_pos rfl]

/-- An event that acts only while the part runs, and no request: the calendar, the receiver, the pin and the supply apart. -/
theorem runningEffect_some {c : Instr} (request : c.request = none) (step : c ≠ .calendarStep)
    (line : ∀ chars, c ≠ .hostLineComplete chars) (assert : c ≠ .resetPinAssert) (release : ∀ m r, c ≠ .resetPinRelease m r)
    (loss : c ≠ .powerLoss) (on : ∀ v m r, c ≠ .powerOn v m r) (startup : ∀ f, c ≠ .startupEnd f) :
    ∃ f, runningEffect c = some f := by
  cases c <;> simp_all [runningEffect, Instr.request]

/-- Nothing is received on the host line in reset and without supply (R205). -/
theorem State.offerLine_unpowered {s : State} (line : Line) (running : s.power.phase ≠ .running)
    (starting : s.power.phase ≠ .starting) : s.offerLine line = s := by
  unfold State.offerLine
  split
  next h => exact absurd h running
  next h => exact absurd h starting
  all_goals rfl

/-- An event while the part does not run: only the calendar, the receiver, the pin and the supply act (R205, R206). -/
theorem next_idle {c : Instr} {s : State} (stopped : s.power.phase ≠ .running) (request : c.request = none)
    (step : c ≠ .calendarStep) (line : (∃ chars, c = .hostLineComplete chars) → s.power.phase ≠ .starting)
    (assert : c ≠ .resetPinAssert) (release : ∀ m r, c ≠ .resetPinRelease m r) (loss : c ≠ .powerLoss)
    (on : ∀ v m r, c ≠ .powerOn v m r) (startup : ∀ f, c ≠ .startupEnd f) : next c s = s := by
  by_cases received : ∃ chars, c = .hostLineComplete chars
  · obtain ⟨chars, rfl⟩ := received
    change (match receiveLine chars with
      | some line => s.offerLine line
      | none => s) = s
    split
    · exact s.offerLine_unpowered _ stopped (line ⟨chars, rfl⟩)
    · rfl
  · obtain ⟨f, effect⟩ := runningEffect_some request step (fun chars h => received ⟨chars, h⟩) assert release loss on startup
    rw [next_of_runningEffect effect, whileRunning_otherwise stopped]

/-- Settles O2. -/
theorem commandsAnswerNextWhateverTheState : Obligations.CommandsAnswerNextWhateverTheState := by
  refine ⟨fun c s => ⟨next c s, exec_eq_next c s, (pending_kept s.pending).next c rfl⟩,
    fun r args s running held other => ?_, fun r args s unpowered => ?_,
    fun c s stopped request step line assert release loss on startup => ?_⟩
  · rw [exec_instrOf, State.requestCommand_queues _ running held other]
    have queued := s.queueLine_cases (.request r args)
    exact ⟨fun free => by rw [queued.1 free], fun taken => by rw [queued.2 taken]⟩
  · rw [exec_instrOf, State.requestCommand_unpowered r args _ unpowered]
  · rw [exec_eq_next, next_idle stopped request step line assert release loss on startup]

/-! ## Requests in general -/

/-- A request that only reports changes nothing but the host line, whatever its words (00, Requests at a glance). -/
theorem reading_answers {r : Req} {args : List Tok} {s : State} (reads : r ∈ readingRequests) (serves : s.serves r args) :
    ∃ reply, exec (instrOf r args) s = .next (s.answering r args reply) := by
  rw [exec_serves serves]
  have reported := serveRequest_report (s := s) reads args
  generalize serveRequest r args s = o at reported
  cases reported with
  | refused k => exact ⟨_, rfl⟩
  | line fields => exact ⟨_, rfl⟩
  | lines opening ls => exact ⟨_, rfl⟩

/-- Settles O3: every reply that comes with a change begins with OK. -/
theorem refusedAndReportingRequestsChangeNothing : Obligations.RefusedAndReportingRequestsChangeNothing := by
  refine ⟨fun r args s t line rest serves stepped negative => ?_, fun r args s reads serves => reading_answers reads serves⟩
  rw [exec_serves serves] at stepped
  obtain rfl := Host.Outcome.next.inj stepped
  have answered := serveRequest_answer (s := s) r args
  generalize serveRequest r args s = o at answered negative
  cases answered with
  | refused reply =>
    have same : reply = (.kw .NO :: line) :: rest := Option.some.inj negative
    rw [same]
    rfl
  | done bs t reply accepted positive =>
    obtain ⟨okLine, okRest, same⟩ := positive
    have negative : reply = (.kw .NO :: line) :: rest := Option.some.inj negative
    rw [same] at negative
    cases negative
  | programming p => cases negative

/-! ## The two feeders -/

/-- Settles O42: each feeder event's frame names its own feeder only. -/
theorem feederEventsLeaveTheOtherEngine : Obligations.FeederEventsLeaveTheOtherEngine := by
  intro s t f g c other event stepped
  rw [exec_next_iff] at stepped
  have frame := next_frame c s
  rw [← stepped] at frame
  have named : Block.feeder g ≠ Block.feeder f := fun same => other (Block.feeder.inj same).symm
  refine frame.engine g ?_
  rcases event with rfl | rfl | rfl | ⟨r, rfl⟩ | ⟨bytes, driven, rfl⟩ | ⟨driven, rfl⟩ <;>
    simp [eventBlocks, receptionBlocks, named]

/-! ## Right after reset -/

theorem State.reset_accountsSound : State.reset.accountsSound := by
  have vacant := State.reset_vacant
  refine ⟨?_, ⟨nofun, nofun⟩, ?_, fun i _ => by rw [Tests.reset_household]; rfl⟩
  · exact ⟨by decide, List.Pairwise.nil, nofun, fun some => absurd rfl some, by decide, nofun, nofun⟩
  · rw [State.balanceSum_eq, Finset.sum_eq_zero fun i _ => by rw [Tests.reset_household]; rfl]
    rfl

/-- Settles O60. -/
theorem resetStateIsSound : Obligations.ResetStateIsSound := by
  refine ⟨State.reset_accountsSound, ⟨fun i => ?_, fun i j c d held => ?_⟩, ⟨⟨by decide, by decide⟩, by decide, by decide⟩,
    ⟨by decide, by decide⟩, Journal.empty_sound, Tests.reset_notices, nofun, ⟨by decide, by decide, by decide⟩, ?_⟩
  · rw [Tests.reset_household]; exact ⟨by decide, nofun⟩
  · rw [Tests.reset_household] at held; cases held
  · have sets : State.reset.tariff.sets = Vector.replicate 4 PriceSet.default := rfl
    have bands : State.reset.tariff.bands = Vector.replicate 16 Band.default := rfl
    refine ⟨fun i => ?_, fun e => ?_⟩
    · simp only [sets, Fin.getElem_fin, Vector.getElem_replicate, PriceSet.sound]; decide
    · simp only [bands, Fin.getElem_fin, Vector.getElem_replicate, Band.sound]; decide

end Sys2Proof.Machine
end

section
/-! The calendar and the tariff schedule: their requests and events, case by case (R1 to R18). -/

namespace Sys2Proof.Machine

/-! ## Served requests -/

/-- A request that is carried out. -/
theorem exec_does {r : Req} {args : List Tok} {s t : State} {reply : Reply} (serves : s.serves r args)
    (h : serveRequest r args s = .done t reply) : exec (instrOf r args) s = .next (t.answering r args reply) := by
  rw [exec_serves serves, h, State.finish_done]

/-! ## The calendar's events -/

theorem isInstantOf_iff (len b : Nat) (t : DateTime) : isInstantOf len b t = true ↔ t.second = 0 ∧ t.minutes = b * len := by
  simp [isInstantOf]

/-- The check of a changed date-time (R6). -/
theorem State.checkBoundary_cases (s : State) :
    (∀ len, s.intervalLength = some len → s.power.phase = .running → s.calendar.now.second = 0 →
        s.calendar.now.minutes = (s.calendar.bLast + 1) * len →
        s.checkBoundary = s.boundaryEvent len (s.calendar.bLast + 1)) ∧
      ((∀ len, s.intervalLength = some len → ¬(s.power.phase = .running ∧ s.calendar.now.second = 0 ∧
          s.calendar.now.minutes = (s.calendar.bLast + 1) * len)) → s.checkBoundary = s) := by
  unfold State.checkBoundary
  split
  next none => exact ⟨fun len some => by simp [none] at some, fun _ => rfl⟩
  next len' length =>
    refine ⟨fun len same running second minutes => ?_, fun out => ?_⟩
    · cases length.symm.trans same
      exact if_pos (by simp [State.running, running, isInstantOf_iff, second, minutes])
    · refine if_neg fun h => out len' length ?_
      simpa [State.running, isInstantOf_iff] using h

/-- Settles O7. -/
theorem calendarStepGivesBoundaryEvents : Obligations.CalendarStepGivesBoundaryEvents := by
  intro s
  have acts : exec .calendarStep s = .next s.calendarStep := rfl
  rw [acts]
  refine ⟨fun invalid => by simp [State.calendarStep, invalid], fun valid steady => ⟨fun u ticked => ?_, fun past => ?_⟩⟩
  · have checked := State.checkBoundary_cases (s.withCalendar { s.calendar with now := u })
    have step : s.calendarStep = (s.withCalendar { s.calendar with now := u }).checkBoundary := by
      simp [State.calendarStep, valid, steady, ticked]
    rw [step]
    exact ⟨fun len length running second minutes => congrArg _ (checked.1 len length running second minutes),
      fun out => congrArg _ (checked.2 out)⟩
  · have step : s.calendarStep = s.invalidate s.calendar.now := by simp [State.calendarStep, valid, steady, past]
    rw [step]
    rfl

/-- Settles O9. -/
theorem alignmentsGoFromClkalignToCompletion : Obligations.AlignmentsGoFromClkalignToCompletion := by
  refine ⟨⟨fun s serves commissioned good => ⟨fun idle valid => ?_, fun idle invalid => ?_, fun busy => ?_⟩,
    fun s y mo d h mi sec serves commissioned good busy => ?_⟩, fun s running valid busy => ?_⟩
  · exact exec_does serves (by simp [serveRequest, serveClkalign, State.ifWritable_of commissioned good, idle, valid]; exact ⟨rfl, rfl⟩)
  · exact exec_refuses serves (by simp [serveRequest, serveClkalign, State.ifWritable_of commissioned good, idle, invalid])
  · exact exec_refuses serves (by simp [serveRequest, serveClkalign, State.ifWritable_of commissioned good, busy])
  · exact exec_refuses serves (by simp [serveRequest, serveClkset, State.ifWritable_of commissioned good, busy])
  · have acts : exec .alignmentCompletion s = .next s.completeAlignment := by
      rw [exec_running rfl running]
      simp [valid, busy]
    rw [acts, State.completeAlignment]
    refine ⟨fun u aligned => ?_, fun past => by rw [past]; rfl⟩
    have checked := State.checkBoundary_cases (s.withCalendar { s.calendar with now := u, aligning := false })
    rw [aligned]
    exact ⟨fun len length second minutes => congrArg _ (checked.1 len length running second minutes),
      fun out => congrArg _ (checked.2 fun len length all => out len length all.2)⟩

/-! ## CLKSET (R8, R9) -/

/-- The fields of a valid date-time are numbers that CLKSET takes (R8). -/
theorem validDateTime_ranges {t : DateTime} (valid : validDateTime t = true) :
    (2000 ≤ t.year ∧ t.year ≤ 2099) ∧ (1 ≤ t.month ∧ t.month ≤ 12) ∧ (1 ≤ t.day ∧ t.day ≤ 31) ∧ t.hour ≤ 23 ∧
      t.minute ≤ 59 ∧ t.second ≤ 59 := by
  obtain ⟨year, month, day, rest⟩ := (validDateTime_iff t).mp valid
  have days : daysInMonth t.year t.month ≤ 31 := by
    unfold daysInMonth
    repeat' split
    all_goals omega
  exact ⟨year, month, ⟨day.1, day.2.trans days⟩, rest⟩

/-- Six numbers name the date-time whose fields they are, when it is valid (R8). -/
theorem dateTimeOf_fields (t : DateTime) :
    dateTimeOf t.year t.month t.day t.hour t.minute t.second = if validDateTime t then some t else none := by
  unfold dateTimeOf
  simp only [natIn_of_natural]
  by_cases ranges : (2000 ≤ t.year ∧ t.year ≤ 2099) ∧ (1 ≤ t.month ∧ t.month ≤ 12) ∧ (1 ≤ t.day ∧ t.day ≤ 31) ∧
      t.hour ≤ 23 ∧ t.minute ≤ 59 ∧ t.second ≤ 59
  · obtain ⟨year, month, day, hour, minute, second⟩ := ranges
    simp [year, month, day, hour, minute, second]
  · rw [if_neg fun valid => ranges (validDateTime_ranges valid)]
    split
    next year month day hour minute second =>
      simp only [Option.ite_none_right_eq_some, Option.some.injEq] at year month day hour minute second
      exact absurd ⟨year.1, month.1, day.1, hour.1.2, minute.1.2, second.1.2⟩ ranges
    next => rfl

/-- Settles O10. -/
theorem clksetSetsTheClock : Obligations.ClksetSetsTheClock := by
  rintro s t args rfl serves commissioned good idle
  have served : serveRequest .CLKSET [.num t.year, .num t.month, .num t.day, .num t.hour, .num t.minute, .num t.second] s =
      if validDateTime t then s.acceptClock t else refuse .RANGE := by
    simp only [serveRequest, serveClkset, State.ifWritable_of commissioned good, idle, dateTimeOf_fields]
    cases validDateTime t <;> rfl
  refine ⟨fun invalid => exec_refuses serves (by rw [served, invalid]; rfl), fun valid => ?_⟩
  rw [valid, if_pos rfl] at served
  refine ⟨fun none => ?_, fun len length => ⟨fun above => ?_, fun below => ?_⟩⟩
  · exact exec_does serves (served.trans (by rw [State.acceptClock, none]; rfl))
  · refine exec_does serves (served.trans ?_)
    rw [State.acceptClock, length]
    exact if_pos above
  · refine exec_does serves (served.trans ?_)
    rw [State.acceptClock, length]
    exact if_neg (Nat.not_lt.mpr below)

/-! ## The tariff schedule (R14 to R18) -/

@[simp] theorem bandOf_val (e : BandIx) : bandOf (e.val : Int) = some e := by
  have := e.isLt
  simp [bandOf, natIn_of_natural, show e.val ≤ 15 by omega]

@[simp] theorem setOf_val (i : SetIx) : setOf (i.val : Int) = some i := by
  have := i.isLt
  simp [setOf, natIn_of_natural, show i.val ≤ 3 by omega]

/-- The numbers of a price set name it when they are in their ranges (R15). -/
theorem priceSetOf_fields (p : PriceSet) (plant : p.ordered = true) (scarcity : p.plantScarcity ≤ 65535) (levy : p.levy ≤ 200) :
    priceSetOf p.community p.feed p.feedSurplus p.plant p.plantScarcity p.levy = some p := by
  simp only [PriceSet.ordered, Bool.and_eq_true, decide_eq_true_eq] at plant
  obtain ⟨⟨⟨feedSurplus, feed⟩, community⟩, plant⟩ := plant
  simp [priceSetOf, natIn_of_natural, Config.maxPrice, Config.maxLevy, show p.community ≤ 65535 by omega,
    show p.feed ≤ 65535 by omega, show p.feedSurplus ≤ 65535 by omega, show p.plant ≤ 65535 by omega, scarcity, levy]

/-- Six numbers name no other price set. -/
theorem priceSetOf_eq {p q : PriceSet} (h : priceSetOf p.community p.feed p.feedSurplus p.plant p.plantScarcity p.levy = some q) :
    q = p := by
  unfold priceSetOf at h
  split at h
  next community feed feedSurplus plant plantScarcity levy =>
    cases h
    simp only [natIn_of_natural, Option.ite_none_right_eq_some, Option.some.injEq] at community feed feedSurplus plant plantScarcity levy
    simp [← community.2, ← feed.2, ← feedSurplus.2, ← plant.2, ← plantScarcity.2, ← levy.2]
  next => cases h

theorem PriceSet.ordered_iff (p : PriceSet) :
    p.ordered = true ↔ p.feedSurplus ≤ p.feed ∧ p.feed ≤ p.community ∧ p.community ≤ p.plant ∧ p.plant ≤ p.plantScarcity := by
  simp only [PriceSet.ordered, Bool.and_eq_true, decide_eq_true_eq, and_assoc]

/-- Settles O11. -/
theorem bandsetAndPricesetWriteTheSchedule : Obligations.BandsetAndPricesetWriteTheSchedule := by
  refine ⟨fun s named => ⟨rfl, rfl, rfl, rfl⟩, ?_, ?_, ?_⟩
  · rintro s e word ds start ix args rfl days minute serves commissioned good
    refine exec_does serves ?_
    simp only [serveRequest, serveBandset, days, State.ifWritable_of commissioned good, Machine.bandOn, bandOf_val, setOf_val, natIn_of_natural,
      Nat.zero_le, minute, and_self, if_true]
    rfl
  · rintro s e args rfl serves commissioned good
    refine exec_does serves ?_
    simp only [serveRequest, serveBandset, State.ifWritable_of commissioned good, Machine.bandOff, bandOf_val]
    rfl
  · rintro s ix p args rfl serves commissioned good
    have served : serveRequest .PRICESET [.num ix.val, .num p.community, .num p.feed, .num p.feedSurplus, .num p.plant,
        .num p.plantScarcity, .num p.levy] s =
          match priceSetOf p.community p.feed p.feedSurplus p.plant p.plantScarcity p.levy with
          | some q =>
            if q.acceptable s.levyCeiling then
              .done (s.withTariff { s.tariff with sets := s.tariff.sets.set ix q }) (okLine [])
            else refuse .RANGE
          | none => refuse .RANGE := by
      simp only [serveRequest, servePriceset, State.ifWritable_of commissioned good, setOf_val]
      cases priceSetOf p.community p.feed p.feedSurplus p.plant p.plantScarcity p.levy <;> rfl
    refine ⟨fun ⟨order, scarcity, levy, ceiling⟩ => ?_, fun bad => ?_⟩
    · have ordered := p.ordered_iff.mpr order
      refine exec_does serves (served.trans ?_)
      simp only [priceSetOf_fields p ordered scarcity levy, PriceSet.acceptable, ordered, ceiling]
      rfl
    · refine exec_refuses serves (served.trans ?_)
      cases named : priceSetOf p.community p.feed p.feedSurplus p.plant p.plantScarcity p.levy with
      | none => rfl
      | some q =>
        obtain rfl := priceSetOf_eq named
        obtain ⟨scarcity, levy⟩ := priceSetOf_bounds named
        refine if_neg fun acceptable => bad ?_
        simp only [PriceSet.acceptable, Bool.and_eq_true, decide_eq_true_eq] at acceptable
        exact ⟨q.ordered_iff.mp acceptable.1, scarcity, levy, acceptable.2⟩

/-! ## The band resolution (R18) -/

/-- The fold has taken an entry of the list, if there is one. -/
theorem foldl_laterBand_mem (l : List Band) (best : Option Band) (b : Band) (h : l.foldl laterBand best = some b) :
    best = some b ∨ b ∈ l := by
  induction l generalizing best with
  | nil => exact .inl h
  | cons a l ih =>
    rcases ih _ h with taken | later
    · cases best with
      | none => cases taken; exact .inr (List.mem_cons_self ..)
      | some c =>
        simp only [laterBand] at taken
        split at taken
        · cases taken; exact .inr (List.mem_cons_self ..)
        · exact .inl taken
    · exact .inr (List.mem_cons_of_mem _ later)

/-- An entry taken stays while no later start comes. -/
theorem foldl_laterBand_stays (l : List Band) (b : Band) (h : ∀ a ∈ l, a.start ≤ b.start) :
    l.foldl laterBand (some b) = some b := by
  induction l with
  | nil => rfl
  | cons a l ih =>
    have stays : laterBand (some b) a = some b := if_neg (Nat.not_lt.mpr (h a (by simp)))
    rw [List.foldl_cons, stays]
    exact ih fun c hc => h c (by simp [hc])

/-- The fold takes the entry before which all start earlier, and after which none starts later (R18). -/
theorem foldl_laterBand (before after : List Band) (b : Band) (earlier : ∀ a ∈ before, a.start < b.start)
    (later : ∀ a ∈ after, a.start ≤ b.start) : (before ++ b :: after).foldl laterBand none = some b := by
  rw [List.foldl_append, List.foldl_cons]
  have taken : laterBand (before.foldl laterBand none) b = some b := by
    cases best : before.foldl laterBand none with
    | none => rfl
    | some a =>
      rcases foldl_laterBand_mem before none a best with none | member
      · cases none
      · exact if_pos (earlier a member)
  rw [taken]
  exact foldl_laterBand_stays after b later

theorem Band.appliesAt_iff (b : Band) (d : Weekday) (minute : Nat) :
    b.appliesAt d minute = true ↔ b.used = true ∧ d ∈ b.weekdays ∧ b.start ≤ minute := by
  simp [Band.appliesAt, and_assoc]

/-- Settles O12: of the entries that apply, in the order of their numbers, the fold takes the latest start's first. -/
theorem bandResolutionTakesTheLatestStart : Obligations.BandResolutionTakesTheLatestStart := by
  intro t at_ applies
  let p : Band → Bool := fun b => b.appliesAt at_.weekday at_.minuteOfDay
  have applies_iff (e : BandIx) : p t.bands[e] = true ↔ applies e := Band.appliesAt_iff _ _ _
  have resolved : t.resolve at_ = match (t.bands.toList.filter p).foldl laterBand none with
      | some b => b.setIx
      | none => 0 := rfl
  rw [resolved]
  refine ⟨fun none => ?_, fun e here best => ?_⟩
  · have empty : t.bands.toList.filter p = [] := by
      rw [List.filter_eq_nil_iff]
      intro b member
      obtain ⟨n, bound, rfl⟩ := List.mem_iff_getElem.mp member
      exact fun applied => none ⟨n, by simpa using bound⟩ ((applies_iff _).mp (by simpa using applied))
    rw [empty]
    rfl
  · have bound : e.val < t.bands.toList.length := by simp
    have split : t.bands.toList = t.bands.toList.take e.val ++ t.bands[e] :: t.bands.toList.drop (e.val + 1) := by
      conv_lhs => rw [← List.take_append_drop e.val t.bands.toList, List.drop_eq_getElem_cons bound]
      simp
    have at_index {b : Band} {n : Nat} (h : t.bands.toList[n]? = some b) : ∃ k : BandIx, k.val = n ∧ t.bands[k] = b := by
      obtain ⟨bound, same⟩ := List.getElem?_eq_some_iff.mp h
      exact ⟨⟨n, by simpa using bound⟩, rfl, by simpa using same⟩
    rw [split, List.filter_append, List.filter_cons_of_pos ((applies_iff e).mpr here), foldl_laterBand]
    · intro b member
      obtain ⟨taken, applied⟩ := List.mem_filter.mp member
      obtain ⟨n, found⟩ := List.mem_iff_getElem?.mp taken
      have below : n < e.val := by
        by_contra past
        rw [List.getElem?_take_eq_none (by omega)] at found
        cases found
      obtain ⟨k, rfl, rfl⟩ := at_index (by rwa [List.getElem?_take_of_lt below] at found)
      rcases best k ((applies_iff k).mp applied) with earlier | ⟨-, lower⟩
      · exact earlier
      · exact absurd (Fin.le_def.mp lower) (by omega)
    · intro b member
      obtain ⟨taken, applied⟩ := List.mem_filter.mp member
      obtain ⟨n, found⟩ := List.mem_iff_getElem?.mp taken
      rw [List.getElem?_drop] at found
      obtain ⟨k, -, rfl⟩ := at_index found
      rcases best k ((applies_iff k).mp applied) with earlier | ⟨same, -⟩
      · exact earlier.le
      · exact same.le

/-! ## Reports -/

theorem State.bandLine_eq (s : State) (e : BandIx) :
    s.bandLine e = .num e.val ::
      (if (s.tariff.bands[e]).used then
        [.kw .ON, if (s.tariff.bands[e]).weekdays = [] then .kw .NONE else .days (s.tariff.bands[e]).weekdays,
          .num (s.tariff.bands[e]).start, .num (s.tariff.bands[e]).setIx.val]
      else [Field.kw .OFF]) := by
  unfold State.bandLine
  dsimp only
  cases (s.tariff.bands[e]).used <;> rfl

/-- Settles O13. -/
theorem calendarReadsReport : Obligations.CalendarReadsReport := by
  refine ⟨fun s e i => ⟨s.bandLine_eq e, rfl⟩, fun s serves => exec_answers serves rfl, fun s e serves => ?_,
    fun s serves => ⟨(List.finRange 16).map s.bandLine, by simp, fun e => by simp, exec_answers serves rfl⟩, fun s i serves => ?_,
    fun s serves => ⟨(List.finRange 4).map s.priceLine, by simp, fun i => by simp, exec_answers serves rfl⟩⟩
  · refine exec_answers serves ?_
    simp only [serveRequest, serveBandread, bandOf_val]
    rw [s.bandLine_eq]
    rfl
  · refine exec_answers serves ?_
    simp only [serveRequest, servePriceread, setOf_val]
    rfl

end Sys2Proof.Machine
end

section
/-! The requests of the household table (chapter 2): what each answers, and what vacating a slot clears. -/

namespace Sys2Proof.Machine

/-! ## Notices set a number of times (R188) -/

/-- A notice set a number of times: its flag is set if it is set at all, its count rises by that number. -/
theorem State.notifyTimes_cell (s : State) (m n : Notice) (k : Nat) :
    (s.notifyTimes m k).notices.cell n =
      if m = n ∧ k ≠ 0 then
        { s.notices.cell n with flag := true, count := ((s.notices.cell n).count + k) % 256 }
      else s.notices.cell n := by
  induction k generalizing s with
  | zero => simp [State.notifyTimes]
  | succ k ih =>
    rw [State.notifyTimes, ih, State.notify_cell]
    by_cases same : m = n
    · by_cases last : k = 0
      · simp [same, last]
      · simp only [same, last, ne_eq, not_false_eq_true, and_self, if_true, Nat.succ_ne_zero]
        congr 1
        omega
    · simp [same]

theorem State.notifyTimes_flag (s : State) (m : Notice) (k : Nat) :
    ((s.notifyTimes m k).notices.cell m).flag = true ↔ (s.notices.cell m).flag = true ∨ 0 < k := by
  rw [State.notifyTimes_cell]
  by_cases none : k = 0
  · simp [none]
  · simp [none, Nat.pos_of_ne_zero none]

theorem State.notifyTimes_count (s : State) (m : Notice) (k : Nat) (h : (s.notices.cell m).count ≤ 255) :
    ((s.notifyTimes m k).notices.cell m).count = ((s.notices.cell m).count + k) % 256 := by
  rw [State.notifyTimes_cell]
  by_cases none : k = 0
  · simp [none]; omega
  · simp [none]

theorem State.notifyTimes_others (s : State) {m n : Notice} (k : Nat) (h : n ≠ m) :
    (s.notifyTimes m k).notices.cell n = s.notices.cell n := by
  rw [State.notifyTimes_cell, if_neg fun both => h both.1.symm]

/-! ## MEMBER records (R24, R28 to R31) -/

theorem State.memberRecord_done {s : State} (room : s.journal.hasRoom 1 1 = true) (i : Slot) (a : MemberAction)
    (m : MemberState) (change : State → State) :
    s.memberRecord i a m change =
      .done ((change s).record (.member i a m)) [[.kw .OK, .kw m.kw, .num s.journal.nextNumber]] := if_pos room

theorem State.memberRecord_full {s : State} (room : s.journal.hasRoom 1 1 = false) (i : Slot) (a : MemberAction)
    (m : MemberState) (change : State → State) : s.memberRecord i a m change = refuse .ROOM :=
  if_neg (by simp [room])

/-! ## Enrolling (R23, R24) -/

theorem State.memberCount_countP (s : State) :
    s.memberCount = allSlots.countP fun i : Slot => (s.household i).member ≠ .vacant := by
  rw [s.memberCount_eq]
  rfl

theorem State.lowestFloor_eq (s : State) :
    s.lowestFloor =
      -((if (s.charter.words[(6 : CharterIx)]).toNat ≤ 65534 then ((s.charter.words[(6 : CharterIx)]).toNat : Int) else 0) *
        1000000) := by
  show lowestFloorOf (s.charter.words[(6 : CharterIx)]).toNat = _
  unfold lowestFloorOf floorMinimumOf
  split <;> rfl

/-- The values that HHENROL accepts name one set of settings (R24). -/
theorem State.enrolment_iff (s : State) (i : Slot) (f : Feeder) (addr cap : Nat) (floor : Int) (p : Policy) (shown : Bool) :
    s.enrolment i f addr cap floor p shown =
      if (1 ≤ addr ∧ addr ≤ 247) ∧ s.addressTaken f addr i = false ∧ (1 ≤ cap ∧ cap ≤ s.capCeiling) ∧ s.floorOk floor = true then
        some { feeder := f, addr := addr, cap := cap, floor := floor, policy := p, shown := shown }
      else none := by
  by_cases address : 1 ≤ addr ∧ addr ≤ 247
  · by_cases capacity : 1 ≤ cap ∧ cap ≤ s.capCeiling
    · simp only [State.enrolment, State.addressFree, natIn_of_natural, address, capacity, and_self, if_true]
      cases s.addressTaken f addr i <;> cases s.floorOk floor <;> rfl
    · simp only [State.enrolment, natIn_of_natural, capacity, false_and, and_false, if_false]
      cases s.addressFree i f addr <;> rfl
  · simp only [State.enrolment, State.addressFree, natIn_of_natural, address, false_and, if_false]

theorem State.addressTaken_false (s : State) (f : Feeder) (addr : Nat) (i : Slot) :
    s.addressTaken f addr i = false ↔ ∀ j, j ≠ i → s.boundTo f addr j = false := by
  rw [← Bool.not_eq_true, s.addressTaken_iff]
  simp

/-- Settles O15. -/
theorem hhenrolEnrolsAVacantSlot : Obligations.HhenrolEnrolsAVacantSlot := by
  refine ⟨fun s => ⟨rfl, ?_, s.lowestFloor_eq, s.memberCount_countP, s.boundTo_iff⟩, ?_⟩
  · show capCeilingOf _ = _
    have bound := (s.charter.words[4]).isLt
    have zero : ¬(1 ≤ (s.charter.words[4]).toNat ∧ (s.charter.words[4]).toNat ≤ 65535) → 0 = (s.charter.words[4]).toNat := by
      omega
    exact ite_eq_left_iff.mpr zero
  · rintro s i f addr cap floor p shown args rfl serves commissioned good
    have served : serveRequest .HHENROL [.num (slotNumber i), .kw (feederKw f), .num addr, .num cap, .num floor, .kw p.kw,
        .kw (if shown then .YES else .NO)] s =
          if (s.household i).present then refuse .STATE
          else if s.householdLimit ≤ s.memberCount then refuse .ROOM
          else (s.enrolment i f addr cap floor p shown).elim (refuse .RANGE) fun c =>
            s.memberRecord i .enrol .enrolled fun t => t.withHousehold i (Machine.enrolled c) := by
      simp only [serveRequest, serveHhenrol, (feederOf_iff _ f).mpr rfl, (policyOf_iff _ p).mpr rfl,
        (yesNoOf_iff _ shown).mpr rfl, State.onSlot_of commissioned good]
      cases s.enrolment i f addr cap floor p shown <;> rfl
    have ranges (order : 1 ≤ addr ∧ addr ≤ 247 ∧ (∀ j, j ≠ i → s.boundTo f addr j = false) ∧ 1 ≤ cap ∧ cap ≤ s.capCeiling ∧
        s.lowestFloor ≤ floor ∧ floor ≤ 0) : (1 ≤ addr ∧ addr ≤ 247) ∧ s.addressTaken f addr i = false ∧
          (1 ≤ cap ∧ cap ≤ s.capCeiling) ∧ s.floorOk floor = true := by
      obtain ⟨low, high, free, least, most, floors⟩ := order
      exact ⟨⟨low, high⟩, (s.addressTaken_false f addr i).mpr free, ⟨least, most⟩, (s.floorOk_iff floor).mpr floors⟩
    refine ⟨fun used => exec_refuses serves (served.trans (if_pos (by simp [Household.present, used]))), fun vacant => ?_⟩
    replace served := served.trans (if_neg (by simp [Household.present, vacant]))
    refine ⟨fun full => exec_refuses serves (served.trans (if_pos full)), fun below => ?_⟩
    replace served := served.trans (if_neg (Nat.not_le.mpr below))
    refine ⟨fun out => ?_, fun inRange room => ?_, fun inRange room => ?_⟩
    · have none := (s.enrolment_iff i f addr cap floor p shown).trans (if_neg (mt (fun fits => ?_) out))
      · exact exec_refuses serves (by rw [served, none]; rfl)
      · obtain ⟨⟨low, high⟩, free, ⟨least, most⟩, floors⟩ := fits
        exact ⟨low, high, (s.addressTaken_false f addr i).mp free, least, most, (s.floorOk_iff floor).mp floors⟩
    all_goals have some := (s.enrolment_iff i f addr cap floor p shown).trans (if_pos (ranges inRange))
    · exact exec_refuses serves (by rw [served, some, Option.elim_some, State.memberRecord_full room])
    · exact exec_does serves (by rw [served, some, Option.elim_some, State.memberRecord_done room]; rfl)

/-! ## Suspension and rebasing (R28 to R30) -/

theorem Book.isSettling_iff (b : Book) : b.isSettling = true ↔ ∃ c, b.state = .settling c := by
  unfold Book.isSettling
  cases b.state <;> simp

theorem State.settlingFor_iff (s : State) (i : Slot) :
    s.settlingFor i = true ↔ ∃ b ∈ s.store.books, (∃ c, b.state = .settling c) ∧ b.entries[i] ≠ .excluded := by
  simp only [State.settlingFor, List.any_eq_true, Bool.and_eq_true, Book.isSettling_iff, Book.concerns_iff]

theorem State.heldFor_false (s : State) (i : Slot) : s.heldFor i = false ↔ ∀ b ∈ s.store.books, b.entries[i] = .excluded := by
  simp [State.heldFor, Book.concerns]

/-- HHRESUME and HHREBASE are one service: a member state left with a MEMBER record (R29, R30). -/
def State.enrolsFrom (s : State) (i : Slot) (m : MemberState) (a : MemberAction) : Served :=
  if (s.household i).member ≠ m then refuse .STATE
  else if s.settlingFor i then refuse .BUSY
  else s.memberRecord i a .enrolled fun t => t.enrolAgain i

/-- Settles O17. -/
theorem suspendResumeRebaseMoveTheState : Obligations.SuspendResumeRebaseMoveTheState := by
  refine ⟨State.settlingFor_iff, ?_, ?_⟩
  · rintro s i args rfl serves commissioned good
    have served : serveRequest .HHSUSPEND [.num (slotNumber i)] s =
        if (s.household i).member = .enrolled ∨ (s.household i).member = .active then
          s.memberRecord i .suspend .suspended fun t => t.setMember i .suspended
        else refuse .STATE := by
      simp only [serveRequest, serveHhsuspend, State.onlySlot, State.onSlot_of commissioned good]
    refine ⟨fun other => exec_refuses serves (served.trans (if_neg other)), fun held room => ?_, fun held room => ?_⟩
    · exact exec_refuses serves (served.trans ((if_pos held).trans (State.memberRecord_full room ..)))
    · exact exec_does serves (served.trans ((if_pos held).trans (State.memberRecord_done room ..)))
  · rintro s i args r m a rfl which serves commissioned good
    have served : serveRequest r [.num (slotNumber i)] s = s.enrolsFrom i m a := by
      rcases which with ⟨rfl, rfl, rfl⟩ | ⟨rfl, rfl, rfl⟩ <;>
        simp only [serveRequest, serveHhresume, serveHhrebase, State.onlySlot, State.onSlot_of commissioned good,
          State.enrolsFrom]
    refine ⟨fun other => exec_refuses serves (served.trans (if_pos other)), fun held busy => ?_, fun held idle room => ?_,
      fun held idle room => ?_⟩
    all_goals replace served := served.trans (if_neg (not_not.mpr held))
    · exact exec_refuses serves (served.trans (if_pos busy))
    all_goals replace served := served.trans (if_neg (by simp [idle]))
    · exact exec_refuses serves (served.trans (State.memberRecord_full room ..))
    · exact exec_does serves (served.trans (State.memberRecord_done room ..))

/-! ## HHEDIT (R25, R26) -/

theorem given_ne_none {α : Type} (ps : List (Kw × α)) (k : Kw) : given ps k ≠ none ↔ (given ps k).isSome = true :=
  Option.isSome_iff_ne_none.symm

theorem bindingPair_iff (ps : List (Kw × EditValue)) :
    bindingPair ps = true ↔ given ps .FEEDER ≠ none ∨ given ps .ADDR ≠ none := by
  simp only [bindingPair, Bool.or_eq_true, given_ne_none]

theorem State.exchangeTo_iff (s : State) (f : Feeder) (addr : Nat) :
    s.exchangeTo f addr = true ↔ ∃ p x, (s.engine f).inFlight = some (p, x) ∧ x.addr = addr := by
  unfold State.exchangeTo
  cases (s.engine f).inFlight with
  | none => simp
  | some q => simp [Prod.ext_iff]

theorem State.editBusy_iff (s : State) (i : Slot) (c : Settings) (ps : List (Kw × EditValue)) :
    s.editBusy i c ps = true ↔
      (given ps .CAP ≠ none ∧ ∃ b ∈ s.store.books, (∃ k, b.state = .settling k) ∧ b.entries[i] ≠ .excluded) ∨
        ((given ps .FEEDER ≠ none ∨ given ps .ADDR ≠ none) ∧
          ∃ p x, (s.engine c.feeder).inFlight = some (p, x) ∧ x.addr = c.addr) := by
  rw [State.editBusy, Bool.or_eq_true, Bool.and_eq_true, Bool.and_eq_true, bindingPair_iff, s.exchangeTo_iff,
    s.settlingFor_iff, ← given_ne_none]

/-- Writing the pairs fails exactly when a number is out of its range (R25). -/
theorem State.editAll_none_iff (s : State) (c : Settings) {args : List Tok} {ps : List (Kw × EditValue)}
    (read : pairs readEdit args = some ps) :
    s.editAll c ps = none ↔
      (∃ n, given ps .CAP = some (.num n) ∧ ¬(1 ≤ n ∧ n ≤ s.capCeiling)) ∨
        (∃ n, given ps .FLOOR = some (.num n) ∧ ¬(s.lowestFloor ≤ n ∧ n ≤ 0)) ∨
        ∃ n, given ps .ADDR = some (.num n) ∧ ¬(1 ≤ n ∧ n ≤ 247) := by
  have ok := editPair_of_pairs read
  have distinct := ((pairs_iff _ _ _).mp read).2.1
  rw [State.editAll, foldlM_none_iff (ok := EditPair) s.editOne_none_iff ok]
  simp only [given_some_iff distinct]
  constructor
  · rintro ⟨p, member, bad⟩
    cases ok p member with
    | cap n => exact .inl ⟨n, member, bad⟩
    | floor n => exact .inr (.inl ⟨n, member, bad⟩)
    | addr n => exact .inr (.inr ⟨n, member, bad⟩)
    | _ => exact bad.elim
  · rintro (⟨n, member, bad⟩ | ⟨n, member, bad⟩ | ⟨n, member, bad⟩) <;> exact ⟨_, member, bad⟩

/-- The settings that the pairs of HHEDIT make, as the request names them (R25). -/
theorem State.Edited.fields {s : State} {ps : List (Kw × EditValue)} {c d : Settings} (h : s.Edited ps c d) :
    ((∃ n, given ps .CAP = some (.num n) ∧ (d.cap : Int) = n) ∨ given ps .CAP = none ∧ d.cap = c.cap) ∧
      ((∃ n, given ps .FLOOR = some (.num n) ∧ d.floor = n) ∨ given ps .FLOOR = none ∧ d.floor = c.floor) ∧
      ((∃ n, given ps .ADDR = some (.num n) ∧ (d.addr : Int) = n) ∨ given ps .ADDR = none ∧ d.addr = c.addr) ∧
      ((∃ p, given ps .POLICY = some (.policy p) ∧ d.policy = p) ∨ given ps .POLICY = none ∧ d.policy = c.policy) ∧
      ((∃ b, given ps .SHOW = some (.shown b) ∧ d.shown = b) ∨ given ps .SHOW = none ∧ d.shown = c.shown) ∧
      ((∃ f, given ps .FEEDER = some (.feeder f) ∧ d.feeder = f) ∨ given ps .FEEDER = none ∧ d.feeder = c.feeder) := by
  refine ⟨h.cap.imp_left ?_, h.floor.imp_left ?_, h.addr.imp_left ?_, h.policy, h.shown, h.feeder⟩
  · exact fun ⟨n, named, inRange⟩ => ⟨n, named, (natIn_some inRange).1⟩
  · exact fun ⟨n, named, _, same⟩ => ⟨n, named, same⟩
  · exact fun ⟨n, named, inRange⟩ => ⟨n, named, (natIn_some inRange).1⟩

theorem Settings.moved_iff (c d : Settings) : c.moved d = true ↔ ¬(d.feeder = c.feeder ∧ d.addr = c.addr) := by
  simp only [Settings.moved, Bool.or_eq_true, decide_eq_true_eq, not_and_or, ne_comm]

/-- The settings written (R26): the binding unchanged, or changed with what that brings. -/
theorem State.writeSettings_eq (s : State) (i : Slot) (c d : Settings) :
    s.writeSettings i c d =
      if d.feeder = c.feeder ∧ d.addr = c.addr then s.withHousehold i { s.household i with settings := some d }
      else
        (s.withHousehold i { s.household i with settings := some d, confirmed := none }).withEngine c.feeder
          { s.engine c.feeder with queue := (s.engine c.feeder).queue.filter fun e => e.slot ≠ i } := by
  have kept (h : Household) (f : Feeder) : (s.withHousehold i h).engine f = s.engine f := by cases f <;> rfl
  unfold State.writeSettings
  by_cases same : d.feeder = c.feeder ∧ d.addr = c.addr
  · rw [if_pos same]
    exact if_neg (fun moved => (c.moved_iff d).mp moved same)
  · rw [if_neg same, if_pos ((c.moved_iff d).mpr same), State.unqueue, kept]

/-- The policy write of HOLD_CLOSED on a record that has settings (R161). -/
theorem State.holdClosed_eq {s : State} {i : Slot} {c : Settings} (held : (s.household i).settings = some c) :
    s.holdClosed i =
      if (s.household i).wanted = .opened then
        (s.withHousehold i { s.household i with wanted := .closed }).offer c.feeder i .closed
      else s := by
  change _ = if (s.household i).wanted = .opened then s.want i c .closed else s
  simp only [State.holdClosed, held]

/-- Settles O16. -/
theorem hheditWritesThePairsGiven : Obligations.HheditWritesThePairsGiven := by
  refine ⟨fun α read args ps => ?_, readEdit_iff, ?_⟩
  · rw [pairs_iff, readPairs_iff]
    rfl
  · rintro s i rest ps args rfl read serves commissioned good
    have served : serveRequest .HHEDIT (.num (slotNumber i) :: rest) s =
        (s.household i).settings.elim (refuse .STATE) fun c =>
          if s.editBusy i c ps then refuse .BUSY
          else (s.editAll c ps).elim (refuse .RANGE) fun d =>
            if bindingPair ps && s.addressTaken d.feeder d.addr i then refuse .RANGE
            else .done ((s.writeSettings i c d).afterEdit i ps) (okLine []) := by
      simp only [serveRequest, serveHhedit, read, State.onSlot_of commissioned good]
      cases (s.household i).settings with
      | none => rfl
      | some c =>
        dsimp only [Option.elim]
        cases s.editAll c ps <;> rfl
    have unset (none : (s.household i).settings = none) : serveRequest .HHEDIT (.num (slotNumber i) :: rest) s =
        refuse .STATE := by
      rw [served, none]
      rfl
    refine ⟨fun none => exec_refuses serves (unset none), fun sound vacant =>
      exec_refuses serves (unset ((sound.1 i).1.mp vacant)), fun c held => ?_⟩
    rw [held, Option.elim_some] at served
    refine ⟨s.editBusy_iff i c ps, s.editAll_none_iff c read, fun busy => exec_refuses serves (served.trans (if_pos busy)),
      fun idle out => ?_, fun d idle written => ?_⟩
    all_goals replace served := served.trans (if_neg (by simp [idle]))
    · exact exec_refuses serves (by rw [served, out]; rfl)
    · rw [written, Option.elim_some] at served
      have edited := editAll_edited read written
      refine ⟨edited.fields, fun binds taken => ?_, fun free => ?_⟩
      · refine exec_refuses serves (served.trans (if_pos ?_))
        rw [Bool.and_eq_true]
        exact ⟨(bindingPair_iff ps).mpr binds, (s.addressTaken_iff _ _ i).mpr taken⟩
      · refine exec_does serves (served.trans ((if_neg ?_).trans ?_))
        · rw [Bool.and_eq_true, bindingPair_iff, s.addressTaken_iff]
          rintro ⟨binds, j, other, bound⟩
          simp [free binds j other] at bound
        · have record := s.writeSettings_same i c d
          have settings : ((s.writeSettings i c d).household i).settings = some d := by rw [record]
          have wanted : ((s.writeSettings i c d).household i).wanted = (s.household i).wanted := by rw [record]
          rw [State.afterEdit, State.holdClosed_eq settings, wanted, s.writeSettings_eq]
          simp only [Bool.or_eq_true, ← given_ne_none, ite_and, ← not_and_or, and_comm, ite_not]
          rfl

/-! ## Vacating (R20, R32, R63, R129, R130) -/

section
variable (s : State) (i : Slot)

/-- What vacating does to an engine: the slot's queue entry leaves, and its exchange in flight loses its household. -/
theorem State.vacate_engine (f : Feeder) :
    (s.vacate i).engine f =
      { s.engine f with
        queue := (s.engine f).queue.filter fun e : QueueEntry => e.slot ≠ i
        pass := (s.engine f).pass.map fun p => p.mapExchange fun x => x.orphan i } := by
  have subs : ((s.withHousehold i (s.household i).vacated).removeSubsOf i).engine f = s.engine f := by
    rw [State.removeSubsOf, State.notifyTimes_eq]
    cases f <;> rfl
  have queued (t : State) : ((((t.unqueue .A i).unqueue .B i).orphanExchange .A i).orphanExchange .B i).engine f =
      { t.engine f with
        queue := (t.engine f).queue.filter fun e : QueueEntry => e.slot ≠ i
        pass := (t.engine f).pass.map fun p => p.mapExchange fun x => x.orphan i } := by
    cases f <;> rfl
  exact (queued _).trans (by rw [subs])

theorem State.vacate_notices :
    (s.vacate i).notices = (s.notifyTimes .substDropped (s.store.subs.countP fun e => e.enabled && e.slot = i)).notices := by
  have told (t : State) (k : Nat) (h : t.notices = s.notices) (run : t.power = s.power) :
      (t.notifyTimes .substDropped k).notices = (s.notifyTimes .substDropped k).notices := by
    induction k generalizing t s with
    | zero => exact h
    | succ k ih =>
      refine ih (s.notify .substDropped) (t.notify .substDropped) ?_ run
      simp only [State.notify, State.withNotices, State.driveAttn, State.running, h, run]
      rfl
  have queued (t : State) :
      ((((t.unqueue .A i).unqueue .B i).orphanExchange .A i).orphanExchange .B i).notices = t.notices := rfl
  exact (queued _).trans (told _ _ rfl rfl)

theorem State.vacate_store : (s.vacate i).store = { s.store with subs := s.store.subs.filter fun e => e.slot ≠ i } := by
  have queued (t : State) :
      ((((t.unqueue .A i).unqueue .B i).orphanExchange .A i).orphanExchange .B i).store = t.store := rfl
  refine (queued _).trans ?_
  rw [State.removeSubsOf, State.notifyTimes_eq]
  rfl

theorem State.vacate_eq :
    s.vacate i = { s with
      table := (s.vacate i).table, store := (s.vacate i).store, feederA := (s.vacate i).feederA
      feederB := (s.vacate i).feederB, notices := (s.vacate i).notices } := by
  unfold State.vacate State.removeSubsOf
  dsimp only
  rw [State.notifyTimes_eq]
  rfl

end

theorem Engine.inFlight_iff (e : Engine) (p : Pass) (x : Exchange) :
    e.inFlight = some (p, x) ↔ e.pass = some p ∧ (p.phase = .supply x ∨ p.phase = .snapshot x) := by
  unfold Engine.inFlight
  cases e.pass with
  | none => simp
  | some q =>
    have found : q.exchange = some x ↔ q.phase = .supply x ∨ q.phase = .snapshot x := by
      unfold Pass.exchange
      cases q.phase <;> simp
    simp only [Option.map_eq_some_iff, Prod.mk.injEq, Option.some.injEq]
    constructor
    · rintro ⟨y, held, rfl, rfl⟩
      exact ⟨rfl, found.mp held⟩
    · rintro ⟨rfl, held⟩
      exact ⟨x, found.mpr held, rfl, rfl⟩

theorem Engine.inFlight_none (e : Engine) : e.inFlight = none ↔ ∀ p, e.pass = some p → p.phase = .mark ∨ p.phase = .guard := by
  unfold Engine.inFlight
  cases e.pass with
  | none => simp
  | some q =>
    simp only [Option.map_eq_none_iff, Option.some.injEq, forall_eq']
    unfold Pass.exchange
    cases q.phase <;> simp

/-- The exchange of a pass changed: the pass with its changed exchange. -/
theorem Pass.mapExchange_some {p : Pass} {x : Exchange} (h : p.phase = .supply x ∨ p.phase = .snapshot x)
    (change : Exchange → Exchange) : p.mapExchange change = p.withExchange (change x) := by
  rcases h with h | h <;> simp [Pass.withExchange, Pass.mapExchange, h]

theorem Pass.mapExchange_none {p : Pass} (h : p.phase = .mark ∨ p.phase = .guard) (change : Exchange → Exchange) :
    p.mapExchange change = p := by
  rcases h with h | h <;> simp [Pass.mapExchange, h]

theorem Exchange.orphan_eq (x : Exchange) (i : Slot) : x.orphan i = { x with vacated := x.vacated || decide (x.slot = i) } := by
  by_cases same : x.slot = i <;> simp [Exchange.orphan, same]

/-- Settles O18. -/
theorem hhwithdrawVacatesOrLeaves : Obligations.HhwithdrawVacatesOrLeaves := by
  refine ⟨?_, fun s i => ⟨?_, fun j other => ?_, fun f => ?_, s.vacate_store i, fun bound => ?_, ?_, fun n other => ?_,
    fun f => ⟨?_, fun idle => ?_, fun p x flies => ?_⟩, s.vacate_eq i⟩⟩
  · rintro s i args rfl serves commissioned good
    have served : serveRequest .HHWITHDRAW [.num (slotNumber i)] s =
        if (s.household i).member = .vacant ∨ (s.household i).member = .leaving then refuse .STATE
        else if s.clearOfBooks i && (s.household i).balance = 0 then
          s.memberRecord i .withdraw .vacant fun t => t.vacate i
        else s.memberRecord i .withdraw .leaving fun t => t.setMember i .leaving := by
      simp only [serveRequest, serveHhwithdraw, State.onlySlot, State.onSlot_of commissioned good]
    have clear_iff : (s.clearOfBooks i && decide ((s.household i).balance = 0)) = true ↔
        (∀ b ∈ s.store.books, b.entries[i] = .excluded) ∧ (s.household i).balance = 0 := by
      simp [State.clearOfBooks, s.heldFor_false]
    refine ⟨fun gone => exec_refuses serves (served.trans (if_pos gone)), fun used stays room => ?_,
      fun used stays room => ⟨fun clear => ?_, fun held => ?_⟩⟩
    all_goals replace served := served.trans (if_neg (by simp [used, stays]))
    · refine exec_refuses serves (served.trans ?_)
      split <;> exact State.memberRecord_full room ..
    · exact exec_does serves (served.trans ((if_pos (clear_iff.mpr clear)).trans (State.memberRecord_done room ..)))
    · exact exec_does serves
        (served.trans ((if_neg (mt clear_iff.mp held)).trans (State.memberRecord_done room ..)))
  · rw [s.vacate_household, if_pos rfl]
    rfl
  · rw [s.vacate_household, if_neg other]
  · rw [s.vacate_engine]
    simp [inQueue]
  · rw [s.vacate_notices]
    exact s.notifyTimes_count _ _ bound
  · rw [s.vacate_notices, s.notifyTimes_flag, List.countP_pos_iff]
    simp
  · rw [s.vacate_notices]
    exact s.notifyTimes_others _ other
  · rw [s.vacate_engine]
  · rw [s.vacate_engine]
    cases pass : (s.engine f).pass with
    | none => simp
    | some p => simp [Pass.mapExchange_none ((Engine.inFlight_none _).mp idle p pass)]
  · obtain ⟨pass, phase⟩ := (Engine.inFlight_iff _ _ _).mp flies
    rw [s.vacate_engine]
    simp [pass, Pass.mapExchange_some phase, Exchange.orphan_eq]

/-! ## Accounts (R36, R38 to R40) -/

theorem topupAmount_iff (n : Int) : topupAmount n = true ↔ 1 ≤ n ∧ n ≤ 1000000000000 := by
  rw [topupAmount, Bool.and_eq_true, decide_eq_true_eq, decide_eq_true_eq]
  rfl

theorem signedAmount_iff (n : Int) :
    signedAmount n = true ↔ n ≠ 0 ∧ -1000000000000 ≤ n ∧ n ≤ 1000000000000 := by
  have limit : Config.amountLimit.toNat = 1000000000000 := rfl
  simp only [signedAmount, limit, Bool.and_eq_true, decide_eq_true_eq]
  omega

theorem State.accountVacates_iff (s : State) (i : Slot) (after : Int) :
    s.accountVacates i after = true ↔
      (s.household i).member = .leaving ∧ (∀ b ∈ s.store.books, b.entries[i] = .excluded) ∧ after = 0 := by
  simp [State.accountVacates, State.clearOfBooks, s.heldFor_false, and_assoc]

/-- Settles O19. -/
theorem topupAndAdjustMoveOneBalance : Obligations.TopupAndAdjustMoveOneBalance := by
  rintro s i amount r cause args rfl which serves commissioned good
  obtain ⟨amountOk, amountOk_iff, served⟩ : ∃ ok : Int → Bool,
      (ok amount = true ↔ (r = .TOPUP → 1 ≤ amount) ∧ amount ≠ 0 ∧ -1000000000000 ≤ amount ∧ amount ≤ 1000000000000) ∧
      serveRequest r [.num (slotNumber i), .num amount] s =
        if !(s.household i).present then refuse .STATE
        else if !ok amount || !withinLimit ((s.household i).balance + amount) then refuse .RANGE
        else s.account i cause amount := by
    rcases which with ⟨rfl, rfl⟩ | ⟨rfl, rfl⟩
    · refine ⟨topupAmount, ?_, ?_⟩
      · rw [topupAmount_iff]
        simp only [forall_const]
        omega
      · simp only [serveRequest, serveTopup, State.accountRequest, State.onSlot_of commissioned good]
    · refine ⟨signedAmount, ?_, ?_⟩
      · rw [signedAmount_iff]
        simp
      · simp only [serveRequest, serveAdjust, State.accountRequest, State.onSlot_of commissioned good]
  refine ⟨fun vacant => exec_refuses serves (by simp [served, Household.present, vacant]), fun used => ?_⟩
  rw [if_neg (by simp [Household.present, used])] at served
  refine ⟨fun out => exec_refuses serves (served.trans (if_pos ?_)), fun ⟨amountFits, limitFits⟩ => ?_⟩
  · rw [Bool.or_eq_true, Bool.not_eq_true', Bool.not_eq_true', ← Bool.not_eq_true, ← Bool.not_eq_true, amountOk_iff,
      withinLimit_iff]
    exact not_and_or.mp out
  · rw [if_neg (by simp [amountOk_iff.mpr amountFits, (withinLimit_iff _).mpr limitFits]), State.account] at served
    refine ⟨fun vacates room => ?_, fun stays room => ?_, fun vacates room => ?_, fun stays room => ?_⟩
    · exact exec_refuses serves (by simp [served, (s.accountVacates_iff _ _).mpr vacates, room])
    · exact exec_refuses serves (by simp [served, Bool.eq_false_iff.mpr (mt (s.accountVacates_iff _ _).mp stays), room])
    · refine exec_does serves ?_
      simp only [served, (s.accountVacates_iff _ _).mpr vacates, room]
      rfl
    · refine exec_does serves ?_
      simp only [served, Bool.eq_false_iff.mpr (mt (s.accountVacates_iff _ _).mp stays), room]
      rfl

/-- The line that HHREAD reports of a used record with settings (R27). -/
theorem State.householdLine_used (s : State) (i : Slot) (c : Settings) (used : (s.household i).member ≠ .vacant)
    (held : (s.household i).settings = some c) :
    s.householdLine i =
      [.num (slotNumber i), .kw (s.household i).member.kw, .kw (feederKw c.feeder), .num c.addr, .num c.cap,
        .num c.floor, .kw c.policy.kw, .kw (if c.shown then .YES else .NO)] ++
      ((s.household i).bases.elim [Field.dash, Field.dash]
        fun b => [Field.num b.imp.toNat, Field.num b.exp.toNat]) ++
      [Field.num (s.household i).balance, .num (s.household i).misses, .kw (s.household i).wanted.kw,
        .kw (confirmedKw (s.household i).confirmed)] := by
  unfold State.householdLine
  dsimp only
  rw [if_neg used, held]
  cases (s.household i).bases <;> rfl

/-- Settles O20. -/
theorem fundAndHouseholdReads : Obligations.FundAndHouseholdReads := by
  have reads (s : State) (i : Slot) (serves : s.serves .HHREAD [.num (slotNumber i)])
      (commissioned : s.service ≠ .uncommissioned) :
      exec (.hhread [.num (slotNumber i)]) s =
        .next (s.answering .HHREAD [.num (slotNumber i)] [.kw .OK :: s.householdLine i]) := by
    refine exec_does serves ?_
    simp only [serveRequest, serveHhread, State.ifCommissioned_of commissioned, slotOf_slotNumber]
    rfl
  refine ⟨?_, fun s serves commissioned => ?_, fun s i c serves commissioned => ⟨fun vacant => ?_, fun used held => ?_⟩,
    fun s serves commissioned => ?_, reads⟩
  · rintro s amount args rfl serves commissioned good
    have served : serveRequest .FUND [.num amount] s =
        if !signedAmount amount || !withinLimit (s.fund + amount) then refuse .RANGE
        else if s.journal.hasRoom 1 1 then
          .done (s.addFund amount) (okLine [.num (s.fund + amount), .nat s.journal.nextNumber])
        else refuse .ROOM := by
      simp only [serveRequest, serveFund, State.ifWritable_of commissioned good]
    have ok_iff : (!signedAmount amount || !withinLimit (s.fund + amount)) = true ↔
        ¬(amount ≠ 0 ∧ -1000000000000 ≤ amount ∧ amount ≤ 1000000000000 ∧ -140737488355327 ≤ s.fund + amount ∧
          s.fund + amount ≤ 140737488355327) := by
      rw [Bool.or_eq_true, Bool.not_eq_true', Bool.not_eq_true', ← Bool.not_eq_true, ← Bool.not_eq_true,
        signedAmount_iff, withinLimit_iff]
      omega
    refine ⟨fun out => exec_refuses serves (served.trans (if_pos (ok_iff.mpr out))), fun fits room => ?_,
      fun fits room => ?_⟩
    all_goals rw [if_neg (mt ok_iff.mp (not_not.mpr fits))] at served
    · exact exec_refuses serves (by simp [served, room])
    · exact exec_does serves (by simp [served, room]; exact ⟨rfl, rfl⟩)
  · refine exec_does serves ?_
    simp only [serveRequest, serveFundread, State.ifCommissioned_of commissioned]
    rfl
  · have line : s.householdLine i = [.nat (slotNumber i), .kw .VACANT] := if_pos vacant
    rw [reads s i serves commissioned, line]
    rfl
  · rw [reads s i serves commissioned, s.householdLine_used i c used held]
    cases (s.household i).bases <;> rfl
  · refine exec_does serves ?_
    simp only [serveRequest, serveHhread, State.ifCommissioned_of commissioned]
    rfl

end Sys2Proof.Machine
end

section
/-! The settlement engine's rules (chapter 4): how a slot's energy is derived, and how a book is taken. -/

namespace Sys2Proof.Machine

/-! ## Deriving (R72 to R78) -/

section
variable {span tolerance : Nat} {x : SlotInput}

theorem derive_fault (h : x.member = .fault) : derive span tolerance x = none := by simp [derive, h]

theorem derive_untold (h : x.entry = .excluded ∨ x.entry = .pending) : derive span tolerance x = none := by
  rcases h with h | h <;> simp [derive, h]

/-- Without baselines nothing but a received entry settles (R77, R78). -/
theorem derive_unbased (bases : x.bases = none)
    (h : x.entry = .notHeld ∨ x.entry = .missing ∨ ∃ i e, x.entry = .substituted i e) : derive span tolerance x = none := by
  rcases h with h | h | ⟨i, e, h⟩ <;> simp [derive, bases, h]

theorem derive_baseline (member : x.member ≠ .fault) {snap : Snapshot} (entry : x.entry = .received snap)
    (bases : x.bases = none) : derive span tolerance x = some (baselineRule snap) := by
  simp [derive, member, entry, bases]

theorem derive_catchUp (member : x.member ≠ .fault) {snap : Snapshot} (entry : x.entry = .received snap) {b : Bases}
    (bases : x.bases = some b) :
    derive span tolerance x = some (catchUpRule (effectiveCap x.cap span) tolerance b snap) := by
  simp [derive, member, entry, bases]

theorem derive_substituted (member : x.member ≠ .fault) {i e : Nat} (entry : x.entry = .substituted i e) {b : Bases}
    (bases : x.bases = some b) : derive span tolerance x = some (substitutionRule b i e) := by
  simp [derive, member, entry, bases]

theorem derive_missed (member : x.member ≠ .fault) (bases : x.bases ≠ none) :
    (x.entry = .missing → derive span tolerance x = some (missRule .missing)) ∧
      (x.entry = .notHeld → derive span tolerance x = some (missRule .notHeld)) := by
  obtain ⟨b, bases⟩ := Option.ne_none_iff_exists'.mp bases
  exact ⟨fun entry => by simp [derive, member, entry, bases], fun entry => by simp [derive, member, entry, bases]⟩

end

section
variable (capE tolerance : Nat) (b : Bases) (snap : Snapshot)

/-- A regression in either direction voids both (R76). -/
theorem catchUpRule_regression
    (h : judge capE tolerance b.imp snap.imp = .regression ∨ judge capE tolerance b.exp snap.exp = .regression) :
    catchUpRule capE tolerance b snap = { imp := 0, exp := 0, flags := [.regression], bases := none, misses := .zero } :=
  if_pos h

end

/-- The difference of two register values, modulo 2 to the 32nd (R75). -/
theorem word32_sub (base cum : Word32) : (cum - base).toNat = (cum.toNat + 4294967296 - base.toNat) % 4294967296 := by
  rw [BitVec.toNat_sub]
  have := base.isLt
  congr 1
  omega

/-- How a direction is judged, by the difference of its register from its baseline (R75, R76). -/
theorem judge_cases (capE tolerance : Nat) (base cum : Word32) (cap : capE ≤ 65535) :
    let d := (cum.toNat + 4294967296 - base.toNat) % 4294967296
    (d ≤ capE → judge capE tolerance base cum = .forward d cum) ∧
      (capE < d → d < 2147483648 → judge capE tolerance base cum = .capped capE (base + BitVec.ofNat 32 capE)) ∧
      (2147483648 ≤ d → 4294967296 - d ≤ tolerance → judge capE tolerance base cum = .ahead) ∧
      (2147483648 ≤ d → tolerance < 4294967296 - d → judge capE tolerance base cum = .regression) := by
  simp only [judge, word32_sub]
  refine ⟨fun within => ?_, fun above half => ?_, fun half near => ?_, fun half far => ?_⟩
  · rw [if_pos (by omega), if_pos within]
  · rw [if_pos half, if_neg (by omega)]
  · rw [if_neg (by omega), if_pos near]
  · rw [if_neg (by omega), if_neg (by omega)]

/-- Settles O29. -/
theorem derivationFollowsTheRules : Obligations.DerivationFollowsTheRules := by
  refine ⟨fun span tolerance x => ⟨?_, derive_unbased, fun member => ⟨fun snap entry bases => ?_,
    fun snap b entry bases => ?_, fun i e b entry bases => ?_, derive_missed member⟩⟩,
    fun capE tolerance base cum cap _ => judge_cases capE tolerance base cum cap⟩
  · rintro (fault | untold)
    · exact derive_fault fault
    · exact derive_untold untold
  · exact derive_baseline member entry bases
  · have rule := derive_catchUp (span := span) (tolerance := tolerance) member entry bases
    refine ⟨fun regression => rule.trans (congrArg some (catchUpRule_regression _ _ _ _ regression)), fun first second => ?_⟩
    exact rule.trans (congrArg some (if_neg (not_or.mpr ⟨first, second⟩)))
  · exact derive_substituted member entry bases

/-! ## Taking a book (R61, R68, R69) -/

/-- A change of the members with a property leaves a list in which none has it. -/
theorem map_unaffected {α : Type} {p : α → Prop} [DecidablePred p] {l : List α} (f : α → α) (h : ∀ k ∈ l, ¬p k) :
    (l.map fun k => if p k then f k else k) = l :=
  (List.map_congr_left (g := id) fun k hk => if_neg (h k hk)).trans (List.map_id l)

theorem exec_settlingStart {s : State} (running : s.power.phase = .running) :
    exec .settlingStart s = .next s.startSettling := by
  rw [exec_running rfl running, s.atGrant_startSettling]

/-- The computation that starts with a book and its entries (R69). -/
def State.computationOf (s : State) (b : Book) (entries : Vector Entry 96) : Computation :=
  { boundary := b.boundary, span := b.span, prices := b.prices, flags := b.flags, tolerance := s.tolerance
    slots := tabulate 96 fun i => s.slotInput entries i }

/-- Taking the oldest book, whose boundary no other held book has. -/
theorem State.takeBook_eq {s : State} {b : Book} {rest : List Book} {c : Cause} (books : s.store.books = b :: rest)
    (others : ∀ k ∈ rest, k.boundary ≠ b.boundary) :
    s.takeBook b c =
      { s with
        store := { s.store with books := { b with state := .settling c, entries := s.fire b } :: rest }
        settlement := { s.settlement with computation := some (s.computationOf b (s.fire b)) } } := by
  have taken : (s.store.books.map fun k : Book =>
      if k.boundary = b.boundary then { k with state := .settling c, entries := s.fire b } else k) =
        { b with state := .settling c, entries := s.fire b } :: rest := by
    rw [books, List.map_cons, if_pos rfl]
    exact congrArg _ (map_unaffected _ others)
  rw [← taken]
  rfl

theorem State.startable_ne_none (s : State) :
    s.startable ≠ none ↔
      s.settlement = { computation := none, deferral := .none } ∧ s.service = .service ∧ s.supply.warning = false ∧
        ∃ b rest c, s.store.books = b :: rest ∧ b.state = .due c := by
  have idle : s.settlement = { computation := none, deferral := .none } ↔
      s.settlement.computation = none ∧ s.settlement.deferral = .none := by
    rw [Settlement.mk.injEq]
  rw [Option.ne_none_iff_exists', idle]
  constructor
  · rintro ⟨⟨b, c⟩, startable⟩
    obtain ⟨computation, deferral, service, good, rest, books, due⟩ := (s.startable_iff b c).mp startable
    exact ⟨⟨computation, deferral⟩, service, good, b, rest, c, books, due⟩
  · rintro ⟨⟨computation, deferral⟩, service, good, b, rest, c, books, due⟩
    exact ⟨(b, c), (s.startable_iff b c).mpr ⟨computation, deferral, service, good, rest, books, due⟩⟩

/-- Settles O28. -/
theorem settlingStartTakesTheOldestDueBook : Obligations.SettlingStartTakesTheOldestDueBook := by
  intro s running
  refine ⟨fun none => ?_, s.startable_ne_none, fun b rest c idle service good books due others => ?_⟩
  · rw [exec_settlingStart running, State.startSettling, none]
  · have startable : s.startable = some (b, c) := (s.startable_iff b c).mpr
      ⟨by rw [idle], by rw [idle], service, good, rest, books, due⟩
    refine ⟨s.fire b, s.computationOf b (s.fire b), fun i => ?_, rfl, rfl, rfl, rfl, rfl, fun i => ?_, ?_⟩
    · rw [s.fire_entry, State.firing]
      by_cases excluded : b.entries[i] = .excluded
      · simp [excluded, Book.concerns]
      · rw [if_pos ((b.concerns_iff i).mpr excluded), if_neg excluded]
        cases s.store.subs.find? fun e => e.enabled && e.boundary = b.boundary && e.slot = i <;> rfl
    · have input : (s.computationOf b (s.fire b)).slots[i] = s.slotInput (s.fire b) i := tabulate_at 96 _ i
      rw [input]
      exact ⟨rfl, rfl, rfl, fun g held => by simp [State.slotInput, held]⟩
    · rw [exec_settlingStart running, State.startSettling, startable]
      refine congrArg _ ((State.takeBook_eq books others).trans ?_)
      rw [idle]

end Sys2Proof.Machine
end

section
/-! A posting whole (R33, R34, R62, R63, R79, R89 to R92): the notices it sets, and what it leaves in the substitution table,
the queues and the records. -/

namespace Sys2Proof.Machine

/-! ## How often a notice has been set -/

/-- A notice is set k times between two states (R188). -/
structure Raised (s t : State) (n : Notice) (k : Nat) : Prop where
  flag : (t.notices.cell n).flag = true ↔ (s.notices.cell n).flag = true ∨ 0 < k
  count : (s.notices.cell n).count ≤ 255 → (t.notices.cell n).count = ((s.notices.cell n).count + k) % 256

namespace Raised
variable {s t u : State} {n : Notice} {k l : Nat}

theorem of_cell (h : t.notices.cell n = s.notices.cell n) : Raised s t n 0 where
  flag := by simp [h]
  count bound := by rw [h]; omega

theorem trans (h : Raised s t n k) (h' : Raised t u n l) : Raised s u n (k + l) where
  flag := by rw [h'.flag, h.flag, or_assoc, Nat.add_pos_iff_pos_or_pos]
  count bound := by
    have first := h.count bound
    have second := h'.count (by omega)
    omega

theorem quiet (h : Raised s t n k) (same : u.notices.cell n = t.notices.cell n) : Raised s u n k := h.trans (of_cell same)

theorem of_notices {s' : State} (h : Raised s t n k) (same : s'.notices = s.notices) : Raised s' t n k where
  flag := by rw [same]; exact h.flag
  count := by rw [same]; exact h.count

theorem notifyTimes (s : State) (n : Notice) (k : Nat) : Raised s (s.notifyTimes n k) n k where
  flag := s.notifyTimes_flag n k
  count := s.notifyTimes_count n k

theorem notify (s : State) (n m : Notice) : Raised s (s.notify m) n (if m = n then 1 else 0) := by
  split
  next same => subst same; exact notifyTimes s m 1
  next other => exact of_cell (by rw [State.notify_cell, if_neg other])

end Raised

/-! ## The notices of the slots' results (R33, R34) -/

/-- A slot's result sets a notice. -/
def State.tells (s : State) (n : Notice) (r : SlotResult) : Bool :=
  match n with
  | .householdFault => r.derived.any fun d => .regression ∈ d.flags
  | .meterSilent => r.derived.any fun d => silent (s.household r.slot).misses d.misses
  | _ => false

theorem State.tells_other {s : State} {n : Notice} (fault : n ≠ .householdFault) (meter : n ≠ .meterSilent) (r : SlotResult) :
    s.tells n r = false := by
  cases n <;> simp [State.tells] at *

theorem State.settleSlot_raised (s : State) (r : SlotResult) (n : Notice) :
    Raised s (s.settleSlot r) n (if s.tells n r then 1 else 0) := by
  have faulted (t : State) :
      Raised t (if .regression ∈ r.flags then t.notify .householdFault else t) n
        (if n = .householdFault ∧ .regression ∈ r.flags then 1 else 0) := by
    by_cases regression : LineFlag.regression ∈ r.flags
    · simpa [regression, eq_comm] using Raised.notify t n .householdFault
    · simpa [regression] using Raised.of_cell rfl
  have silenced (t : State) (d : Derived) :
      Raised t (if silent (s.household r.slot).misses d.misses then t.notify .meterSilent else t) n
        (if n = .meterSilent ∧ silent (s.household r.slot).misses d.misses = true then 1 else 0) := by
    cases silences : silent (s.household r.slot).misses d.misses
    · simpa using Raised.of_cell rfl
    · simpa [eq_comm] using Raised.notify t n .meterSilent
  have first := faulted (s.withHousehold r.slot ((s.household r.slot).settle r))
  unfold State.settleSlot
  dsimp only
  cases derived : r.derived with
  | none =>
    have told : s.tells n r = false := by cases n <;> simp [State.tells, derived]
    have unflagged : ¬(n = .householdFault ∧ .regression ∈ r.flags) := by simp [SlotResult.flags, derived]
    rw [if_neg unflagged] at first
    rw [told]
    exact ⟨first.flag, first.count⟩
  | some d =>
    have both := first.trans (silenced _ d)
    have told : (if s.tells n r then 1 else 0) = (if n = .householdFault ∧ .regression ∈ r.flags then 1 else 0) +
        if n = .meterSilent ∧ silent (s.household r.slot).misses d.misses = true then 1 else 0 := by
      cases n <;> simp [State.tells, SlotResult.flags, derived]
    rw [told]
    exact ⟨both.flag, both.count⟩

theorem State.settleSlots_raised (s : State) (c : Computation) (n : Notice) (is : List Slot) (distinct : is.Nodup) :
    Raised s ((is.map c.resultAt).foldl State.settleSlot s) n ((is.map c.resultAt).countP (s.tells n)) := by
  induction is generalizing s with
  | nil => exact .of_cell rfl
  | cons i is ih =>
    obtain ⟨new, distinct⟩ := List.nodup_cons.mp distinct
    have later : ∀ r ∈ is.map c.resultAt, (s.settleSlot (c.resultAt i)).tells n r = s.tells n r := by
      intro r hr
      obtain ⟨j, member, rfl⟩ := List.mem_map.mp hr
      have other : j ≠ i := fun same => new (same ▸ member)
      unfold State.tells
      rw [State.settleSlot_household, c.resultAt_slot, c.resultAt_slot, if_neg other]
    rw [List.map_cons, List.foldl_cons, List.countP_cons, Nat.add_comm]
    have counted : (is.map c.resultAt).countP ((s.settleSlot (c.resultAt i)).tells n) = (is.map c.resultAt).countP (s.tells n) :=
      List.countP_congr fun r hr => by rw [later r hr]
    exact (s.settleSlot_raised _ n).trans (counted ▸ ih _ distinct)

theorem State.postSlots_raised (s : State) (c : Computation) (n : Notice) :
    Raised s (s.postSlots c) n (c.results.countP (s.tells n)) :=
  s.settleSlots_raised c n allSlots (List.nodup_finRange 96)

/-! ## The substitution table (R62, R63) -/

/-- Members counted by one of two exclusive properties. -/
theorem countP_add_countP {α : Type} {p q r : α → Bool} (l : List α) (either : ∀ a, r a = (p a || q a))
    (exclusive : ∀ a, ¬(p a = true ∧ q a = true)) : l.countP p + l.countP q = l.countP r := by
  induction l with
  | nil => rfl
  | cons a l ih =>
    have one := exclusive a
    cases first : p a <;> cases second : q a <;> simp [List.countP_cons, either, first, second] at one ⊢ <;> omega

theorem State.vacateAll_store (s : State) (is : List Slot) :
    (is.foldl State.vacate s).store = { s.store with subs := s.store.subs.filter fun e => e.slot ∉ is } := by
  induction is generalizing s with
  | nil => simp
  | cons i is ih =>
    rw [List.foldl_cons, ih, State.vacate_store, List.filter_filter]
    simp [Bool.and_comm]

theorem State.vacateAll_queue (s : State) (is : List Slot) (f : Feeder) :
    ((is.foldl State.vacate s).engine f).queue = (s.engine f).queue.filter fun e => e.slot ∉ is := by
  induction is generalizing s with
  | nil => simp
  | cons i is ih =>
    rw [List.foldl_cons, ih, State.vacate_engine, List.filter_filter]
    simp [Bool.and_comm]

/-- Vacating slots drops their enabled substitution entries (R63). -/
theorem State.vacateAll_raised (s : State) (is : List Slot) :
    Raised s (is.foldl State.vacate s) .substDropped (s.store.subs.countP fun e => e.enabled && e.slot ∈ is) := by
  induction is generalizing s with
  | nil => simpa using Raised.of_cell rfl
  | cons i is ih =>
    have one : Raised s (s.vacate i) .substDropped (s.store.subs.countP fun e => e.enabled && e.slot = i) := by
      have told := Raised.notifyTimes s .substDropped (s.store.subs.countP fun e => e.enabled && e.slot = i)
      exact ⟨by rw [s.vacate_notices]; exact told.flag, by rw [s.vacate_notices]; exact told.count⟩
    have rest := ih (s.vacate i)
    rw [s.vacate_store, List.countP_filter] at rest
    rw [List.foldl_cons, ← countP_add_countP s.store.subs (r := fun e => e.enabled && e.slot ∈ i :: is)
      (p := fun e => e.enabled && e.slot = i) (q := fun e => (e.enabled && e.slot ∈ is) && e.slot ≠ i)]
    · exact one.trans rest
    · intro e
      by_cases same : e.slot = i <;> cases e.enabled <;> simp [same]
    · rintro e ⟨first, second⟩
      simp at first second
      exact second.2 first.2

theorem State.vacateAll_cell (s : State) (is : List Slot) {n : Notice} (h : n ≠ .substDropped) :
    (is.foldl State.vacate s).notices.cell n = s.notices.cell n := by
  induction is generalizing s with
  | nil => rfl
  | cons i is ih => rw [List.foldl_cons, ih, s.vacate_notices, State.notifyTimes_others _ _ h]

theorem State.evaluate_cell (s : State) (i : Slot) {n : Notice} (h : n ≠ .queueOverflow) :
    (s.evaluate i).notices.cell n = s.notices.cell n := by
  have offered (t : State) (f : Feeder) (i : Slot) (r : Relay) : (t.offer f i r).notices.cell n = t.notices.cell n := by
    rcases t.offer_cases f i r with ⟨-, same⟩ | ⟨-, -, same⟩ | ⟨-, -, full⟩
    · rw [same, State.withEngine_notices]
    · rw [same, State.withEngine_notices]
    · rw [full, State.notify_cell, if_neg h.symm]
  rcases s.evaluate_cases i with same | ⟨c, -, -, -, wants⟩
  · rw [same]
  · rw [wants, State.want, offered, State.withHousehold_notices]

theorem State.evaluations_cell (s : State) (is : List Slot) {n : Notice} (h : n ≠ .queueOverflow) :
    (is.foldl State.evaluate s).notices.cell n = s.notices.cell n := by
  induction is generalizing s with
  | nil => rfl
  | cons i is ih => rw [List.foldl_cons, ih, State.evaluate_cell _ _ h]

/-! ## The notices of a posting -/

section
variable (s : State) (b : Book) (c : Computation)

theorem State.postRecord_notices : (s.postRecord b c).notices = ((s.postGone b c).notify .settled).notices := by
  have recorded (t : State) (body : RecordBody) (v : Settlement) :
      (((t.record body).notify .settled).withSettlement v).notices = (t.notify .settled).notices := rfl
  exact recorded _ _ _

/-- A notice that is not of the substitution table stays as the slots' results left it, until the book has left. -/
theorem State.postGone_cell {n : Notice} (dropped : n ≠ .substDropped) :
    (s.postGone b c).notices.cell n = (s.postSlots c).notices.cell n := by
  have removed (t : State) (v : Int) (w : BookStore) :
      (((t.withFund v).withStore w).removeSubsAtPosting b).notices.cell n = t.notices.cell n :=
    State.notifyTimes_others _ _ dropped
  rw [State.postGone, State.vacateAll_cell _ _ dropped]
  exact removed _ _ _

/-- The notices that the slots' results set, and no other stage. -/
theorem State.post_raised_slots {n : Notice} (dropped : n ≠ .substDropped) (settled : n ≠ .settled)
    (overflow : n ≠ .queueOverflow) : Raised s (s.post b c) n (c.results.countP (s.tells n)) := by
  refine (s.postSlots_raised c n).quiet ?_
  rw [s.post_eq, State.evaluations_cell _ _ overflow, s.postRecord_notices, State.notify_cell, if_neg settled.symm,
    s.postGone_cell b c dropped]

theorem State.post_raised_settled : Raised s (s.post b c) .settled 1 := by
  have slots := s.postSlots_raised c .settled
  rw [List.countP_eq_zero.mpr fun r _ => by simp [State.tells]] at slots
  have gone := slots.quiet (s.postGone_cell b c (by simp))
  refine (gone.trans (Raised.notify (s.postGone b c) .settled .settled)).quiet ?_
  rw [s.post_eq, State.evaluations_cell _ _ (by simp), s.postRecord_notices]

theorem State.postBook_subs : (s.postBook b c).store.subs = s.store.subs.filter fun e => b.boundary < e.boundary := by
  rw [← (s.postSlots_frame c).subs (by simp)]
  unfold State.postBook State.removeSubsAtPosting
  dsimp only
  rw [State.notifyTimes_eq]
  rfl

theorem State.post_subs :
    (s.post b c).store.subs = s.store.subs.filter fun e => b.boundary < e.boundary && e.slot ∉ s.goneAt b c := by
  rw [s.post_eq, (State.evaluations_frame _ _).subs (by simp), (s.postRecord_frame b c).subs (by simp), State.postGone,
    State.vacateAll_store, s.postBook_subs, List.filter_filter]
  simp [Bool.and_comm]

theorem State.post_raised_dropped :
    Raised s (s.post b c) .substDropped
      (s.store.subs.countP fun e => e.enabled && (e.boundary < b.boundary ||
        (e.boundary = b.boundary && b.entries[e.slot] = .excluded) ||
          (b.boundary < e.boundary && e.slot ∈ s.goneAt b c))) := by
  have slots := s.postSlots_raised c .substDropped
  rw [List.countP_eq_zero.mpr fun r _ => by simp [State.tells]] at slots
  have kept : (s.postSlots c).store.subs = s.store.subs := (s.postSlots_frame c).subs (by simp)
  have table : Raised (s.postSlots c) (s.postBook b c) .substDropped (s.store.subs.countP fun e => e.droppedBy b) := by
    have removed (t : State) (v : Int) (w : BookStore) (subs : w.subs = s.store.subs) :
        Raised t (((t.withFund v).withStore w).removeSubsAtPosting b) .substDropped
          (s.store.subs.countP fun e => e.droppedBy b) := by
      have told := Raised.notifyTimes (((t.withFund v).withStore w).withStore
        { w with subs := w.subs.filter fun e => b.boundary < e.boundary }) .substDropped (w.subs.countP fun e => e.droppedBy b)
      rw [← subs]
      exact told.of_notices rfl
    exact removed _ _ _ kept
  have gone := State.vacateAll_raised (s.postBook b c) (s.goneAt b c)
  rw [s.postBook_subs, List.countP_filter] at gone
  have vacated := (slots.trans table).trans gone
  rw [s.post_eq, ← countP_add_countP s.store.subs (p := fun e => e.droppedBy b)
    (q := fun e => (e.enabled && e.slot ∈ s.goneAt b c) && b.boundary < e.boundary)]
  · rw [Nat.zero_add] at vacated
    refine vacated.quiet ?_
    rw [State.evaluations_cell _ _ (by simp), s.postRecord_notices, State.notify_cell, if_neg (by simp), State.postGone]
  · intro e
    rw [Bool.eq_iff_iff]
    simp only [Sub.droppedBy, Book.concerns, Bool.or_eq_true, Bool.and_eq_true, decide_eq_true_eq, Bool.not_eq_true',
      decide_eq_false_iff_not, not_not]
    tauto
  · rintro e ⟨first, second⟩
    simp [Sub.droppedBy] at first second
    omega

theorem State.post_injection : (s.post b c).injection = s.injection := (s.post_frame b c).injection (by simp)

theorem State.gone_iff (i : Slot) :
    (c.results.any fun r => s.postingVacates b r && r.slot = i) = decide (i ∈ s.goneAt b c) := by
  rw [Bool.eq_iff_iff, decide_eq_true_iff]
  simp [State.goneAt, List.mem_map, List.mem_filter, and_assoc]

theorem State.postRecord_queue (f : Feeder) :
    ((s.postRecord b c).engine f).queue = (s.engine f).queue.filter fun e => e.slot ∉ s.goneAt b c := by
  rw [(s.postRecord_frame b c).engine f (by simp), State.postGone, State.vacateAll_queue,
    (s.postBook_frame b c).engine f (by simp), (s.postSlots_frame c).engine f (by simp)]

end

/-! ## The checks (R89, R92) -/

theorem exec_postingAttempt {s : State} (running : s.power.phase = .running) :
    exec .postingAttempt s = .next s.attemptPosting := by
  rw [exec_running rfl running, s.atGrant_attemptPosting]

theorem State.attemptPosting_of {s : State} {c : Computation} {b : Book} (computed : s.settlement.computation = some c)
    (held : s.bookOf c.boundary = some b) :
    s.attemptPosting =
      if s.journal.hasRoom 1 (s.listed b c.results).length = false then s.failPosting b .journalFull .journalFull
      else if s.withinLimits (s.listed b c.results) (fundChange c.results) = false then
        s.failPosting b .balanceLimit .balanceLimit
      else s.post b c := by
  unfold State.attemptPosting
  rw [computed]
  dsimp only
  rw [held]
  simp

theorem State.withinLimits_false (s : State) (ls : List SlotResult) (change : Int) :
    s.withinLimits ls change = false ↔
      (∃ r ∈ ls, withinLimit ((s.household r.slot).balance + r.credit - r.debit) = false) ∨
        withinLimit (s.fund + change) = false := by
  simp [State.withinLimits, State.balanceAfter, imp_iff_not_or]

theorem State.postingVacates_iff (s : State) (b : Book) (r : SlotResult) :
    s.postingVacates b r = true ↔
      (s.household r.slot).member = .leaving ∧ b.entries[r.slot] ≠ .excluded ∧
        (∀ k ∈ s.store.books, k.boundary ≠ b.boundary → k.entries[r.slot] = .excluded) ∧
        (s.household r.slot).balance + r.credit - r.debit = 0 := by
  simp only [State.postingVacates, Bool.and_eq_true, decide_eq_true_eq]
  simp [State.heldElsewhere, Book.concerns, State.balanceAfter, and_assoc]

theorem State.listed_eq (s : State) (b : Book) (rs : List SlotResult) :
    s.listed b rs = rs.filter fun r : SlotResult =>
      s.postingVacates b r || r.derived.any fun d => d.imp ≠ 0 || d.exp ≠ 0 || d.flags ≠ [] := by
  refine List.filter_congr fun r _ => ?_
  rw [Bool.or_comm, SlotResult.hasLine]
  cases r.derived <;> rfl

theorem State.headerOf_eq {s : State} {b : Book} {c : Computation} {len : Nat} {k : Cause}
    (length : s.intervalLength = some len) (settling : b.state = .settling k) (change : Int) :
    let demand := (c.results.map fun r => r.demand).sum
    let supply := (c.results.map fun r => r.supply).sum
    s.headerOf b c.derivations change =
      { boundary := b.boundary, span := b.span, cause := k, instant := boundaryInstant len b.boundary, setIx := b.setIx
        prices := b.prices, flags := b.flags, demand := demand, supply := supply, matched := min demand supply
        plant := demand - min demand supply, feed := supply - min demand supply, fundChange := change
        fundAfter := s.fund + change } := by
  have demand : (c.results.map fun r => r.demand).sum = total (demands c.derivations) := by
    rw [c.sum_results, total_eq_sum]
    exact Finset.sum_congr rfl fun i _ => c.resultAt_demand i
  have supply : (c.results.map fun r => r.supply).sum = total (supplies c.derivations) := by
    rw [c.sum_results, total_eq_sum]
    exact Finset.sum_congr rfl fun i _ => c.resultAt_supply i
  dsimp only
  rw [demand, supply, State.headerOf, length]
  simp [Book.cause, settling]

/-! ## The records after a posting -/

theorem Household.settle_none {h : Household} {r : SlotResult} (none : r.derived = none) : h.settle r = h := by
  simp only [Household.settle, none]

theorem Household.settle_some {h : Household} {r : SlotResult} {d : Derived} (some : r.derived = some d) :
    h.settle r =
      { h with
        balance := h.balance + r.credit - r.debit
        bases := d.bases.elim h.bases fun b => if d.hasLine then Option.some b else h.bases
        misses := missesAfter h.misses d.misses
        member := h.member.afterFlags d.flags } := by
  simp only [Household.settle, some]
  cases d.bases <;> rfl

theorem Derived.hasLine_iff (d : Derived) : d.hasLine = true ↔ ¬(d.imp = 0 ∧ d.exp = 0 ∧ d.flags = []) := by
  simp only [Derived.hasLine, Bool.or_eq_true, decide_eq_true_eq]
  tauto

section
variable (s : State) (b : Book) (c : Computation)

theorem State.postedHousehold_wanted (j : Slot) : (s.postedHousehold b c j).wanted = (s.household j).wanted := by
  have settled : ((s.household j).settle (c.resultAt j)).wanted = (s.household j).wanted := by
    unfold Household.settle
    cases (c.resultAt j).derived <;> rfl
  unfold State.postedHousehold
  dsimp only
  split
  · exact settled
  · exact settled

theorem State.post_vacated {j : Slot} (h : s.postingVacates b (c.resultAt j) = true) :
    ((s.post b c).household j).member = .vacant ∧ ((s.post b c).household j).settings = none ∧
      ((s.post b c).household j).bases = none ∧ ((s.post b c).household j).misses = 0 := by
  rw [s.post_household, State.postedHousehold, if_pos h]
  exact ⟨rfl, rfl, rfl, rfl⟩

theorem State.post_kept {j : Slot} (h : s.postingVacates b (c.resultAt j) = false) :
    (s.post b c).household j =
      { (s.household j).settle (c.resultAt j) with wanted := ((s.post b c).household j).wanted } := by
  conv_lhs => rw [s.post_household]
  rw [State.postedHousehold, if_neg (by simp [h])]

end

/-- What a posting makes of the member state of a line's household (R33). -/
theorem MemberState.afterFlags_eq (m : MemberState) (flags : List LineFlag) :
    m.afterFlags flags =
      if .regression ∈ flags ∧ (m = .active ∨ m = .suspended) then .fault
      else if .regression ∉ flags ∧ .base ∈ flags ∧ m = .enrolled then .active
      else m := by
  unfold MemberState.afterFlags
  by_cases regression : LineFlag.regression ∈ flags <;> by_cases base : LineFlag.base ∈ flags <;>
    cases m <;> simp [regression, base]

/-- Settles O32. -/
theorem postingAppliesAllOrNothing : Obligations.PostingAppliesAllOrNothing := by
  refine ⟨fun s c b running computed held => ⟨fun full => ?_, fun room limits => ?_⟩,
    fun s c b running computed held room balances fund => ?_,
    fun s b rs => ⟨s.postingVacates_iff b, s.listed_eq b rs⟩, fun s b r => ?_,
    fun s b c len k length settling => State.headerOf_eq length settling _⟩
  · rw [exec_postingAttempt running, State.attemptPosting_of computed held, if_pos full]
    rfl
  · rw [exec_postingAttempt running, State.attemptPosting_of computed held, if_neg (by simp [room]),
      if_pos ((s.withinLimits_false _ _).mpr limits)]
    rfl
  · have within : ¬s.withinLimits (s.listed b c.results) (fundChange c.results) = false := by
      rw [s.withinLimits_false]
      rintro (⟨r, member, out⟩ | out)
      · simp [balances r member] at out
      · simp [fund] at out
    have posts : exec .postingAttempt s = .next (s.post b c) := by
      rw [exec_postingAttempt running, State.attemptPosting_of computed held, if_neg (by simp [room]), if_neg within]
    have each {P : SlotResult → Prop} (h : ∀ j, P (c.resultAt j)) : ∀ r ∈ c.results, P r := by
      intro r hr
      obtain ⟨j, rfl⟩ := (c.mem_results r).mp hr
      exact h j
    simp only [s.gone_iff b c]
    refine ⟨s.post b c, posts, each fun j => ?_, s.post_fund b c, s.post_injection b c, s.post_books b c, ?_, ?_,
      s.post_journal b c, s.post_settlement b c, ?_, each fun j vacates => ?_, each fun j stays => ?_, ?_, ⟨?_, ?_, ?_, ?_⟩,
      s.postRecord b c, s.post_eq b c, fun i => ?_, fun f => ?_⟩
    · rw [c.resultAt_slot, s.post_balance, s.balanceAfter_eq]
    · rw [s.post_subs]
      exact List.filter_sublist
    · intro e member
      rw [s.post_subs] at member
      simpa using (List.mem_filter.mp member).2 |> fun h => (Bool.and_eq_true_iff.mp h).1
    · exact (s.post_raised_settled b c).flag.mpr (.inr Nat.one_pos)
    · rw [c.resultAt_slot]
      exact s.post_vacated b c vacates
    · rw [c.resultAt_slot, s.post_kept b c stays]
      cases derived : (c.resultAt j).derived with
      | none =>
        rw [Household.settle_none derived]
        exact ⟨rfl, rfl, fun _ => ⟨rfl, rfl, rfl⟩, nofun⟩
      | some d =>
        rw [Household.settle_some derived]
        refine ⟨rfl, rfl, nofun, fun d' same => ?_⟩
        cases same
        refine ⟨?_, ?_, MemberState.afterFlags_eq _ _⟩
        · cases d.bases with
          | none => rfl
          | some moved =>
            by_cases line : d.imp = 0 ∧ d.exp = 0 ∧ d.flags = []
            · exact (if_neg (mt d.hasLine_iff.mp (not_not.mpr line))).trans (if_pos line).symm
            · exact (if_pos (d.hasLine_iff.mpr line)).trans (if_neg line).symm
        · cases d.misses <;> rfl
    · rw [s.post_subs]
      simp
    · exact ⟨(s.post_raised_settled b c).flag, (s.post_raised_settled b c).count⟩
    · have raised := s.post_raised_slots b c (n := .householdFault) (by simp) (by simp) (by simp)
      exact ⟨raised.flag, raised.count⟩
    · have raised := s.post_raised_slots b c (n := .meterSilent) (by simp) (by simp) (by simp)
      exact ⟨raised.flag, raised.count⟩
    · have raised := s.post_raised_dropped b c
      exact ⟨raised.flag, raised.count⟩
    · conv_rhs => rw [s.post_household]
      rw [s.postRecord_household, ← s.postedHousehold_wanted b c]
    · rw [s.postRecord_queue]
      simp
  · exact ⟨rfl, rfl, rfl, rfl, rfl, rfl, rfl, rfl, rfl, rfl, fun d some => by simp [State.lineOf, some],
      fun none => by simp [State.lineOf, none], rfl⟩

end Sys2Proof.Machine
end

section
/-! The journal's rules and the requests that report the journal, the books and the substitutions (chapters 3 and 5). -/

namespace Sys2Proof.Machine

/-! ## The journal (R96 to R98) -/

theorem RecordBody.lineCount_eq (body : RecordBody) : body.lineCount = body.lines.length := by
  cases body <;> simp [RecordBody.lineCount, RecordBody.lines]

/-- There is room for records while they, their lines and their numbers fit (R98). -/
theorem Journal.hasRoom_some (j : Journal) (records lines : Nat) (positive : 0 < records) :
    j.hasRoom records lines = true ↔
      j.records.length + records ≤ 64 ∧ (j.records.map fun r : JournalRecord => r.body.lineCount).sum + lines ≤ 3072 ∧
        ∃ q, j.nextSeq = some q ∧ q + records ≤ 4294967296 := by
  rw [j.hasRoom_iff]
  refine and_congr_right fun _ => and_congr_right fun _ => ?_
  cases next : j.nextSeq with
  | none => rw [Journal.numbersFor_none next]; simp; omega
  | some q => rw [Journal.numbersFor_some next]; simp

/-- A held record's number finds it: the first of that number (R103). -/
theorem Journal.find_some {j : Journal} {older younger : List JournalRecord} {r : JournalRecord} {n : Nat}
    (records : j.records = older ++ r :: younger) (here : r.seq = n) (before : ∀ k ∈ older, k.seq ≠ n) :
    j.find n = some r := by
  rw [Journal.find, records, List.find?_append, List.find?_eq_none.mpr (by simpa using before)]
  simp [here]

/-- Settles O36. -/
theorem jreadAndJstatReport : Obligations.JreadAndJstatReport := by
  have numbered (s : State) (n : Nat) (most : n ≤ 4294967295) (commissioned : s.service ≠ .uncommissioned) :
      serveRequest .JREAD [.num n] s = s.readRecord (s.journal.find n) := by
    simp only [serveRequest, serveJread, State.ifCommissioned_of commissioned, natIn_of_natural, Config.maxSequence]
    rw [if_pos ⟨Nat.zero_le n, most⟩]
  have oldest (s : State) (commissioned : s.service ≠ .uncommissioned) :
      serveRequest .JREAD [.kw .OLDEST] s = s.readRecord s.journal.records.head? := by
    simp only [serveRequest, serveJread, State.ifCommissioned_of commissioned]
  refine ⟨fun j body q next => ⟨by rw [Journal.nextNumber, next]; rfl, by rw [Journal.append, next]; rfl⟩,
    Journal.hasRoom_some, RecordBody.lineCount_eq, fun s serves commissioned => ?_,
    fun s n most serves commissioned => ⟨fun absent => ?_, fun older younger r records here before => ?_⟩,
    fun s serves commissioned => ⟨fun none => ?_, fun r rest records => ?_⟩, fun h lines => ⟨rfl, ?_⟩,
    fun _ _ _ _ => ⟨rfl, rfl⟩, fun _ _ => ⟨rfl, rfl⟩, fun _ _ _ => ⟨rfl, rfl⟩⟩
  · refine exec_answers serves ?_
    simp only [serveRequest, serveJstat, State.ifCommissioned_of commissioned, Journal.oldest, Journal.newest]
    cases s.journal.records.head? <;> cases s.journal.records.getLast? <;> cases s.journal.nextSeq <;>
      cases s.settlement.deferral <;> rfl
  · refine exec_refuses serves ?_
    rw [numbered s n most commissioned, Journal.find, List.find?_eq_none.mpr (by simpa using absent)]
    rfl
  · refine exec_answers serves ?_
    rw [numbered s n most commissioned, Journal.find_some records here before]
    rfl
  · refine exec_refuses serves ?_
    rw [oldest s commissioned, none]
    rfl
  · refine exec_answers serves ?_
    rw [oldest s commissioned, records]
    rfl
  · refine List.map_congr_left fun l _ => ?_
    have names : namesOr .dash (l.flags.map LineFlag.kw) = if l.flags = [] then .dash else .names (l.flags.map LineFlag.kw) := by
      cases l.flags <;> rfl
    rw [← names]
    rfl

/-! ## Reading books (R65, R66) -/

theorem Book.countOf_eq (b : Book) (k : Kw) : b.countOf k = allSlots.countP fun i : Slot => b.entries[i].kw = k := by
  rw [Book.countOf, Book.countEntries, toList_eq_map_allSlots, List.countP_map]
  rfl

theorem Book.causeField_eq (b : Book) :
    b.causeField = match b.state with
      | .opened => .dash
      | .due c => .kw c.kw
      | .settling c => .kw c.kw := by
  unfold Book.causeField Book.cause
  cases b.state <;> rfl

theorem State.entryLine_eq (s : State) (b : Book) (i : Slot) :
    s.entryLine b i =
      [Field.num (slotNumber i)] ++ (.kw b.entries[i].kw :: b.entries[i].fields) ++
        [if (b.state = .opened ∨ b.entries[i] = .pending) ∧ s.covers b.boundary i = true then .kw .COVERED else .dash] := by
  simp [State.entryLine, State.coveredEntry, Book.isOpen, Book.pendingAt, Field.nat]

/-- The number of a boundary names the held book of that boundary. -/
theorem State.bookNamed_of (s : State) (n : Nat) : s.bookNamed (n : Int) = s.bookOf n := by
  rw [State.bookNamed, if_neg (by omega), Int.toNat_natCast]

/-! ## Reading substitutions (R59) -/

theorem Sub.before_iff (a b : Sub) :
    a.before b = true ↔ a.boundary < b.boundary ∨ (a.boundary = b.boundary ∧ a.slot ≤ b.slot) := by
  simp only [Sub.before, Bool.or_eq_true, Bool.and_eq_true, decide_eq_true_eq, Fin.le_def]

theorem insertSub_perm (e : Sub) (l : List Sub) : (insertSub e l).Perm (e :: l) := by
  induction l with
  | nil => exact List.Perm.refl _
  | cons k l ih =>
    unfold insertSub
    split
    · exact List.Perm.refl _
    · exact (ih.cons k).trans (List.Perm.swap e k l)

theorem insertSub_sorted {e : Sub} {l : List Sub} (h : l.Pairwise fun a b => a.before b = true) :
    (insertSub e l).Pairwise fun a b => a.before b = true := by
  induction l with
  | nil => simp [insertSub]
  | cons k l ih =>
    obtain ⟨first, rest⟩ := List.pairwise_cons.mp h
    unfold insertSub
    split
    next before =>
      refine List.pairwise_cons.mpr ⟨fun a ha => ?_, h⟩
      rcases List.mem_cons.mp ha with rfl | later
      · exact before
      · have := first a later
        simp only [Sub.before_iff, Fin.le_def] at before this ⊢
        omega
    next after =>
      refine List.pairwise_cons.mpr ⟨fun a ha => ?_, ih rest⟩
      rcases List.mem_cons.mp ((insertSub_perm e l).subset ha) with rfl | later
      · simp only [Sub.before_iff, Fin.le_def] at after ⊢
        omega
      · exact first a later

theorem sortedSubs_perm (l : List Sub) : (sortedSubs l).Perm l := by
  induction l with
  | nil => exact List.Perm.refl _
  | cons e l ih => exact (insertSub_perm e _).trans (ih.cons e)

theorem sortedSubs_sorted (l : List Sub) : (sortedSubs l).Pairwise fun a b => a.before b = true := by
  induction l with
  | nil => exact List.Pairwise.nil
  | cons e l ih => exact insertSub_sorted ih

/-- Settles O26. -/
theorem bookReadsReport : Obligations.BookReadsReport := by
  refine ⟨fun s serves commissioned => ?_, fun s b => ?_, fun s b k => ⟨?_, ?_⟩, fun s b i => ⟨?_, ?_⟩, fun e => rfl,
    fun s b serves commissioned => ⟨fun held => ?_, fun none => ?_⟩, fun s b i serves commissioned held => ?_,
    fun s serves commissioned => ⟨sortedSubs s.store.subs, sortedSubs_perm _, ?_, ?_⟩⟩
  · refine exec_answers serves ?_
    simp only [serveRequest, serveBooks, State.ifCommissioned_of commissioned]
    rfl
  · unfold State.bookLine
    rw [b.causeField_eq]
    rfl
  · rw [b.countOf_eq]
    refine List.countP_congr fun i _ => ?_
    rw [decide_eq_true_iff, decide_eq_true_iff]
    unfold Entry.kw
    cases b.entries[i] <;> rfl
  · refine List.countP_congr fun i _ => ?_
    simp [Book.pendingAt]
  · unfold Book.fields namesOr
    rw [b.causeField_eq]
    rfl
  · rw [s.entryLine_eq]
    cases b.entries[i] <;> rfl
  · refine exec_answers serves ?_
    simp only [serveRequest, serveBookread, State.ifCommissioned_of commissioned, s.bookNamed_of, held]
    rfl
  · refine exec_refuses serves ?_
    simp only [serveRequest, serveBookread, State.ifCommissioned_of commissioned, s.bookNamed_of, none]
  · refine exec_answers serves ?_
    simp only [serveRequest, serveBookread, State.ifCommissioned_of commissioned, s.bookNamed_of, slotOf_slotNumber, held]
    rfl
  · exact (sortedSubs_sorted _).imp fun h => (Sub.before_iff _ _).mp h
  · refine exec_answers serves ?_
    simp only [serveRequest, serveSubread, State.ifCommissioned_of commissioned]
    rfl

/-! ## CLOSENOW (R52) -/

/-- Settles O24. -/
theorem closenowForcesTheOldestOpenBook : Obligations.ClosenowForcesTheOldestOpenBook := by
  intro s serves commissioned good
  have served : serveRequest .CLOSENOW [] s =
      (s.store.books.find? Book.isOpen).elim (refuse .STATE) fun b =>
        .done (s.mapBook b.boundary fun k => k.closeMissing .forced)
          (okLine [.nat b.boundary, .nat (b.countOf .PENDING)]) := by
    simp only [serveRequest, serveClosenow, State.ifWritable_of commissioned good]
    cases s.store.books.find? Book.isOpen <;> rfl
  refine ⟨fun none => exec_refuses serves ?_, fun older younger b books before opened others => exec_does serves ?_⟩
  · rw [served, List.find?_eq_none.mpr fun b member => by simpa [Book.isOpen] using none b member]
    rfl
  · have found : s.store.books.find? Book.isOpen = some b := by
      rw [books, List.find?_append, List.find?_eq_none.mpr fun k member => by simpa [Book.isOpen] using before k member]
      simp [Book.isOpen, opened]
    have closed : (s.store.books.map fun k => if k.boundary = b.boundary then k.closeMissing .forced else k) =
        older ++ b.closeMissing .forced :: younger := by
      rw [books, List.map_append, List.map_cons, if_pos rfl, map_unaffected _ fun k hk => others k (by simp [hk]),
        map_unaffected _ fun k hk => others k (by simp [hk])]
    have pending : b.countOf .PENDING = allSlots.countP fun i : Slot => b.entries[i] = Entry.pending := by
      rw [b.countOf_eq]
      refine List.countP_congr fun i _ => ?_
      rw [decide_eq_true_iff, decide_eq_true_iff]
      cases b.entries[i] <;> simp [Entry.kw]
    rw [served, found, Option.elim_some, pending, State.mapBook, closed]
    rfl

end Sys2Proof.Machine
end

section
/-! Boundary events (R5, R45 to R49, R115, R129): the passes that they build, the books that they close and open. -/

namespace Sys2Proof.Machine

/-! ## The queue of a pass build (R128, R129) -/

section
variable (s : State) (f : Feeder)

/-- An entry as a pass build offers it. -/
def State.queueEntry (i : Slot) : QueueEntry := { slot := i, command := (s.household i).wanted }

theorem inQueue_append (q : List QueueEntry) (e : QueueEntry) (i : Slot) :
    inQueue (q ++ [e]) i = (inQueue q i || decide (e.slot = i)) := by
  simp [inQueue]

theorem State.requeues_eq (q : List QueueEntry) (i : Slot) :
    s.requeues f q i = (s.household i).settings.any fun c =>
      (s.household i).present && c.feeder = f && (s.household i).confirmed ≠ some (s.household i).wanted && !inQueue q i := by
  unfold State.requeues
  dsimp only
  cases (s.household i).settings <;> rfl

theorem State.requeues_iff (q : List QueueEntry) (i : Slot) :
    s.requeues f q i = (s.requeues f [] i && !inQueue q i) := by
  rw [s.requeues_eq, s.requeues_eq]
  cases (s.household i).settings <;> simp [inQueue]

theorem State.requeue_congr {s t : State} (table : t.table = s.table) (f : Feeder) : t.requeue f = s.requeue f := by
  unfold State.requeue State.requeues State.household
  rw [table]

/-- The offers of a pass build, of some slots to a queue: those that fit join it, and one refused is told (R129). -/
theorem State.requeue_fold (is : List Slot) (distinct : is.Nodup) (q : List QueueEntry) (told : Bool) :
    is.foldl
        (fun acc i =>
          if s.requeues f acc.1 i then
            match offerTo acc.1 i (s.household i).wanted with
            | .queued q => (q, acc.2)
            | .full => (acc.1, true)
          else acc)
        (q, told) =
      (q ++ ((is.filter (s.requeues f q)).take (16 - q.length)).map s.queueEntry,
        told || decide (16 - q.length < (is.filter (s.requeues f q)).length)) := by
  induction is generalizing q told with
  | nil => simp
  | cons i is ih =>
    obtain ⟨new, distinct⟩ := List.nodup_cons.mp distinct
    rw [List.foldl_cons]
    by_cases offered : s.requeues f q i = true
    · have absent : inQueue q i = false := by
        rw [s.requeues_iff] at offered
        simpa using (Bool.and_eq_true_iff.mp offered).2
      by_cases room : q.length < 16
      · have joined : offerTo q i (s.household i).wanted = .queued (q ++ [s.queueEntry i]) := by
          simp [offerTo, absent, Config.maxQueue, room, State.queueEntry]
        have later : is.filter (s.requeues f (q ++ [s.queueEntry i])) = is.filter (s.requeues f q) := by
          refine List.filter_congr fun j member => ?_
          have other : ¬i = j := fun same => new (same ▸ member)
          rw [s.requeues_iff f (q ++ _), s.requeues_iff f q, inQueue_append]
          simp [State.queueEntry, other]
        simp only [offered, if_true, joined]
        rw [ih distinct, later, List.filter_cons_of_pos offered]
        have next : 16 - q.length = 15 - q.length + 1 := by omega
        have one : 16 - (q ++ [s.queueEntry i]).length = 15 - q.length := by simp
        rw [next, one, List.take_succ_cons]
        simp
      · have full : offerTo q i (s.household i).wanted = .full := by
          simp [offerTo, absent, Config.maxQueue, room]
        simp only [offered, if_true, full]
        rw [ih distinct, List.filter_cons_of_pos offered]
        simp [show 16 - q.length = 0 by omega]
    · simp only [offered, Bool.false_eq_true, if_false]
      rw [ih distinct, List.filter_cons_of_neg offered]

theorem State.requeue_eq (q : List QueueEntry) :
    s.requeue f q =
      (q ++ ((allSlots.filter (s.requeues f q)).take (16 - q.length)).map s.queueEntry,
        decide (16 - q.length < (allSlots.filter (s.requeues f q)).length)) := by
  have folded := s.requeue_fold f allSlots (List.nodup_finRange 96) q false
  rw [Bool.false_or] at folded
  exact folded

end

/-! ## Building a pass (R115, R119, R120) -/

section
variable (s : State) (f : Feeder) (b : Nat) (instant : DateTime)

theorem State.buildPass_warned (h : s.supply.warning = true) : s.buildPass f b instant = s := if_pos h

/-- The plan of a pass built now (R115). -/
def State.planOf : PassPlan := { boundary := b, instant := instant, items := s.snapList f }

theorem State.buildPass_engine (good : s.supply.warning = false) :
    (s.buildPass f b instant).engine f =
      ({ s.engine f with queue := (s.requeue f (s.engine f).queue).1 } : Engine).take (s.planOf f b instant) := by
  have built : s.buildPass f b instant = _ := if_neg (by simp [good])
  rw [built]
  dsimp only
  split
  · rw [State.notify_engine, State.withEngine_engine]
    rfl
  · rw [State.withEngine_engine]
    rfl

theorem State.buildPass_raised (good : s.supply.warning = false) :
    Raised s (s.buildPass f b instant) .queueOverflow (if (s.requeue f (s.engine f).queue).2 then 1 else 0) := by
  have built : s.buildPass f b instant = _ := if_neg (by simp [good])
  rw [built]
  dsimp only
  split
  · exact (Raised.notify _ .queueOverflow .queueOverflow).of_notices (by rw [State.withEngine_notices])
  · exact .of_cell (by rw [State.withEngine_notices])

theorem State.buildPass_cell {n : Notice} (h : n ≠ .queueOverflow) :
    (s.buildPass f b instant).notices.cell n = s.notices.cell n := by
  unfold State.buildPass
  split
  · rfl
  · dsimp only
    split
    · rw [State.notify_cell, if_neg h.symm, State.withEngine_notices]
    · rw [State.withEngine_notices]

end

/-- The engine takes up a new pass, or keeps it as the next one (R115, R119). -/
theorem Engine.take_cases (e : Engine) (plan : PassPlan) :
    ((e.pass = none ∨ ∃ p, e.pass = some p ∧ p.phase = .guard) ∧
        (e.take plan).pass = some { plan := plan, phase := .mark, stopping := false }) ∨
      ((∃ p, e.pass = some p ∧ p.phase ≠ .guard) ∧ (e.take plan).pass = e.pass ∧ (e.take plan).next = some plan) := by
  unfold Engine.take
  cases pass : e.pass with
  | none => exact .inl ⟨.inl rfl, rfl⟩
  | some p =>
    cases phase : p.phase with
    | guard => exact .inl ⟨.inr ⟨p, rfl, phase⟩, by simp [phase, PassPlan.begin]⟩
    | _ => exact .inr ⟨⟨p, rfl, by simp [phase]⟩, by simp [phase], by simp [phase]⟩

theorem State.snapItem_eq (s : State) (f : Feeder) (k : Book) (i : Slot) :
    s.snapItem f k i = (s.household i).settings.bind fun c =>
      if c.feeder = f ∧ k.entries[i] = .pending ∧ s.covers k.boundary i = false then
        some { boundary := k.boundary, slot := i, addr := c.addr }
      else none := by
  unfold State.snapItem
  cases (s.household i).settings <;> simp [Book.pendingAt, and_assoc]

theorem State.snapList_congr {s t : State} (store : t.store = s.store) (table : t.table = s.table) (f : Feeder) :
    t.snapList f = s.snapList f := by
  unfold State.snapList State.snapItem State.covers State.household
  rw [store, table]

/-! ## The event (R5) -/

section
variable (s : State) (len b : Nat)

/-- A boundary event before its passes: b_last, the book store, the retry. -/
def State.boundaryBooks : State :=
  ((s.withCalendar { s.calendar with bLast := b, held := false }).boundaryAtStore len b (b - s.calendar.bLast)).retry

theorem State.boundaryEvent_eq :
    s.boundaryEvent len b =
      ((s.boundaryBooks len b).buildPass .A b (boundaryInstant len b)).buildPass .B b (boundaryInstant len b) := rfl

theorem State.boundaryBooks_frame :
    Frame [.books, .bookKeys, .counts, .reserve, .deferral, .notices] (s.withCalendar { s.calendar with bLast := b, held := false })
      (s.boundaryBooks len b) :=
  (State.boundaryAtStore_frame _ _ _ _).andThen (State.retry_frame _) (by simp)

theorem State.boundaryPasses_frame :
    Frame [.feeder .A, .feeder .B, .notices] (s.boundaryBooks len b) (s.boundaryEvent len b) :=
  (State.buildPass_frame _ .A _ _).andThen (State.buildPass_frame _ .B _ _) (by simp)

theorem State.boundaryBooks_engine (f : Feeder) : (s.boundaryBooks len b).engine f = s.engine f :=
  (s.boundaryBooks_frame len b).engine f (by simp)

theorem State.boundaryBooks_table : (s.boundaryBooks len b).table = s.table :=
  (s.boundaryBooks_frame len b).table (by simp) (by simp) (by simp)

theorem State.boundaryBooks_supply : (s.boundaryBooks len b).supply = s.supply :=
  (s.boundaryBooks_frame len b).supply (by simp)

theorem State.boundaryEvent_store : (s.boundaryEvent len b).store =
    ((s.withCalendar { s.calendar with bLast := b, held := false }).boundaryAtStore len b (b - s.calendar.bLast)).store :=
  (s.boundaryPasses_frame len b).store (by simp) (by simp) (by simp) (by simp)

theorem State.boundaryEvent_reserve : (s.boundaryEvent len b).reserve =
    ((s.withCalendar { s.calendar with bLast := b, held := false }).boundaryAtStore len b (b - s.calendar.bLast)).reserve :=
  (s.boundaryPasses_frame len b).reserve (by simp)

theorem State.boundaryEvent_cell {n : Notice} (h : n ≠ .queueOverflow) : (s.boundaryEvent len b).notices.cell n =
    ((s.withCalendar { s.calendar with bLast := b, held := false }).boundaryAtStore len b
      (b - s.calendar.bLast)).notices.cell n := by
  rw [s.boundaryEvent_eq, State.buildPass_cell _ _ _ _ h, State.buildPass_cell _ _ _ _ h]
  rfl

/-- The engines after the event, each as its own pass build leaves it. -/
theorem State.boundaryEvent_engine (good : s.supply.warning = false) (f : Feeder) :
    (s.boundaryEvent len b).engine f =
      ({ s.engine f with queue := (s.requeue f (s.engine f).queue).1 } : Engine).take
        { boundary := b, instant := boundaryInstant len b, items := (s.boundaryEvent len b).snapList f } := by
  let t := s.boundaryBooks len b
  let u := t.buildPass .A b (boundaryInstant len b)
  have passes := s.boundaryPasses_frame len b
  have first := t.buildPass_frame .A b (boundaryInstant len b)
  have same : t.requeue f = s.requeue f := State.requeue_congr (s.boundaryBooks_table len b) f
  have tGood : t.supply.warning = false := by rw [show t.supply = s.supply from s.boundaryBooks_supply len b]; exact good
  have items : t.snapList f = (s.boundaryEvent len b).snapList f :=
    (State.snapList_congr (passes.store (by simp) (by simp) (by simp) (by simp)) (passes.table (by simp) (by simp) (by simp)) f).symm
  cases f with
  | A =>
    rw [s.boundaryEvent_eq, (State.buildPass_frame _ .B _ _).engine .A (by simp), t.buildPass_engine _ _ _ tGood, same,
      s.boundaryBooks_engine, State.planOf, items]
    rfl
  | B =>
    have uGood : u.supply.warning = false := by rw [first.supply (by simp)]; exact tGood
    have uSame : u.requeue .B = t.requeue .B := State.requeue_congr (first.table (by simp) (by simp) (by simp)) .B
    have uItems : u.snapList .B = t.snapList .B :=
      State.snapList_congr (first.store (by simp) (by simp) (by simp) (by simp)) (first.table (by simp) (by simp) (by simp)) .B
    rw [s.boundaryEvent_eq, State.buildPass_engine _ _ _ _ uGood, uSame, same, first.engine .B (by simp),
      s.boundaryBooks_engine, State.planOf, uItems, items]
    rfl

theorem State.boundaryAtStore_cell (s : State) (len b step : Nat) {n : Notice} (h : n ≠ .span) :
    (s.boundaryAtStore len b step).notices.cell n = s.notices.cell n := by
  have skipped (t : State) (k : Nat) : (t.skipBoundary k).notices.cell n = t.notices.cell n := by
    rw [State.skipBoundary, State.notify_cell, if_neg h.symm]
    rfl
  unfold State.boundaryAtStore
  split
  · rfl
  · split
    · exact skipped s step
    · dsimp only
      split
      · rfl
      · exact skipped _ step

/-- QUEUE_OVERFLOW is set once for each build that finds no room for one (R129). -/
theorem State.boundaryEvent_raised (good : s.supply.warning = false) :
    Raised s (s.boundaryEvent len b) .queueOverflow
      ((if (s.requeue .A (s.engine .A).queue).2 then 1 else 0) + if (s.requeue .B (s.engine .B).queue).2 then 1 else 0) := by
  let t := s.boundaryBooks len b
  let u := t.buildPass .A b (boundaryInstant len b)
  have first := t.buildPass_frame .A b (boundaryInstant len b)
  have same (f : Feeder) : t.requeue f = s.requeue f := State.requeue_congr (s.boundaryBooks_table len b) f
  have uSame : u.requeue .B = t.requeue .B := State.requeue_congr (first.table (by simp) (by simp) (by simp)) .B
  have tGood : t.supply.warning = false := by rw [show t.supply = s.supply from s.boundaryBooks_supply len b]; exact good
  have uGood : u.supply.warning = false := by rw [first.supply (by simp)]; exact tGood
  have before : Raised s t .queueOverflow 0 :=
    .of_cell ((s.withCalendar { s.calendar with bLast := b, held := false }).boundaryAtStore_cell len b _ (by simp))
  have onA := t.buildPass_raised .A b (boundaryInstant len b) tGood
  have onB := u.buildPass_raised .B b (boundaryInstant len b) uGood
  rw [same, s.boundaryBooks_engine] at onA
  rw [uSame, same, first.engine .B (by simp), s.boundaryBooks_engine] at onB
  have all := (before.trans onA).trans onB
  rw [Nat.zero_add] at all
  exact all

end

theorem State.boundaryEvent_warned (s : State) (len b : Nat) (warned : s.supply.warning = true) :
    s.boundaryEvent len b = s.boundaryBooks len b := by
  have held : (s.boundaryBooks len b).supply.warning = true := by rw [s.boundaryBooks_supply]; exact warned
  rw [s.boundaryEvent_eq, State.buildPass_warned _ _ _ _ held, State.buildPass_warned _ _ _ _ held]

/-- Settles O8. -/
theorem boundaryEventsRetryAndBuildPasses : Obligations.BoundaryEventsRetryAndBuildPasses := by
  refine ⟨fun s f => ?_, fun s len b => ⟨s.boundaryEvent_calendar len b, ?_, ?_, ?_, fun f => ⟨fun warned => ?_,
    fun good => ?_, fun good => ?_⟩⟩⟩
  · simp only [State.snapList, State.snapItem_eq]
    refine congrArg₂ _ ?_ rfl
    funext k
    refine congrArg₂ _ ?_ rfl
    funext i
    cases (s.household i).settings <;> rfl
  · rw [(s.boundaryPasses_frame len b).settlement (by simp) (by simp)]
    have books := State.boundaryAtStore_frame (s.withCalendar { s.calendar with bLast := b, held := false }) len b
      (b - s.calendar.bLast)
    exact congrArg (fun v : Settlement => { v with deferral := Deferral.none }) (books.settlement (by simp) (by simp))
  · rw [(s.boundaryPasses_frame len b).table (by simp) (by simp) (by simp), s.boundaryBooks_table]
  · exact ((s.boundaryPasses_frame len b).journal (by simp)).trans ((s.boundaryBooks_frame len b).journal (by simp))
  · rw [s.boundaryEvent_warned len b warned, s.boundaryBooks_engine]
  · refine ⟨⟨b, boundaryInstant len b, (s.boundaryEvent len b).snapList f⟩, rfl, rfl, rfl, ?_⟩
    rw [s.boundaryEvent_engine len b good]
    exact Engine.take_cases { s.engine f with queue := (s.requeue f (s.engine f).queue).1 } _
  · intro queue due refused before after
    have dues (g : Feeder) : allSlots.filter (s.requeues g (s.engine g).queue) = due g := by
      refine List.filter_congr fun i _ => ?_
      rw [s.requeues_eq]
      cases (s.household i).settings <;> rfl
    have told (g : Feeder) : (s.requeue g (s.engine g).queue).2 = refused g := by rw [s.requeue_eq, dues]
    have raised := s.boundaryEvent_raised len b good
    rw [told, told] at raised
    refine ⟨fun g => ?_, raised.flag.trans (or_congr_right ?_), fun bound => ?_⟩
    · rw [s.boundaryEvent_engine len b good, Engine.take_queue, s.requeue_eq, dues]
      rfl
    · cases refused .A <;> cases refused .B <;> simp
    · rw [Nat.add_assoc]
      exact raised.count bound

/-! ## The books (R45 to R49) -/

theorem closeByGrace_eq (grace b : Nat) (books : List Book) :
    closeByGrace grace b books = books.map fun k : Book =>
      if k.state = .opened ∧ grace < b - k.boundary then k.closeMissing .grace else k := by
  refine List.map_congr_left fun k _ => ?_
  simp [Book.isOpen]

theorem closeByGrace_length (grace b : Nat) (books : List Book) : (closeByGrace grace b books).length = books.length :=
  List.length_map ..

section
variable (s : State) (len b step : Nat)

theorem State.boundaryAtStore_outside (h : s.service ≠ .service) : s.boundaryAtStore len b step = s := if_pos h

theorem State.boundaryAtStore_warned (h : s.service = .service) (warned : s.supply.warning = true) :
    s.boundaryAtStore len b step = s.skipBoundary step :=
  (if_neg (not_not.mpr h)).trans (if_pos warned)

/-- The store with the books that a boundary event makes due closed by GRACE (R48). -/
def State.graced : State := s.withStore { s.store with books := closeByGrace s.grace b s.store.books }

theorem State.boundaryAtStore_good (h : s.service = .service) (good : s.supply.warning = false) :
    s.boundaryAtStore len b step =
      if s.store.books.length < 6 then (s.graced b).openBook len b step else (s.graced b).skipBoundary step := by
  have stages : s.boundaryAtStore len b step =
      if (s.graced b).store.books.length < 6 then (s.graced b).openBook len b step else (s.graced b).skipBoundary step :=
    (if_neg (not_not.mpr h)).trans (if_neg (by simp [good]))
  rwa [show (s.graced b).store.books.length = s.store.books.length from closeByGrace_length _ _ _] at stages

theorem State.skipBoundary_span (k : Nat) : ((s.skipBoundary k).notices.cell .span).flag = true :=
  (Raised.notify _ .span .span).flag.mpr (.inr Nat.one_pos)

end

/-- Settles O22. -/
theorem boundaryEventOpensABookOrCarriesItsStep : Obligations.BoundaryEventOpensABookOrCarriesItsStep := by
  refine ⟨fun s len b service good room => ⟨fun k c i => ⟨rfl, rfl, ?_⟩, ?_⟩,
    fun s len b => ⟨fun service warned => ?_, fun service good full => ?_, fun outside => ?_⟩⟩
  · rw [Book.closeMissing_entry]
    cases k.entries[i] <;> simp [Entry.miss]
  · have opened := (State.boundaryAtStore_good (s.withCalendar { s.calendar with bLast := b, held := false }) len b
      (b - s.calendar.bLast) service good).trans (if_pos room)
    refine ⟨State.newBook (State.graced (s.withCalendar { s.calendar with bLast := b, held := false }) b) len b
      (b - s.calendar.bLast), ?_, rfl, rfl, rfl, rfl, rfl, rfl, rfl, rfl, rfl, fun i => ?_, ?_⟩
    · rw [s.boundaryEvent_store, opened, ← closeByGrace_eq]
      rfl
    · refine (tabulate_at 96 _ i).trans ?_
      change (s.household i).openingEntry = _
      unfold Household.openingEntry
      cases (s.household i).member <;> simp
    · rw [s.boundaryEvent_reserve, opened]
      rfl
  · have skipped := State.boundaryAtStore_warned (s.withCalendar { s.calendar with bLast := b, held := false }) len b
      (b - s.calendar.bLast) service warned
    rw [s.boundaryEvent_store, s.boundaryEvent_cell len b (by simp), s.boundaryEvent_reserve, skipped]
    exact ⟨rfl, State.skipBoundary_span _ _, rfl⟩
  · have skipped := (State.boundaryAtStore_good (s.withCalendar { s.calendar with bLast := b, held := false }) len b
      (b - s.calendar.bLast) service good).trans (if_neg (Nat.not_lt.mpr full))
    rw [s.boundaryEvent_store, s.boundaryEvent_cell len b (by simp), s.boundaryEvent_reserve, skipped, ← closeByGrace_eq]
    exact ⟨rfl, State.skipBoundary_span _ _, rfl⟩
  · have kept := State.boundaryAtStore_outside (s.withCalendar { s.calendar with bLast := b, held := false }) len b
      (b - s.calendar.bLast) outside
    rw [s.boundaryEvent_store, s.boundaryEvent_reserve, kept]
    exact ⟨rfl, rfl⟩

end Sys2Proof.Machine
end

section
/-! What the book store takes in (R50, R53 to R55) and the requests that edit the substitution table (R56, R58 to R60). -/

namespace Sys2Proof.Machine

/-! ## The test for COMPLETE (R50) -/

theorem State.covers_iff (s : State) (b : Nat) (i : Slot) :
    s.covers b i = true ↔ ∃ e ∈ s.store.subs, e.enabled = true ∧ e.boundary = b ∧ e.slot = i := by
  simp [State.covers, and_assoc]

theorem State.isComplete_iff (s : State) (b : Book) :
    s.isComplete b = true ↔
      b.state = .opened ∧ b.marked = true ∧ ∀ i : Slot, b.entries[i] = .pending → s.covers b.boundary i = true := by
  have uncovered (i : Slot) : (!(b.pendingAt i && !s.covers b.boundary i)) = true ↔
      (b.entries[i] = .pending → s.covers b.boundary i = true) := by
    by_cases pending : b.entries[i] = .pending <;> cases s.covers b.boundary i <;> simp [Book.pendingAt, pending]
  simp only [State.isComplete, Bool.and_eq_true, List.all_eq_true, uncovered, mem_allSlots, forall_const, Book.isOpen,
    decide_eq_true_eq, and_assoc]

/-- A change of the books of one boundary leaves the book of another. -/
theorem State.mapBook_bookOf_other (s : State) {n m : Nat} (f : Book → Book) (keep : ∀ b, (f b).boundary = b.boundary)
    (other : m ≠ n) : (s.mapBook n f).bookOf m = s.bookOf m := by
  rw [State.mapBook_bookOf s n m f keep]
  cases held : s.bookOf m with
  | none => rfl
  | some b => simp [(State.bookOf_some held).2, other]

theorem State.mapBook_bookOf_same {s : State} {n : Nat} {b : Book} (held : s.bookOf n = some b) (f : Book → Book)
    (keep : ∀ b, (f b).boundary = b.boundary) : (s.mapBook n f).bookOf n = some (f b) := by
  rw [State.mapBook_bookOf s n n f keep, held]
  simp [(State.bookOf_some held).2]

/-- Nothing changes when the boundary has no held book. -/
theorem State.mapBook_unheld {s : State} {n : Nat} (none : s.bookOf n = none) (f : Book → Book) : s.mapBook n f = s := by
  have others : ∀ k ∈ s.store.books, k.boundary ≠ n := by simpa [State.bookOf] using none
  rw [s.mapBook_eq, map_unaffected _ others]

theorem State.mapBook_boundaries (s : State) (n : Nat) (f : Book → Book) (keep : ∀ b, (f b).boundary = b.boundary) :
    (s.mapBook n f).store.books.map Book.boundary = s.store.books.map Book.boundary := by
  rw [s.mapBook_eq]
  simp only [List.map_map]
  refine List.map_congr_left fun k _ => ?_
  dsimp only [Function.comp]
  split
  · exact keep k
  · rfl

/-- What the test makes of a book. -/
def State.tested (s : State) (b : Book) : Book := if s.isComplete b then { b with state := .due .complete } else b

theorem State.tested_boundary (s : State) (b : Book) : (s.tested b).boundary = b.boundary := by
  unfold State.tested
  split <;> rfl

theorem State.testComplete_mapBook (s : State) (n : Nat) : s.testComplete n = s.mapBook n s.tested := rfl

theorem State.testComplete_bookOf {s : State} {n : Nat} {b : Book} (held : s.bookOf n = some b) :
    (s.testComplete n).bookOf n = some (s.tested b) :=
  State.mapBook_bookOf_same held _ s.tested_boundary

theorem State.testComplete_bookOf_other (s : State) {n m : Nat} (other : m ≠ n) :
    (s.testComplete n).bookOf m = s.bookOf m :=
  State.mapBook_bookOf_other s _ s.tested_boundary other

/-! ## Deliveries (R53 to R55) -/

section
variable {s : State} {d : Delivery} {rest : List Delivery}

/-- The delivery that has waited longest is granted the array when no book can be taken (R53, R185). -/
theorem exec_snapshotDelivery (running : s.power.phase = .running) (deliveries : s.store.deliveries = d :: rest)
    (idle : s.startable = none) :
    exec .snapshotDelivery s = .next ((s.withStore { s.store with deliveries := rest }).intake d) := by
  have engine : s.waits false .engine = false := by simp [State.waits, idle]
  have intake : s.waits false .intake = true := by simp [State.waits, deliveries]
  rw [exec_running rfl running]
  simp only [State.atGrant_of (State.arbiterNext_intake engine intake), State.grantDelivery, deliveries]

/-- It waits while the engine waits (R185). -/
theorem exec_snapshotDelivery_waits (running : s.power.phase = .running) (startable : s.startable ≠ none) :
    exec .snapshotDelivery s = .next s := by
  have engine : s.waits false .engine = true := by
    obtain ⟨p, some⟩ := Option.ne_none_iff_exists'.mp startable
    simp [State.waits, some]
  rw [exec_running rfl running]
  exact congrArg _ (State.atGrant_not (by rw [State.arbiterNext_engine engine]; simp) _)

theorem State.startable_of_warning (h : s.supply.warning = true) : s.startable = none := by
  simp [State.startable, h]

theorem State.intake_warned (h : s.supply.warning = true) (d : Delivery) : s.intake d = s := if_pos h

/-- A delivery for a book that is not held OPEN is late (R54). -/
theorem State.intake_late (good : s.supply.warning = false) (closed : ∀ b, s.bookOf d.boundary = some b → b.state ≠ .opened) :
    s.intake d = s.lateDelivery := by
  unfold State.intake
  rw [if_neg (by simp [good])]
  cases held : s.bookOf d.boundary with
  | none => rfl
  | some b => simp [Book.isOpen, closed b held]

/-- A delivery for an OPEN book: filed into a PENDING entry, nothing else (R53, log 11). -/
theorem State.intake_open (good : s.supply.warning = false) {b : Book} (held : s.bookOf d.boundary = some b)
    (opened : b.state = .opened) :
    s.intake d =
      if b.pendingAt d.slot && s.service = .service then
        (s.mapBook d.boundary fun b => { b with entries := b.entries.set d.slot d.entry }).testComplete d.boundary
      else s := by
  unfold State.intake
  rw [if_neg (by simp [good]), held]
  simp [Book.isOpen, opened]

end

/-- Settles O23. -/
theorem deliveriesAreFiledOrLate : Obligations.DeliveriesAreFiledOrLate := by
  intro s d rest running deliveries
  refine ⟨exec_snapshotDelivery_waits running, fun warned => ?_, fun idle good closed => ?_,
    fun b idle good held opened => ⟨fun filled => ?_, fun pending service => ?_⟩⟩
  · rw [exec_snapshotDelivery running deliveries (State.startable_of_warning warned), State.intake_warned]
    · rfl
    · exact warned
  · rw [exec_snapshotDelivery running deliveries idle, State.intake_late]
    · rfl
    · exact good
    · exact closed
  · have kept := (State.intake_open (s := s.withStore { s.store with deliveries := rest }) good held opened).trans
      (if_neg fun fits => filled (of_decide_eq_true (Bool.and_eq_true_iff.mp fits).1))
    exact (exec_snapshotDelivery running deliveries idle).trans (congrArg _ kept)
  · let t := s.withStore { s.store with deliveries := rest }
    let f : Book → Book := fun b => { b with entries := b.entries.set d.slot d.entry }
    let u := t.mapBook d.boundary f
    have filed : u.bookOf d.boundary = some (f b) := State.mapBook_bookOf_same (s := t) held f fun _ => rfl
    refine ⟨u.testComplete d.boundary, u.tested (f b), ?_, rfl, rfl, State.testComplete_bookOf filed, ?_, fun complete => ?_,
      fun incomplete => ?_, fun n other => ?_⟩
    · have files := (State.intake_open (s := t) good held opened).trans
        (if_pos (by simp [t, Book.pendingAt, pending, State.withStore, service]))
      exact (exec_snapshotDelivery running deliveries idle).trans (congrArg _ files)
    · have entries : (u.tested (f b)).entries = b.entries.set d.slot d.entry := by unfold State.tested; split <;> rfl
      refine entries.trans (congrArg (b.entries.set d.slot) ?_)
      unfold Delivery.entry
      cases d.snap <;> rfl
    · obtain ⟨marked, covered⟩ := complete
      have entries : (u.tested (f b)).entries = (f b).entries := by unfold State.tested; split <;> rfl
      have whole : u.isComplete (f b) = true := by
        refine (u.isComplete_iff _).mpr ⟨opened, marked, fun i pending => ?_⟩
        have boundary : (f b).boundary = d.boundary := (State.bookOf_some held).2
        rw [boundary]
        exact covered i (by rw [entries]; exact pending)
      rw [entries, State.tested, if_pos whole]
    · have entries : (u.tested (f b)).entries = (f b).entries := by unfold State.tested; split <;> rfl
      have partly : ¬u.isComplete (f b) = true := by
        intro whole
        obtain ⟨-, marked, covered⟩ := (u.isComplete_iff _).mp whole
        have boundary : (f b).boundary = d.boundary := (State.bookOf_some held).2
        rw [boundary] at covered
        exact incomplete ⟨marked, fun i pending => covered i (by rw [entries] at pending; exact pending)⟩
      rw [entries, State.tested, if_neg partly]
    · rw [State.testComplete_bookOf_other _ other]
      exact State.mapBook_bookOf_other t f (fun _ => rfl) other

/-! ## The substitution table (R56, R58 to R60) -/

section
variable {s : State} {i : Slot} {b : Nat}

theorem State.subAt_isSome (s : State) (i : Slot) (b : Nat) :
    (s.subAt i b).isSome = true ↔ ∃ e ∈ s.store.subs, e.slot = i ∧ e.boundary = b := by
  simp [State.subAt]

theorem State.subAt_none (s : State) (i : Slot) (b : Nat) :
    s.subAt i b = none ↔ ∀ e ∈ s.store.subs, ¬(e.slot = i ∧ e.boundary = b) := by
  simp [State.subAt]

theorem State.onSubstitution_of (commissioned : s.service ≠ .uncommissioned) (good : s.supply.warning = false)
    (low : 1 ≤ b) (high : b ≤ s.calendar.bLast + 64) (k : Slot → Nat → Served) :
    s.onSubstitution (slotNumber i) b k = k i b := by
  simp only [State.onSubstitution, State.ifWritable_of commissioned good, slotOf_slotNumber, natIn_of_natural,
    Config.substitutionReach]
  rw [if_pos ⟨low, high⟩]

/-- A boundary of a held book is too late when the book is not OPEN (R56). -/
theorem State.tooLate_held {k : Book} (held : s.bookOf b = some k) : s.tooLate b = true ↔ k.state ≠ .opened := by
  simp [State.tooLate, held, Book.isOpen]

/-- Any other is too late at or below b_last or below the oldest held book's (R56). -/
theorem State.tooLate_unheld (unheld : s.bookOf b = none) :
    s.tooLate b = true ↔
      b ≤ s.calendar.bLast ∨ ∃ oldest rest, s.store.books = oldest :: rest ∧ b < oldest.boundary := by
  unfold State.tooLate
  rw [unheld]
  cases s.store.books <;> simp

end

/-- A request on a held substitution entry (R56). -/
theorem State.onSub_of {s : State} {i : Slot} {b : Nat} (commissioned : s.service ≠ .uncommissioned)
    (good : s.supply.warning = false) (low : 1 ≤ b) (high : b ≤ s.calendar.bLast + 64) (k : Slot → Nat → Served) :
    s.onSub [.num (slotNumber i), .num b] k =
      if s.tooLate b then refuse .LATE else if (s.subAt i b).isSome then k i b else refuse .ABSENT := by
  simp only [State.onSub, State.onSubstitution_of commissioned good low high]
  cases s.subAt i b <;> rfl

/-- Settles O25. -/
theorem substitutionRequestsEditTheTable : Obligations.SubstitutionRequestsEditTheTable := by
  refine ⟨?_, ?_, fun s b => ⟨fun k => State.tooLate_held, State.tooLate_unheld⟩, State.covers_iff, fun s b => ?_⟩
  · rintro s i b imp exp c args rfl serves commissioned good low high held
    have served : serveRequest .SUBSET [.num (slotNumber i), .num b, .num imp, .num exp] s =
        if s.tooLate b then refuse .LATE
        else if imp ≤ c.cap ∧ exp ≤ c.cap then s.writeSub i b imp exp else refuse .RANGE := by
      simp only [serveRequest, serveSubset, State.onSubstitution_of commissioned good low high, held, natIn_of_natural,
        Nat.zero_le, true_and]
      by_cases first : imp ≤ c.cap <;> by_cases second : exp ≤ c.cap <;> simp [first, second]
    refine ⟨fun late => exec_refuses serves (served.trans (if_pos late)), fun open_ out => ?_, fun open_ first second => ?_⟩
    all_goals replace served := served.trans (if_neg (by simp [open_]))
    · exact exec_refuses serves (served.trans (if_neg out))
    · replace served := served.trans (if_pos ⟨first, second⟩)
      intro new
      refine ⟨fun present => ?_, fun absent => ?_⟩
      · obtain ⟨e, found⟩ := Option.isSome_iff_exists.mp ((s.subAt_isSome i b).mpr present)
        refine exec_does serves ?_
        rw [served, State.writeSub, found]
        have replaced : (s.store.subs.map fun e : Sub => if e.slot = i ∧ e.boundary = b then new else e) =
            s.store.subs.map fun e : Sub =>
              if e.slot = i ∧ e.boundary = b then { e with imp := imp, exp := exp, enabled := true } else e := by
          refine List.map_congr_left fun e _ => ?_
          by_cases same : e.slot = i ∧ e.boundary = b
          · rw [if_pos same, if_pos same]
            obtain ⟨rfl, rfl⟩ := same
            rfl
          · rw [if_neg same, if_neg same]
        rw [replaced]
        rfl
      · have unfound := (s.subAt_none i b).mpr absent
        rw [State.writeSub, unfound] at served
        exact ⟨fun full => exec_refuses serves (served.trans (if_pos full)),
          fun room => exec_does serves (served.trans (if_neg (Nat.not_le.mpr room)))⟩
  · rintro s i b r args rfl which serves commissioned good low high
    let change : Slot → Nat → Served := fun i b =>
      if r = .SUBOFF then .done (s.mapSub i b fun e => { e with enabled := false }) (okLine [])
      else .done (s.clearSub i b) (okLine [.nat (s.clearSub i b).store.subs.length])
    have served : serveRequest r [.num (slotNumber i), .num b] s =
        if s.tooLate b then refuse .LATE else if (s.subAt i b).isSome then change i b else refuse .ABSENT := by
      rcases which with rfl | rfl
      · exact State.onSub_of commissioned good low high _
      · exact State.onSub_of commissioned good low high _
    refine ⟨fun late => exec_refuses serves (served.trans (if_pos late)), fun open_ absent => ?_,
      fun open_ present => ⟨?_, ?_⟩⟩
    all_goals replace served := served.trans (if_neg (by simp [open_]))
    · exact exec_refuses serves (served.trans (if_neg (by simp [(s.subAt_none i b).mpr absent])))
    all_goals replace served := served.trans (if_pos ((s.subAt_isSome i b).mpr present))
    · rintro rfl
      exact exec_does serves served
    · rintro rfl
      exact exec_does serves served
  · refine ⟨fun none => State.mapBook_unheld none _, s.testComplete_eq b, s.mapBook_boundaries b _ s.tested_boundary,
      fun n other => s.testComplete_bookOf_other other, fun k held => ⟨fun complete => ?_, fun incomplete => ?_⟩⟩
    · rw [State.testComplete_bookOf held, State.tested,
        if_pos ((s.isComplete_iff k).mpr (by rwa [(State.bookOf_some held).2]))]
    · rw [State.testComplete_bookOf held, State.tested,
        if_neg (fun whole => incomplete (by rw [← (State.bookOf_some held).2]; exact (s.isComplete_iff k).mp whole))]

end Sys2Proof.Machine
end

section
/-! A feeder's pass from its MARK to its requests (R47, R115 to R121, R130), and the requests on the feeders (R132 to R135). -/

namespace Sys2Proof.Machine

/-! ## Marks (R47, R50) -/

theorem Book.reportMark_boundary (f : Feeder) (b : Book) : (b.reportMark f).boundary = b.boundary := rfl

theorem State.reportMark_eq (s : State) (f : Feeder) (b : Nat) :
    s.reportMark f b = { s with store := { s.store with books := (s.reportMark f b).store.books } } := rfl

theorem State.reportMark_bookOf {s : State} {f : Feeder} {b : Nat} {k : Book} (held : s.bookOf b = some k) :
    (s.reportMark f b).bookOf b = some ((s.mapBook b fun b => b.reportMark f).tested (k.reportMark f)) :=
  State.testComplete_bookOf (State.mapBook_bookOf_same held _ (Book.reportMark_boundary f))

theorem State.reportMark_bookOf_other (s : State) (f : Feeder) {b n : Nat} (other : n ≠ b) :
    (s.reportMark f b).bookOf n = s.bookOf n :=
  (State.testComplete_bookOf_other _ other).trans (State.mapBook_bookOf_other s _ (Book.reportMark_boundary f) other)

@[simp] theorem State.reportMark_engine (s : State) (f g : Feeder) (b : Nat) : (s.reportMark f b).engine g = s.engine g := by
  cases g <;> rfl

/-! ## Items (R118) -/

theorem State.itemStands_iff (s : State) (f : Feeder) (it : SnapItem) :
    s.itemStands f it = true ↔
      (∃ k, s.bookOf it.boundary = some k ∧ k.state = .opened ∧ k.entries[it.slot] = .pending) ∧
        (∀ e ∈ s.store.subs, ¬(e.enabled = true ∧ e.boundary = it.boundary ∧ e.slot = it.slot)) ∧
        (s.household it.slot).member ≠ .vacant ∧
        ∃ c, (s.household it.slot).settings = some c ∧ c.feeder = f ∧ c.addr = it.addr := by
  have covers : (!s.covers it.boundary it.slot) = true ↔
      ∀ e ∈ s.store.subs, ¬(e.enabled = true ∧ e.boundary = it.boundary ∧ e.slot = it.slot) := by
    rw [Bool.not_eq_true', ← Bool.not_eq_true, s.covers_iff]
    simp
  unfold State.itemStands
  rw [Bool.and_eq_true, Bool.and_eq_true, covers, s.boundTo_iff, and_assoc]
  refine and_congr_left fun _ => ?_
  cases s.bookOf it.boundary <;> simp [Book.isOpen, Book.pendingAt]

theorem State.itemStands_congr {s t : State} (store : t.store = s.store) (table : t.table = s.table) (f : Feeder)
    (it : SnapItem) : t.itemStands f it = s.itemStands f it := by
  unfold State.itemStands State.bookOf State.covers State.boundTo State.household
  rw [store, table]

/-! ## Dropping -/

theorem dropWhile_until {α : Type} {p : α → Bool} {skipped rest : List α} {a : α} (skips : ∀ k ∈ skipped, p k = true)
    (stays : p a = false) : (skipped ++ a :: rest).dropWhile p = a :: rest := by
  rw [List.dropWhile_append_of_pos skips, List.dropWhile_cons_of_neg (by simp [stays])]

/-! ## The next work of a pass (R117, R118, R130) -/

theorem State.withEngine_twice (s : State) (f : Feeder) (d e : Engine) : (s.withEngine f d).withEngine f e = s.withEngine f e := by
  cases f <;> rfl

section
variable {s : State} {f : Feeder} {p : Pass}

theorem State.nextSnapshot_asks {skipped rest : List SnapItem} {it : SnapItem} (items : p.plan.items = skipped ++ it :: rest)
    (skips : ∀ k ∈ skipped, s.itemStands f k = false) (stands : s.itemStands f it = true) :
    s.nextSnapshot f p =
      s.withEngine f { s.engine f with
        pass := some { p with
          plan := { p.plan with items := rest }
          phase := .snapshot ((s.engine f).exchange (.snapshot it.boundary) it.slot it.addr) } } := by
  have live : s.liveItems f p.plan.items = it :: rest := by
    rw [State.liveItems, items]
    exact dropWhile_until (fun k hk => by simp [skips k hk]) (by simp [stands])
  simp only [State.nextSnapshot, live]

theorem State.nextSnapshot_ends (undue : ∀ it ∈ p.plan.items, s.itemStands f it = false) :
    s.nextSnapshot f p = s.withEngine f { s.engine f with pass := none } := by
  have live : s.liveItems f p.plan.items = [] := by
    rw [State.liveItems, List.dropWhile_eq_nil_iff]
    exact fun it member => by simp [undue it member]
  simp only [State.nextSnapshot, live]

theorem State.withdraws_iff (s : State) (q : QueueEntry) :
    s.withdraws q = true ↔ (s.household q.slot).member = .vacant ∨ q.command ≠ (s.household q.slot).wanted := by
  simp [State.withdraws, Household.present]

theorem State.nextSupply_sends {skipped rest : List QueueEntry} {q : QueueEntry}
    (queue : (s.engine f).queue = skipped ++ q :: rest) (skips : ∀ k ∈ skipped, s.withdraws k = true)
    (stands : s.withdraws q = false) :
    s.nextSupply f p =
      s.withEngine f { s.engine f with
        queue := rest
        pass := some { p with
          phase := .supply ((s.engine f).exchange (.supply q.command) q.slot (s.addressOf q.slot)) } } := by
  have live : s.liveQueue (s.engine f).queue = q :: rest := by
    rw [State.liveQueue, queue]
    exact dropWhile_until skips stands
  simp only [State.nextSupply, live]

theorem State.nextSupply_empty (none : ∀ k ∈ (s.engine f).queue, s.withdraws k = true) :
    s.nextSupply f p = (s.withEngine f { s.engine f with queue := [] }).nextSnapshot f p := by
  have live : s.liveQueue (s.engine f).queue = [] := List.dropWhile_eq_nil_iff.mpr none
  simp only [State.nextSupply, live]

theorem State.addressOf_some {i : Slot} {c : Settings} (held : (s.household i).settings = some c) : s.addressOf i = c.addr := by
  simp [State.addressOf, held]

end

/-! ## Ends of frames (R116, R119 to R121) -/

section
variable {s : State} {f : Feeder} {p : Pass}

theorem State.afterWork_abandons {plan : PassPlan} (next : (s.engine f).next = some plan) (goOn : State → Pass → State) :
    s.afterWork f p goOn =
      s.withEngine f { s.engine f with pass := some { plan := plan, phase := .mark, stopping := false }, next := none } := by
  rw [State.afterWork, next]
  rfl

theorem State.afterWork_stops (next : (s.engine f).next = none) (stopping : p.stopping = true) (goOn : State → Pass → State) :
    s.afterWork f p goOn = s.withEngine f { s.engine f with pass := none } := by
  rw [State.afterWork, next]
  exact if_pos stopping

theorem State.afterWork_goesOn (next : (s.engine f).next = none) (stopping : p.stopping = false)
    (goOn : State → Pass → State) : s.afterWork f p goOn = goOn s p := by
  rw [State.afterWork, next]
  exact if_neg (by simp [stopping])

theorem exec_markSent (running : s.power.phase = .running) (pass : (s.engine f).pass = some p) (mark : p.phase = .mark) :
    exec (.markSent f) s =
      .next ((s.reportMark f p.plan.boundary).afterWork f p fun s p =>
        s.withEngine f { s.engine f with pass := some { p with phase := .guard } }) := by
  rw [exec_running rfl running]
  simp only [State.markSent, pass, mark]

theorem exec_guardEnd (running : s.power.phase = .running) (pass : (s.engine f).pass = some p) (guard : p.phase = .guard) :
    exec (.guardEnd f) s = .next (s.nextSupply f p) := by
  rw [exec_running rfl running]
  simp only [State.guardEnd, pass, guard]

theorem exec_requestSent {x : Exchange} (running : s.power.phase = .running) (flies : (s.engine f).inFlight = some (p, x))
    (sends : x.stage.sends = true) :
    exec (.requestSent f) s =
      .next (s.withEngine f { s.engine f with pass := some (p.withExchange { x with stage := .waiting }) }) := by
  rw [exec_running rfl running]
  simp only [State.requestSent, flies, sends, if_true]

end

/-- Settles O38. -/
theorem passesGoFromMarkToRequests : Obligations.PassesGoFromMarkToRequests := by
  refine ⟨fun s f b => ⟨fun none => ?_, s.reportMark_eq f b, ?_, fun n other => s.reportMark_bookOf_other f other,
      fun k held => ⟨fun complete => ?_, fun incomplete => ?_⟩⟩, State.itemStands_iff, Engine.inFlight_iff,
    fun p x y => ⟨fun phase => ?_, fun phase => ?_⟩,
    fun s f p running pass mark => ⟨fun plan next => ?_, fun next => ⟨fun stopping => ?_, fun steady => ?_⟩⟩,
    fun s f p running pass guard => ⟨fun skipped q rest queue skips wanted => ?_, fun unwanted =>
      ⟨fun skipped it rest items skips stands => ?_, fun undue => ?_⟩⟩,
    fun s f p x running flies sending => exec_requestSent running flies (by rw [sending]; rfl)⟩
  · rw [State.reportMark, State.mapBook_unheld none]
    exact State.mapBook_unheld none _
  · exact (State.mapBook_boundaries _ b _ (State.tested_boundary _)).trans
      (s.mapBook_boundaries b _ (Book.reportMark_boundary f))
  · rw [State.reportMark_bookOf held, State.tested, if_pos]
    · rfl
    · obtain ⟨opened, marked, covered⟩ := complete
      refine (State.isComplete_iff _ _).mpr ⟨opened, marked, ?_⟩
      rw [Book.reportMark_boundary, (State.bookOf_some held).2]
      exact covered
  · rw [State.reportMark_bookOf held, State.tested, if_neg]
    · rfl
    · intro whole
      obtain ⟨opened, marked, covered⟩ := (State.isComplete_iff _ _).mp whole
      rw [Book.reportMark_boundary, (State.bookOf_some held).2] at covered
      exact incomplete ⟨opened, marked, covered⟩
  · simp [Pass.withExchange, Pass.mapExchange, phase]
  · simp [Pass.withExchange, Pass.mapExchange, phase]
  · rw [exec_markSent running pass mark, State.afterWork_abandons (by rw [State.reportMark_engine]; exact next),
      State.reportMark_engine]
  · rw [exec_markSent running pass mark, State.afterWork_stops (by rw [State.reportMark_engine]; exact next) stopping,
      State.reportMark_engine]
  · rw [exec_markSent running pass mark, State.afterWork_goesOn (by rw [State.reportMark_engine]; exact next) steady,
      State.reportMark_engine]
  · refine ⟨s.addressOf q.slot, ?_, fun c held => State.addressOf_some held⟩
    rw [exec_guardEnd running pass guard, State.nextSupply_sends queue (fun k hk => (s.withdraws_iff k).mpr (skips k hk))
      (Bool.eq_false_iff.mpr (mt (s.withdraws_iff q).mp wanted))]
    rfl
  · have stood (it : SnapItem) : (s.withEngine f { s.engine f with queue := [] }).itemStands f it = s.itemStands f it :=
      State.itemStands_congr (State.withEngine_store ..) (State.withEngine_table ..) f it
    rw [exec_guardEnd running pass guard, State.nextSupply_empty fun k hk => (s.withdraws_iff k).mpr (unwanted k hk),
      State.nextSnapshot_asks items (fun k hk => (stood k).trans (skips k hk)) ((stood it).trans stands),
      State.withEngine_twice, State.withEngine_engine]
    rfl
  · have stood (it : SnapItem) : (s.withEngine f { s.engine f with queue := [] }).itemStands f it = s.itemStands f it :=
      State.itemStands_congr (State.withEngine_store ..) (State.withEngine_table ..) f it
    rw [exec_guardEnd running pass guard, State.nextSupply_empty fun k hk => (s.withdraws_iff k).mpr (unwanted k hk),
      State.nextSnapshot_ends fun it hit => (stood it).trans (undue it hit), State.withEngine_twice,
      State.withEngine_engine]

/-! ## The requests on a feeder (R132 to R135) -/

@[simp] theorem feederOf_feederKw (f : Feeder) : feederOf (.kw (feederKw f)) = some f := (feederOf_iff _ f).mpr rfl

/-- Settles O41. -/
theorem feederRequestsReportAndSet : Obligations.FeederRequestsReportAndSet := by
  refine ⟨fun s f serves commissioned => ⟨rfl, exec_answers serves ?_⟩, fun s serves commissioned => exec_answers serves ?_,
    fun s f serves commissioned => exec_answers serves ?_,
    fun s f commissioned => ⟨fun serves => exec_does serves ?_, fun serves => exec_does serves ?_⟩, ?_⟩
  · cases f <;> simp only [serveRequest, serveFeeder, feederKw, feederOf, State.ifCommissioned_of commissioned] <;> rfl
  · simp only [serveRequest, serveFeeder, State.ifCommissioned_of commissioned]
    rfl
  · have lines : (s.engine f).queue.map QueueEntry.line =
        (s.engine f).queue.map fun e : QueueEntry =>
          [.num (slotNumber e.slot), .kw (if e.command = .opened then .OPEN else .CLOSE)] := by
      refine List.map_congr_left fun e _ => ?_
      unfold QueueEntry.line
      cases e.command <;> rfl
    simp only [serveRequest, serveFeeder, feederOf_feederKw, State.ifCommissioned_of commissioned, lines]
    rfl
  · simp only [serveRequest, serveFdrforce, feederOf_feederKw, onOffOf, State.ifCommissioned_of commissioned]
    rfl
  · simp only [serveRequest, serveFdrforce, feederOf_feederKw, onOffOf, State.ifCommissioned_of commissioned]
    rfl
  · rintro s f timeout retries args rfl serves commissioned good
    have served : serveRequest .FDRTIMING [.kw (feederKw f), .num timeout, .num retries] s =
        if 20 ≤ timeout ∧ timeout ≤ 2000 ∧ retries ≤ 3 then
          .done (s.withEngine f { s.engine f with timeout := timeout, retries := retries }) (okLine [])
        else refuse .RANGE := by
      simp only [serveRequest, serveFdrtiming, feederOf_feederKw, State.ifWritable_of commissioned good, natIn_of_natural,
        Config.minTimeout, Config.maxTimeout, Config.maxRetries, Nat.zero_le, true_and]
      by_cases first : 20 ≤ timeout ∧ timeout ≤ 2000 <;> by_cases second : retries ≤ 3 <;>
        simp [first, second, ← and_assoc]
    exact ⟨fun fits => exec_does serves (served.trans (if_pos fits)),
      fun out => exec_refuses serves (served.trans (if_neg out))⟩

end Sys2Proof.Machine
end

section
/-! How a feeder's exchanges end (R114, R119 to R126, R130, R131): a try that runs out, and the frames that are received. -/

namespace Sys2Proof.Machine

/-! ## The next work does not depend on the exchange that ended -/

section
variable (s : State) (f : Feeder)

/-- A feeder's engine with another pass in flight. -/
def State.repass (a : Option Pass) : State := s.withEngine f { s.engine f with pass := a }

/-- Two passes that differ in their exchange alone. -/
structure Pass.Alike (p q : Pass) : Prop where
  plan : q.plan = p.plan
  stopping : q.stopping = p.stopping

theorem State.repass_itemStands (a : Option Pass) (it : SnapItem) : (s.repass f a).itemStands f it = s.itemStands f it :=
  State.itemStands_congr (State.withEngine_store ..) (State.withEngine_table ..) f it

theorem State.repass_engine (a : Option Pass) : (s.repass f a).engine f = { s.engine f with pass := a } :=
  State.withEngine_engine ..

theorem State.withEngine_repass (a : Option Pass) (e : Engine) : (s.repass f a).withEngine f e = s.withEngine f e :=
  State.withEngine_twice ..

theorem State.nextSnapshot_alike (a : Option Pass) {p q : Pass} (alike : p.Alike q) :
    (s.repass f a).nextSnapshot f q = s.nextSnapshot f p := by
  have live : (s.repass f a).liveItems f q.plan.items = s.liveItems f p.plan.items := by
    unfold State.liveItems
    simp only [State.repass_itemStands, alike.plan]
  unfold State.nextSnapshot
  simp only [live]
  cases s.liveItems f p.plan.items with
  | nil => simp only [State.withEngine_repass, State.repass_engine]
  | cons it rest =>
    simp only [State.withEngine_repass, State.repass_engine, alike.plan, alike.stopping]
    rfl

theorem State.nextSupply_alike (a : Option Pass) {p q : Pass} (alike : p.Alike q) :
    (s.repass f a).nextSupply f q = s.nextSupply f p := by
  have live : (s.repass f a).liveQueue ((s.repass f a).engine f).queue = s.liveQueue (s.engine f).queue := by
    rw [State.repass_engine]
    unfold State.liveQueue State.withdraws State.household State.repass
    rw [State.withEngine_table]
  unfold State.nextSupply
  simp only [live]
  cases s.liveQueue (s.engine f).queue with
  | nil =>
    have emptied : (s.repass f a).withEngine f { (s.repass f a).engine f with queue := [] } =
        (s.withEngine f { s.engine f with queue := [] }).repass f a := by
      rw [State.withEngine_repass, State.repass_engine, State.repass, State.withEngine_twice, State.withEngine_engine]
    rw [emptied, State.nextSnapshot_alike _ _ _ alike]
  | cons k rest =>
    have address : (s.repass f a).addressOf k.slot = s.addressOf k.slot := by
      unfold State.addressOf State.household State.repass
      rw [State.withEngine_table]
    simp only [State.withEngine_repass, State.repass_engine, alike.plan, alike.stopping, address]
    rfl

end

/-- After an exchange of the supply section the pass goes on as at the end of its guard wait (R117). -/
theorem State.afterExchange_supply {s : State} {f : Feeder} {p : Pass} {x : Exchange} (next : (s.engine f).next = none)
    (steady : p.stopping = false) (phase : p.phase = .supply x) : s.afterExchange f p = s.nextSupply f p := by
  rw [State.afterExchange, State.afterWork_goesOn next steady, phase]

/-- After any other the pass goes on with its snapshots (R118). -/
theorem State.afterExchange_snapshot {s : State} {f : Feeder} {p : Pass} (next : (s.engine f).next = none)
    (steady : p.stopping = false) (phase : ¬∃ x, p.phase = .supply x) : s.afterExchange f p = s.nextSnapshot f p := by
  rw [State.afterExchange, State.afterWork_goesOn next steady]
  cases held : p.phase with
  | supply x => exact absurd ⟨x, held⟩ phase
  | _ => rfl

section
variable (s : State) (f : Feeder)

/-- An exchange ends the same way whatever stage its last try was in (R117 to R120). -/
theorem State.afterExchange_alike (a : Option Pass) {p q : Pass} (alike : p.Alike q)
    (supply : (∃ x, q.phase = .supply x) ↔ ∃ x, p.phase = .supply x) :
    (s.repass f a).afterExchange f q = s.afterExchange f p := by
  have next : ((s.repass f a).engine f).next = (s.engine f).next := by rw [State.repass_engine]
  cases waits : (s.engine f).next with
  | some plan =>
    unfold State.afterExchange
    rw [State.afterWork_abandons waits, State.afterWork_abandons (next.trans waits), State.withEngine_repass,
      State.repass_engine]
  | none =>
    cases stops : p.stopping with
    | true =>
      unfold State.afterExchange
      rw [State.afterWork_stops waits stops, State.afterWork_stops (next.trans waits) (alike.stopping.trans stops),
        State.withEngine_repass, State.repass_engine]
    | false =>
      by_cases commands : ∃ x, p.phase = .supply x
      · obtain ⟨y, hy⟩ := supply.mpr commands
        obtain ⟨x, hx⟩ := commands
        rw [State.afterExchange_supply waits stops hx,
          State.afterExchange_supply (next.trans waits) (alike.stopping.trans stops) hy]
        exact State.nextSupply_alike s f a alike
      · rw [State.afterExchange_snapshot waits stops commands,
          State.afterExchange_snapshot (next.trans waits) (alike.stopping.trans stops) (mt supply.mp commands)]
        exact State.nextSnapshot_alike s f a alike

end

/-! ## What the next work changes -/

section
variable (s : State) (f : Feeder) (p : Pass)

theorem State.nextSnapshot_engine : ∃ pass, s.nextSnapshot f p = s.withEngine f { s.engine f with pass := pass } := by
  unfold State.nextSnapshot
  split
  · exact ⟨_, rfl⟩
  · exact ⟨_, rfl⟩

theorem State.nextSupply_engine :
    ∃ queue pass, s.nextSupply f p = s.withEngine f { s.engine f with queue := queue, pass := pass } := by
  unfold State.nextSupply
  dsimp only
  split
  · exact ⟨_, _, rfl⟩
  · obtain ⟨pass, same⟩ := (s.withEngine f { s.engine f with queue := [] }).nextSnapshot_engine f p
    rw [same, State.withEngine_twice, State.withEngine_engine]
    exact ⟨[], pass, rfl⟩

/-- After an exchange the queue, the pass and the one that waits are all that has changed. -/
theorem State.afterExchange_engine :
    ∃ queue pass next, s.afterExchange f p =
      s.withEngine f { s.engine f with queue := queue, pass := pass, next := next } := by
  unfold State.afterExchange
  cases waits : (s.engine f).next with
  | some plan => exact ⟨_, _, _, State.afterWork_abandons waits _⟩
  | none =>
    cases stops : p.stopping with
    | true => exact ⟨_, _, none, (State.afterWork_stops waits stops _).trans (by rw [← waits])⟩
    | false =>
      rw [State.afterWork_goesOn waits stops]
      split
      · obtain ⟨queue, pass, same⟩ := s.nextSupply_engine f p
        exact ⟨queue, pass, (s.engine f).next, same⟩
      · obtain ⟨pass, same⟩ := s.nextSnapshot_engine f p
        exact ⟨(s.engine f).queue, pass, (s.engine f).next, same⟩

end

/-! ## A failed exchange (R121, R125, R131) -/

/-- The counts of an engine after a failed exchange. -/
theorem Engine.countFailure_eq (e : Engine) :
    e.countFailure =
      { e with
        failed := min (e.failed + 1) 65535, fails := min (e.fails + 1) 255
        link := if e.link = .up ∧ e.fails + 1 = 6 then .down else e.link } := by
  unfold Engine.countFailure Engine.goesDown
  simp only [Bool.and_eq_true, decide_eq_true_eq]
  rfl

theorem Engine.goesDown_iff (e : Engine) : e.goesDown = true ↔ e.link = .up ∧ e.fails + 1 = 6 := by
  simp only [Engine.goesDown, Bool.and_eq_true, decide_eq_true_eq]
  rfl

/-- The part of a failed exchange that comes before the next work: the counts, the notice, relay confirmed. -/
def State.countFailed (s : State) (f : Feeder) (x : Exchange) : State :=
  let t := s.withEngine f (s.engine f).countFailure
  let t := if (s.engine f).goesDown then t.notify (feederNotice f) else t
  match x.ask with
  | .supply _ => if x.vacated then t else t.confirm x.slot none
  | .snapshot _ => t

theorem State.failExchange_eq (s : State) (f : Feeder) (p : Pass) (x : Exchange) :
    s.failExchange f p x =
      (s.countFailed f x).afterExchange f { p with stopping := p.stopping || ((s.countFailed f x).engine f).link = .down } := rfl

theorem State.confirm_cases (s : State) (i : Slot) (r : Option Relay) :
    s.confirm i r = if s.supply.warning = false then s.withHousehold i { s.household i with confirmed := r } else s := by
  unfold State.confirm
  cases s.supply.warning <;> rfl

@[simp] theorem State.confirm_engine (s : State) (i : Slot) (r : Option Relay) (f : Feeder) :
    (s.confirm i r).engine f = s.engine f := by
  unfold State.confirm
  split <;> cases f <;> rfl

theorem State.countFailed_engine (s : State) (f : Feeder) (x : Exchange) :
    (s.countFailed f x).engine f = (s.engine f).countFailure := by
  unfold State.countFailed
  dsimp only
  have told : (if (s.engine f).goesDown then (s.withEngine f (s.engine f).countFailure).notify (feederNotice f)
      else s.withEngine f (s.engine f).countFailure).engine f = (s.engine f).countFailure := by
    split
    · rw [State.notify_engine, State.withEngine_engine]
    · rw [State.withEngine_engine]
  split
  · split
    · exact told
    · rw [State.confirm_engine]
      exact told
  · exact told

/-! ## A try that is over -/

/-- The exchange in flight put into another stage. -/
def Exchange.atStage (x : Exchange) (g : TryStage) : Exchange := { x with stage := g }

theorem Pass.withExchange_phase {p : Pass} {x : Exchange} (h : p.phase = .supply x ∨ p.phase = .snapshot x) (y : Exchange) :
    p.withExchange y = { p with phase := .supply y } ∧ p.phase = .supply x ∨
      p.withExchange y = { p with phase := .snapshot y } ∧ p.phase = .snapshot x := by
  rcases h with h | h <;> simp [Pass.withExchange, Pass.mapExchange, h]

theorem Pass.withExchange_twice (p : Pass) (x y : Exchange) : (p.withExchange x).withExchange y = p.withExchange y := by
  unfold Pass.withExchange Pass.mapExchange
  cases phase : p.phase <;> simp [phase]

/-- A pass with its exchange replaced goes on alike. -/
theorem Pass.withExchange_alike (p : Pass) (y : Exchange) (b : Bool) :
    Pass.Alike { p with stopping := b } { p.withExchange y with stopping := b } := by
  unfold Pass.withExchange Pass.mapExchange
  cases p.phase <;> exact ⟨rfl, rfl⟩

theorem Pass.withExchange_supply (p : Pass) (y : Exchange) :
    (∃ x, (p.withExchange y).phase = .supply x) ↔ ∃ x, p.phase = .supply x := by
  unfold Pass.withExchange Pass.mapExchange
  cases phase : p.phase <;> simp [phase]

theorem Pass.withExchange_stopping (p : Pass) (y : Exchange) : (p.withExchange y).stopping = p.stopping := by
  unfold Pass.withExchange Pass.mapExchange
  cases p.phase <;> rfl

theorem State.repass_countFailed (s : State) (f : Feeder) (x : Exchange) (g : TryStage) (a : Option Pass) :
    (s.repass f a).countFailed f (x.atStage g) = (s.countFailed f x).repass f a := by
  have counted : ((s.repass f a).engine f).countFailure = { (s.engine f).countFailure with pass := a } := by
    rw [State.repass_engine]
    rfl
  have down : ((s.repass f a).engine f).goesDown = (s.engine f).goesDown := by
    rw [State.repass_engine]
    rfl
  have told (t : State) (n : Notice) (e : Engine) : (t.withEngine f { e with pass := a }).notify n =
      ((t.withEngine f e).notify n).repass f a := by cases f <;> rfl
  have untold (t : State) (e : Engine) : t.withEngine f { e with pass := a } = (t.withEngine f e).repass f a := by
    cases f <;> rfl
  have first : (if ((s.repass f a).engine f).goesDown then
        ((s.repass f a).withEngine f ((s.repass f a).engine f).countFailure).notify (feederNotice f)
      else (s.repass f a).withEngine f ((s.repass f a).engine f).countFailure) =
      (if (s.engine f).goesDown then (s.withEngine f (s.engine f).countFailure).notify (feederNotice f)
        else s.withEngine f (s.engine f).countFailure).repass f a := by
    rw [down, counted, State.withEngine_repass]
    split
    · exact told _ _ _
    · exact untold _ _
  have confirmed (t : State) (i : Slot) : (t.repass f a).confirm i none = (t.confirm i none).repass f a := by
    unfold State.confirm State.repass
    rw [State.withEngine_supply]
    split
    · rfl
    · cases f <;> rfl
  unfold State.countFailed
  dsimp only [Exchange.atStage]
  rw [first]
  cases x.ask with
  | supply r =>
    by_cases vacated : x.vacated = true
    · simp only [vacated, if_true]
    · simp only [vacated, if_false, Bool.false_eq_true]
      exact confirmed _ _
  | snapshot b => rfl

/-- A try that is over is over the same way in whatever stage (R121). -/
theorem State.tryOver_repass (s : State) (f : Feeder) (p : Pass) (x : Exchange) (g : TryStage) :
    (s.repass f (some (p.withExchange (x.atStage g)))).tryOver f (p.withExchange (x.atStage g)) (x.atStage g) =
      s.tryOver f p x := by
  have withdraws : (s.repass f (some (p.withExchange (x.atStage g)))).withdrawsNow (x.atStage g) = s.withdrawsNow x := by
    unfold State.withdrawsNow State.household State.repass
    rw [State.withEngine_table]
    rfl
  unfold State.tryOver
  rw [withdraws]
  change (if x.triesLeft = 0 then _ else _) = _
  split
  · rw [State.failExchange_eq, State.failExchange_eq, State.repass_countFailed]
    have link : (((s.countFailed f x).repass f (some (p.withExchange (x.atStage g)))).engine f).link =
        ((s.countFailed f x).engine f).link := by rw [State.repass_engine]
    rw [link, Pass.withExchange_stopping]
    exact State.afterExchange_alike _ f _ (p.withExchange_alike _ _) (p.withExchange_supply _)
  · split
    · rw [State.repass_engine, Pass.withExchange_stopping]
      exact State.afterExchange_alike s f _ (p.withExchange_alike _ _) (p.withExchange_supply _)
    · rw [State.withEngine_repass, State.repass_engine, Pass.withExchange_twice]
      rfl

theorem exec_responseTimeout {s : State} {f : Feeder} {p : Pass} {x : Exchange} (running : s.power.phase = .running)
    (flies : (s.engine f).inFlight = some (p, x)) (waiting : x.stage = .waiting) (receiving : Bool) :
    exec (.responseTimeout f receiving) s =
      .next (if receiving then s.repass f (some (p.withExchange (x.atStage .overrun))) else s.tryOver f p x) := by
  rw [exec_running rfl running]
  simp only [State.responseTimeout, flies, waiting]
  rfl

theorem State.withdrawsNow_iff (s : State) (x : Exchange) :
    s.withdrawsNow x = true ↔ ∃ r, x.ask = .supply r ∧ (x.vacated = true ∨ r ≠ (s.household x.slot).wanted) := by
  unfold State.withdrawsNow
  cases x.ask <;> simp

/-! ## Statements about a failed exchange -/

section
variable (s : State) (f : Feeder) (x : Exchange)

/-- The state of a failed exchange before relay confirmed is written. -/
def State.toldFailed : State :=
  if (s.engine f).goesDown then (s.withEngine f (s.engine f).countFailure).notify (feederNotice f)
  else s.withEngine f (s.engine f).countFailure

theorem State.toldFailed_household (j : Slot) : (s.toldFailed f).household j = s.household j := by
  unfold State.toldFailed
  split
  · rw [State.notify_household, State.household_withEngine]
  · rw [State.household_withEngine]

theorem State.toldFailed_supply : (s.toldFailed f).supply = s.supply := by
  unfold State.toldFailed
  split
  · rw [State.notify_supply, State.withEngine_supply]
  · rw [State.withEngine_supply]

/-- A supply exchange of a household that is still there, not in WARNING, makes relay confirmed UNKNOWN (R120, R131). -/
def State.unconfirms : Prop := (∃ r, x.ask = .supply r) ∧ x.vacated = false ∧ s.supply.warning = false

theorem State.countFailed_unconfirms (h : s.unconfirms x) :
    s.countFailed f x = (s.toldFailed f).withHousehold x.slot { s.household x.slot with confirmed := none } := by
  obtain ⟨⟨r, ask⟩, present, good⟩ := h
  have counted : s.countFailed f x = (s.toldFailed f).confirm x.slot none := by
    simp [State.countFailed, ask, present, State.toldFailed]
  rw [counted, State.confirm_cases, s.toldFailed_supply, if_pos good, s.toldFailed_household]

theorem State.countFailed_keeps (h : ¬s.unconfirms x) : s.countFailed f x = s.toldFailed f := by
  cases ask : x.ask with
  | snapshot b => simp [State.countFailed, ask, State.toldFailed]
  | supply r =>
    cases vacated : x.vacated with
    | true => simp [State.countFailed, ask, vacated, State.toldFailed]
    | false =>
      have counted : s.countFailed f x = (s.toldFailed f).confirm x.slot none := by
        simp [State.countFailed, ask, vacated, State.toldFailed]
      rw [counted, State.confirm_cases, s.toldFailed_supply, if_neg fun good => h ⟨⟨r, ask⟩, vacated, good⟩]

theorem State.countFailed_notices : (s.countFailed f x).notices = (s.toldFailed f).notices := by
  by_cases h : s.unconfirms x
  · rw [s.countFailed_unconfirms f x h, State.withHousehold_notices]
  · rw [s.countFailed_keeps f x h]

theorem State.countFailed_store : (s.countFailed f x).store = s.store := by
  have told : (s.toldFailed f).store = s.store := by
    unfold State.toldFailed
    split
    · rw [State.notify_store, State.withEngine_store]
    · rw [State.withEngine_store]
  by_cases h : s.unconfirms x
  · rw [s.countFailed_unconfirms f x h, State.withHousehold_store, told]
  · rw [s.countFailed_keeps f x h, told]

end

/-- Settles O39. -/
theorem responseTimeoutRetriesThenFails : Obligations.ResponseTimeoutRetriesThenFails := by
  refine ⟨fun s f p x running flies waiting => ?_, fun s f p x running flies resending =>
    exec_requestSent running flies (by rw [resending]; rfl), fun s f p running => ?_⟩
  · intro e counted told unconfirmed
    have engine : (s.countFailed f x).engine f = counted := (s.countFailed_engine f x).trans (Engine.countFailure_eq _)
    have toldEq : s.toldFailed f = told := by
      simp only [State.toldFailed, Engine.goesDown_iff, Engine.countFailure_eq]
      rfl
    have before : s.countFailed f x = unconfirmed := by
      cases ask : x.ask with
      | snapshot b =>
        have kept : unconfirmed = told := by simp only [unconfirmed, ask]
        rw [s.countFailed_keeps f x (by rintro ⟨⟨r, supply⟩, -⟩; rw [ask] at supply; cases supply), toldEq, kept]
      | supply r =>
        have written : unconfirmed = if x.vacated = false ∧ s.supply.warning = false then
            told.withHousehold x.slot { s.household x.slot with confirmed := none } else told := by
          simp only [unconfirmed, ask]
        rw [written, ← toldEq]
        split
        next h => exact s.countFailed_unconfirms f x ⟨⟨r, ask⟩, h⟩
        next h => exact s.countFailed_keeps f x fun both => h both.2
    have ends : exec (.responseTimeout f false) s = .next (s.tryOver f p x) :=
      exec_responseTimeout running flies waiting false
    have withdrawn (tries : x.triesLeft ≠ 0) (withdraws : s.withdrawsNow x = true) :
        s.tryOver f p x = s.afterExchange f { p with stopping := p.stopping || e.link = .down } := by
      rw [State.tryOver, if_neg tries, if_pos withdraws]
    have failed (tries : x.triesLeft = 0) : s.tryOver f p x =
        unconfirmed.afterExchange f { p with stopping := p.stopping || counted.link = .down } := by
      rw [State.tryOver, if_pos tries, State.failExchange_eq, engine, before]
    refine ⟨s.withdrawsNow_iff x, exec_responseTimeout running flies waiting true, fun tries stays => ?_,
      fun tries withdraws => ?_, fun tries => ?_, fun tries withdraws => ?_, fun tries => ?_⟩
    · rw [ends, State.tryOver, if_neg tries, if_neg (by simp [stays])]
    · obtain ⟨queue, pass, next, same⟩ := s.afterExchange_engine f { p with stopping := p.stopping || e.link = .down }
      refine ⟨_, ends, ?_⟩
      rw [withdrawn tries withdraws, same]
      simp only [State.withEngine_engine, State.withEngine_table, State.withEngine_notices]
      exact ⟨trivial, trivial, rfl, rfl, rfl, rfl⟩
    · obtain ⟨queue, pass, next, same⟩ := unconfirmed.afterExchange_engine f
        { p with stopping := p.stopping || counted.link = .down }
      refine ⟨_, ends, ?_⟩
      rw [failed tries, same]
      rw [before] at engine
      have notices : unconfirmed.notices = told.notices := by rw [← before, ← toldEq]; exact s.countFailed_notices f x
      simp only [State.withEngine_engine, State.withEngine_notices, State.withEngine_store, State.household_withEngine, engine,
        notices]
      refine ⟨rfl, rfl, rfl, rfl, fun down => ?_, fun stays => ?_, fun j => ?_, ?_⟩
      · have set : told = (s.withEngine f counted).notify (feederNotice f) := if_pos down
        rw [set]
        exact (Raised.notify _ (feederNotice f) (feederNotice f)).flag.mpr (.inr (by simp))
      · have unset : told = s.withEngine f counted := if_neg stays
        rw [unset, State.withEngine_notices]
      · rw [← before]
        by_cases h : s.unconfirms x
        · obtain ⟨supply, present, good⟩ := h
          rw [s.countFailed_unconfirms f x ⟨supply, present, good⟩, State.withHousehold_household, s.toldFailed_household]
          by_cases here : x.slot = j
          · subst here
            exact .inl ⟨if_pos rfl, rfl, supply, present, good⟩
          · exact .inr ⟨if_neg here, fun all => here all.1.symm⟩
        · rw [s.countFailed_keeps f x h, s.toldFailed_household]
          exact .inr ⟨rfl, fun all => h all.2⟩
      · rw [← before]
        exact s.countFailed_store f x
    · rw [ends, withdrawn tries withdraws]
    · rw [ends, failed tries]
  · refine ⟨s.afterExchange_engine f p, fun plan next => State.afterWork_abandons next _,
      fun next stopping => State.afterWork_stops next stopping _, fun next steady => ⟨fun x phase => ?_, fun x phase => ?_⟩⟩
    · rw [exec_guardEnd (p := { p with phase := .guard }) (by rw [State.withEngine_power]; exact running)
        (by rw [State.withEngine_engine]) rfl, State.afterExchange_supply next steady phase]
      exact congrArg _ (State.nextSupply_alike s f _ ⟨rfl, rfl⟩)
    · have snapshots := State.afterExchange_snapshot next steady (by simp [phase])
      rw [snapshots]
      exact ⟨fun skipped it rest items skips stands => State.nextSnapshot_asks items skips stands,
        fun undue => State.nextSnapshot_ends undue⟩

end Sys2Proof.Machine
end

section
/-! The frames that a feeder receives and sends (R112 to R116, R121 to R125, R131). -/

namespace Sys2Proof.Machine

/-! ## Frames received (R114, R122 to R124) -/

section
variable {s : State} {f : Feeder} {driven : Bool} {bytes : List Byte}

theorem exec_feederIdleGap (running : s.power.phase = .running) (heard : driven = false ∨ (s.engine f).frameDue = false) :
    exec (.feederIdleGap { feeder := f, driven := driven }) s = .next ((s.badFrame f).stillWaiting f) := by
  rw [exec_running rfl running]
  refine congrArg _ (if_neg ?_)
  rcases heard with h | h <;> simp [h]

theorem State.receiveFrame_heard (heard : driven = false ∨ (s.engine f).frameDue = false) :
    s.receiveFrame { feeder := f, driven := driven } bytes =
      match hear bytes with
      | .bad => (s.badFrame f).stillWaiting f
      | .stray => (s.stray f).stillWaiting f
      | .reply addr r => s.offerReply f addr r := by
  refine (if_neg ?_).trans ?_
  · rcases heard with h | h <;> simp [h]
  · cases hear bytes <;> rfl

theorem exec_feederFrameReceived (running : s.power.phase = .running)
    (heard : driven = false ∨ (s.engine f).frameDue = false) :
    (hear bytes = .bad →
      exec (.feederFrameReceived { feeder := f, driven := driven } bytes) s = .next ((s.badFrame f).stillWaiting f)) ∧
    (hear bytes = .stray →
      exec (.feederFrameReceived { feeder := f, driven := driven } bytes) s = .next ((s.stray f).stillWaiting f)) ∧
    ∀ a r, hear bytes = .reply a r →
      exec (.feederFrameReceived { feeder := f, driven := driven } bytes) s = .next (s.offerReply f a r) := by
  have received : exec (.feederFrameReceived { feeder := f, driven := driven } bytes) s = .next _ :=
    (exec_running rfl running).trans (congrArg _ (State.receiveFrame_heard heard))
  refine ⟨fun h => ?_, fun h => ?_, fun a r h => ?_⟩ <;> rw [received, h]

theorem exec_feeder_deaf (running : s.power.phase = .running) (drives : driven = true) (due : (s.engine f).frameDue = true) :
    exec (.feederFrameReceived { feeder := f, driven := driven } bytes) s = .next s ∧
      exec (.feederIdleGap { feeder := f, driven := driven }) s = .next s := by
  rw [exec_running rfl running, exec_running rfl running]
  exact ⟨congrArg _ (if_pos (by simp [drives, due])), congrArg _ (if_pos (by simp [drives, due]))⟩

/-- The exchange in flight is the pass's alone. -/
theorem Engine.inFlight_congr {d e : Engine} (pass : e.pass = d.pass) : e.inFlight = d.inFlight := by
  unfold Engine.inFlight
  rw [pass]

theorem State.stillWaiting_of (h : ∀ p x, (s.engine f).inFlight = some (p, x) → x.stage ≠ .overrun) :
    s.stillWaiting f = s := by
  unfold State.stillWaiting
  cases flies : (s.engine f).inFlight with
  | none => rfl
  | some q => exact if_neg (h q.1 q.2 flies)

theorem State.stillWaiting_overrun {p : Pass} {x : Exchange} (flies : (s.engine f).inFlight = some (p, x))
    (overrun : x.stage = .overrun) : s.stillWaiting f = s.tryOver f p x := by
  simp only [State.stillWaiting, flies, overrun, if_true]

theorem State.badFrame_inFlight (s : State) (f : Feeder) : ((s.badFrame f).engine f).inFlight = (s.engine f).inFlight := by
  rw [State.badFrame, State.withEngine_engine]
  exact Engine.inFlight_congr rfl

theorem State.stray_inFlight (s : State) (f : Feeder) : ((s.stray f).engine f).inFlight = (s.engine f).inFlight := by
  rw [State.stray, State.withEngine_engine]
  exact Engine.inFlight_congr rfl

theorem Exchange.takes_iff (x : Exchange) (a : Nat) (r : MeterReply) :
    x.takes a r = true ↔ x.stage ≠ .sending ∧ x.answers a r = true ∧ x.vacated = false := by
  simp [Exchange.takes, and_assoc]

/-- A reply that no exchange takes is a stray (R124). -/
theorem State.offerReply_stray {a : Nat} {r : MeterReply}
    (untaken : ∀ p x, (s.engine f).inFlight = some (p, x) → x.takes a r = false) :
    s.offerReply f a r = (s.stray f).stillWaiting f := by
  unfold State.offerReply
  cases flies : (s.engine f).inFlight with
  | none =>
    refine (State.stillWaiting_of fun p x h => ?_).symm
    rw [State.stray_inFlight, flies] at h
    cases h
  | some q => exact if_neg (by simp [untaken q.1 q.2 flies])

theorem State.offerReply_taken {a : Nat} {r : MeterReply} {p : Pass} {x : Exchange}
    (flies : (s.engine f).inFlight = some (p, x)) (takes : x.takes a r = true) :
    s.offerReply f a r = s.answerExchange f p x r := by
  simp only [State.offerReply, flies, takes, if_true]

end

/-! ## Answers (R121 to R123, R125, R131) -/

theorem Exchange.answers_iff (x : Exchange) (addr : Nat) (r : MeterReply) :
    x.answers addr r = true ↔ x.addr = addr ∧
      ((∃ b, x.ask = .snapshot b ∧
          (r = .notHeld (boundaryTag b) ∨ ∃ snap, r = .snap (boundaryTag b) snap)) ∨
        ∃ command reported, x.ask = .supply command ∧ r = .supplied reported) := by
  unfold Exchange.answers
  cases x.ask <;> cases r <;> simp

/-- What an answered exchange comes to, but for what it delivers and writes (R121, R125). -/
theorem State.answerExchange_eq (s : State) (f : Feeder) (p : Pass) (x : Exchange) (r : MeterReply) :
    s.answerExchange f p x r =
      ((s.withEngine f
        { s.engine f with
          answered := min ((s.engine f).answered + 1) 65535, fails := 0
          link := if (s.engine f).link = .down then .up else (s.engine f).link }).takeAnswer f x r).afterExchange f p := rfl

section
variable (s : State) (f : Feeder) {x : Exchange}

theorem State.takeAnswer_snap {b : Nat} (ask : x.ask = .snapshot b) (tag : Word16) (snap : Snapshot) :
    s.takeAnswer f x (.snap tag snap) = (s.deliver f x b (some snap)).confirm x.slot (some snap.relay) := by
  simp only [State.takeAnswer, ask]

theorem State.takeAnswer_notHeld {b : Nat} (ask : x.ask = .snapshot b) (tag : Word16) :
    s.takeAnswer f x (.notHeld tag) = s.deliver f x b none := by
  simp only [State.takeAnswer, ask]

theorem State.takeAnswer_supplied {command : Relay} (ask : x.ask = .supply command) (reported : Relay) :
    s.takeAnswer f x (.supplied reported) =
      if reported = command then s.confirm x.slot (some reported)
      else (s.confirm x.slot (some reported)).notify .relayUnconfirmed := by
  simp only [State.takeAnswer, ask]

end

/-! ## Frames sent (R112, R115, R121) -/

theorem Engine.frameDue_iff {e : Engine} {p : Pass} (pass : e.pass = some p) : e.frameDue = true ↔ e.frame ≠ none := by
  unfold Engine.frame
  cases due : e.frameDue with
  | false => simp
  | true =>
    rw [pass]
    cases phase : p.phase with
    | guard => simp [Engine.frameDue, pass, phase] at due
    | mark | supply _ | snapshot _ => simp [phase]

theorem Engine.frameDue_exchange {e : Engine} {p : Pass} {x : Exchange} (pass : e.pass = some p)
    (h : p.phase = .supply x ∨ p.phase = .snapshot x) : e.frameDue = x.stage.sends := by
  rcases h with h | h <;> simp only [Engine.frameDue, pass, h]

theorem Engine.frame_exchange {e : Engine} {p : Pass} {x : Exchange} (pass : e.pass = some p)
    (h : p.phase = .supply x ∨ p.phase = .snapshot x) :
    e.frame = if x.stage.sends then some (Engine.frame.exchangeFrame x) else none := by
  have due := Engine.frameDue_exchange pass h
  unfold Engine.frame
  rw [due]
  rcases h with h | h <;> cases x.stage.sends <;> simp [pass, h]

theorem Pass.exchange_some {p : Pass} {x : Exchange} (h : p.exchange = some x) :
    p.phase = .supply x ∨ p.phase = .snapshot x := by
  unfold Pass.exchange at h
  cases phase : p.phase with
  | supply y => rw [phase] at h; cases h; exact .inl rfl
  | snapshot y => rw [phase] at h; cases h; exact .inr rfl
  | _ => rw [phase] at h; cases h

theorem markFrame_eq (b : Nat) (t : DateTime) :
    markFrame b t =
      withCrc ([0, 16] ++ [(BitVec.ofNat 16 b).extractLsb' 8 8, (BitVec.ofNat 16 b).extractLsb' 0 8] ++
        [BitVec.ofNat 8 (t.year - 2000), BitVec.ofNat 8 t.month, BitVec.ofNat 8 t.day, BitVec.ofNat 8 t.hour,
          BitVec.ofNat 8 t.minute, BitVec.ofNat 8 t.second]) := rfl

/-- Settles O40. -/
theorem feederFramesAreJudged : Obligations.FeederFramesAreJudged := by
  refine ⟨fun s f bytes driven running => ?_, fun s f bytes driven p x running flies begun resends present => ?_,
    Exchange.answers_iff, fun e none => ?_, fun e p pass => ?_⟩
  · refine ⟨fun drives due => exec_feeder_deaf running drives due, fun heard => ⟨fun steady => ?_, fun p x flies overrun => ?_⟩⟩
    · obtain ⟨bad, stray, reply⟩ := exec_feederFrameReceived (bytes := bytes) running heard
      have waitsBad : (s.badFrame f).stillWaiting f = s.badFrame f :=
        State.stillWaiting_of fun p x h => steady p x (by rwa [State.badFrame_inFlight] at h)
      have waitsStray : (s.stray f).stillWaiting f = s.stray f :=
        State.stillWaiting_of fun p x h => steady p x (by rwa [State.stray_inFlight] at h)
      rw [waitsBad] at bad
      rw [waitsStray] at stray
      refine ⟨(exec_feederIdleGap running heard).trans (congrArg _ waitsBad), bad, ?_⟩
      rintro (h | ⟨a, r, h, untaken⟩)
      · exact stray h
      · rw [reply a r h, State.offerReply_stray, waitsStray]
        · rfl
        · intro p x flies
          rw [← Bool.not_eq_true, Exchange.takes_iff]
          rintro ⟨begun, answers, present⟩
          rcases untaken p x flies with h | h | h
          · simp [answers] at h
          · simp [present] at h
          · exact begun h
    · obtain ⟨bad, stray, reply⟩ := exec_feederFrameReceived (bytes := bytes) running heard
      have overBad : (s.badFrame f).stillWaiting f = (s.badFrame f).tryOver f p x :=
        State.stillWaiting_overrun ((s.badFrame_inFlight f).trans flies) overrun
      have overStray : (s.stray f).stillWaiting f = (s.stray f).tryOver f p x :=
        State.stillWaiting_overrun ((s.stray_inFlight f).trans flies) overrun
      rw [overBad] at bad
      rw [overStray] at stray
      refine ⟨(exec_feederIdleGap running heard).trans (congrArg _ overBad), bad, ?_, ?_⟩
      · rintro (h | ⟨a, r, h, untaken⟩)
        · exact stray h
        · rw [reply a r h, State.offerReply_stray, overStray]
          · rfl
          · intro q y flies'
            cases flies.symm.trans flies'
            rw [← Bool.not_eq_true, Exchange.takes_iff]
            rintro ⟨-, answers, present⟩
            rcases untaken with h | h
            · simp [answers] at h
            · simp [present] at h
      · obtain ⟨-, phase⟩ := (Engine.inFlight_iff _ _ _).mp flies
        have waits : ((s.repass f (some (p.withExchange (x.atStage .waiting)))).engine f).inFlight =
            some (p.withExchange (x.atStage .waiting), x.atStage .waiting) := by
          rw [State.repass_engine]
          refine (Engine.inFlight_iff _ _ _).mpr ⟨rfl, ?_⟩
          rcases Pass.withExchange_phase phase (x.atStage .waiting) with ⟨same, -⟩ | ⟨same, -⟩
          · exact .inl (by rw [same])
          · exact .inr (by rw [same])
        have ran : (s.repass f (some (p.withExchange (x.atStage .waiting)))).power.phase = .running := by
          rw [State.repass, State.withEngine_power]
          exact running
        exact (exec_responseTimeout ran waits rfl false).trans (congrArg _ (s.tryOver_repass f p x .waiting))
  · intro l e counted delivered confirmed
    obtain ⟨pass, phase⟩ := (Engine.inFlight_iff _ _ _).mp flies
    have heard : driven = false ∨ (s.engine f).frameDue = false := by
      rw [Engine.frameDue_exchange pass phase]
      cases stage : x.stage with
      | sending => exact absurd stage begun
      | resending => exact .inl (resends stage)
      | _ => exact .inr rfl
    obtain ⟨-, -, reply⟩ := exec_feederFrameReceived (bytes := bytes) running heard
    have answered {r : MeterReply} (answers : x.answers x.addr r = true) (h : hear bytes = .reply x.addr r) :
        exec (.feederFrameReceived l bytes) s = .next ((counted.takeAnswer f x r).afterExchange f p) := by
      rw [reply _ r h, State.offerReply_taken flies ((x.takes_iff _ _).mpr ⟨begun, answers, present⟩), State.answerExchange_eq]
    have supply : counted.supply = s.supply := State.withEngine_supply ..
    have store : counted.store = s.store := State.withEngine_store ..
    have household (i : Slot) : counted.household i = s.household i := State.household_withEngine ..
    have deliver (b : Nat) (snap : Option Snapshot) :
        counted.deliver f x b snap = if s.supply.warning then counted else delivered b snap := by
      rw [State.deliver, supply, store]
      rfl
    refine ⟨fun b snap ask h => ?_, fun b ask h => ?_, fun command reported ask h => ?_⟩
    · rw [answered ((x.answers_iff _ _).mpr ⟨rfl, .inl ⟨b, ask, .inr ⟨snap, rfl⟩⟩⟩) h, State.takeAnswer_snap _ _ ask,
        deliver, State.confirm_cases]
      cases warned : s.supply.warning with
      | true => simp only [if_true, supply, warned, Bool.true_eq_false, if_false]
      | false =>
        have kept : (delivered b (some snap)).household x.slot = s.household x.slot := household x.slot
        have good : (delivered b (some snap)).supply.warning = false := by
          change counted.supply.warning = false
          rw [supply, warned]
        simp only [Bool.false_eq_true, if_false, good, if_true, kept]
        rfl
    · rw [answered ((x.answers_iff _ _).mpr ⟨rfl, .inl ⟨b, ask, .inl rfl⟩⟩) h, State.takeAnswer_notHeld _ _ ask, deliver]
    · rw [answered ((x.answers_iff _ _).mpr ⟨rfl, .inr ⟨command, reported, ask, rfl⟩⟩) h, State.takeAnswer_supplied _ _ ask,
        State.confirm_cases, supply, household]
      cases s.supply.warning <;> rfl
  · have quiet : e.frameDue = false := by simp [Engine.frameDue, none]
    exact ⟨quiet, by simp [Engine.frame, quiet]⟩
  · intro word byte t
    refine ⟨Engine.frameDue_iff pass, fun mark => ?_, fun guard => ?_, fun x held => ⟨fun waits => ?_, fun sends => ?_⟩⟩
    · simp only [Engine.frame, Engine.frameDue, pass, mark]
      rfl
    · simp [Engine.frame, Engine.frameDue, pass, guard]
    · rw [Engine.frame_exchange pass (Pass.exchange_some held)]
      rcases waits with h | h <;> rw [h] <;> rfl
    · rw [Engine.frame_exchange pass (Pass.exchange_some held)]
      have due : x.stage.sends = true := by rcases sends with h | h <;> rw [h] <;> rfl
      rw [if_pos due]
      refine ⟨fun b ask => ?_, fun r ask => ?_⟩
      · simp only [Engine.frame.exchangeFrame, ask]
        rfl
      · simp only [Engine.frame.exchangeFrame, ask]
        rfl

end Sys2Proof.Machine
end

section
/-! The CRC and what a received frame is (R112 to R114). -/

namespace Sys2Proof.Machine

/-! ## The CRC (R113) -/

theorem crcBit_eq (reg : Word16) (bit : Bool) :
    crcBit reg bit = if reg.msb = bit then reg <<< 1 else (reg <<< 1) ^^^ 4129 := by
  unfold crcBit
  cases reg.msb <;> cases bit <;> rfl

theorem crc_append (bytes : List Byte) (b : Byte) : crc (bytes ++ [b]) = (byteBits b).foldl crcBit (crc bytes) := by
  simp [crc, List.flatMap_append, List.foldl_append]

theorem withCrc_length (body : List Byte) : (withCrc body).length = body.length + 2 := by
  simp [withCrc, bytes16]

theorem crcGood_withCrc (body : List Byte) : crcGood (withCrc body) = true := by
  have start : (withCrc body).length - 2 = body.length := by rw [withCrc_length, Nat.add_sub_cancel]
  simp only [crcGood, start, decide_eq_true_eq]
  simp only [withCrc, List.drop_left, List.take_left]

theorem crcGood_iff (bytes : List Byte) : crcGood bytes = true ↔ ∃ body, bytes = withCrc body := by
  constructor
  · intro good
    have last := of_decide_eq_true good
    exact ⟨_, (List.take_append_drop (bytes.length - 2) bytes).symm.trans (congrArg _ last)⟩
  · rintro ⟨body, rfl⟩
    exact crcGood_withCrc body

/-! ## Numbers in frames (R112, R138) -/

theorem bigEndian_word16 (w : Word16) : bigEndian [w.extractLsb' 8 8, w.extractLsb' 0 8] = w.toNat := by
  simp only [bigEndian, List.foldl_cons, List.foldl_nil, BitVec.extractLsb'_toNat, Nat.shiftRight_eq_div_pow]
  omega

theorem bigEndian_word32 (w : Word32) :
    bigEndian [w.extractLsb' 24 8, w.extractLsb' 16 8, w.extractLsb' 8 8, w.extractLsb' 0 8] = w.toNat := by
  simp only [bigEndian, List.foldl_cons, List.foldl_nil, BitVec.extractLsb'_toNat, Nat.shiftRight_eq_div_pow]
  omega

/-! ## The body of a reply (R112, R114) -/

theorem statusOf_none_iff (b : Byte) : statusOf b = none ↔ 2 < b.toNat := by
  have values : (b = 0 ∨ b = 1 ∨ b = 2) ↔ b.toNat ≤ 2 := by bv_omega
  unfold statusOf
  split_ifs <;> simp_all

theorem relayByte_none_iff (b : Byte) : relayByte b = none ↔ 1 < b.toNat := by
  have values : (b = 0 ∨ b = 1) ↔ b.toNat ≤ 1 := by bv_omega
  unfold relayByte
  split_ifs <;> simp_all

theorem replyOf_snap_none {bytes : List Byte} (length : bytes.length = 16) :
    replyOf bytes = none ↔
      ∃ st re, bytes[12]? = some st ∧ bytes[13]? = some re ∧ (2 < st.toNat ∨ 1 < re.toNat) := by
  match bytes, length with
  | [_, _, _, _, _, _, _, _, _, _, _, _, st, re, _, _], _ =>
    simp only [List.getElem?_cons_succ, List.getElem?_cons_zero, Option.some.injEq, exists_eq_left', exists_and_left,
      ← statusOf_none_iff, ← relayByte_none_iff]
    cases status : statusOf st <;> cases relay : relayByte re <;> simp [replyOf, status, relay]

theorem replyOf_notHeld {bytes : List Byte} (length : bytes.length = 6) : replyOf bytes ≠ none := by
  match bytes, length with
  | [_, _, _, _, _, _], _ => simp [replyOf]

theorem replyOf_supplied_none {bytes : List Byte} (length : bytes.length = 5) :
    replyOf bytes = none ↔ ∃ re, bytes[2]? = some re ∧ 1 < re.toNat := by
  match bytes, length with
  | [_, _, re, _, _], _ => simp [replyOf, relayByte_none_iff]

/-! ## What a frame is heard as (R114) -/

section
variable {addr kind : Byte} {rest : List Byte}

theorem hear_bad (h : frameLength kind ≠ some (addr :: kind :: rest).length ∨ crcGood (addr :: kind :: rest) = false) :
    hear (addr :: kind :: rest) = .bad := by
  unfold hear
  by_cases length : frameLength kind = some (addr :: kind :: rest).length
  · rw [h.resolve_left (not_not_intro length)]
    simp [length]
  · exact if_pos length

theorem hear_request (length : frameLength kind = some (addr :: kind :: rest).length)
    (good : crcGood (addr :: kind :: rest) = true) (request : kind = 16 ∨ kind = 33 ∨ kind = 49) :
    hear (addr :: kind :: rest) = .stray := by
  unfold hear
  rw [good]
  exact (if_neg (not_not_intro length)).trans (if_pos request)

theorem hear_reply (length : frameLength kind = some (addr :: kind :: rest).length)
    (good : crcGood (addr :: kind :: rest) = true) (request : ¬(kind = 16 ∨ kind = 33 ∨ kind = 49)) :
    hear (addr :: kind :: rest) =
      (replyOf (addr :: kind :: rest)).elim .bad fun r => if addr = 0 then .stray else .reply addr.toNat r := by
  unfold hear
  rw [good]
  refine (if_neg (not_not_intro length)).trans ((if_neg request).trans ?_)
  cases replyOf (addr :: kind :: rest) <;> rfl

/-- A reply's body is unreadable exactly when a status or relay byte is outside its list. -/
theorem replyOf_none_iff (length : frameLength kind = some (addr :: kind :: rest).length)
    (request : ¬(kind = 16 ∨ kind = 33 ∨ kind = 49)) :
    replyOf (addr :: kind :: rest) = none ↔
      (kind = 34 ∧ ∃ st re, (addr :: kind :: rest)[12]? = some st ∧ (addr :: kind :: rest)[13]? = some re ∧
          (2 < st.toNat ∨ 1 < re.toNat)) ∨
        kind = 50 ∧ ∃ re, (addr :: kind :: rest)[2]? = some re ∧ 1 < re.toNat := by
  by_cases snap : kind = 34
  · subst snap
    rw [replyOf_snap_none (Option.some.inj length).symm]
    simp
  · by_cases notHeld : kind = 35
    · subst notHeld
      have readable := replyOf_notHeld (Option.some.inj length).symm
      exact iff_of_false readable (by simp)
    · by_cases supplied : kind = 50
      · subst supplied
        rw [replyOf_supplied_none (Option.some.inj length).symm]
        simp
      · simp only [not_or] at request
        obtain ⟨mark, ask, supply⟩ := request
        have unknown : frameLength kind = none :=
          (if_neg mark).trans <| (if_neg ask).trans <| (if_neg snap).trans <| (if_neg notHeld).trans <|
            (if_neg supply).trans (if_neg supplied)
        rw [unknown] at length
        cases length

/-- A reply of its kind's length, built with its CRC, is heard as what its body says. -/
theorem hear_withCrc {addr kind : Byte} {rest : List Byte} {r : MeterReply}
    (length : frameLength kind = some (rest.length + 4)) (request : ¬(kind = 16 ∨ kind = 33 ∨ kind = 49))
    (body : replyOf (withCrc (addr :: kind :: rest)) = some r) (address : addr ≠ 0) :
    hear (withCrc (addr :: kind :: rest)) = .reply addr.toNat r := by
  have whole : (withCrc (addr :: kind :: rest)).length = rest.length + 4 := withCrc_length _
  have heard := hear_reply (rest := rest ++ bytes16 (crc (addr :: kind :: rest)))
    (length.trans (congrArg some whole.symm)) (crcGood_withCrc (addr :: kind :: rest)) request
  exact heard.trans ((congrArg (fun o : Option MeterReply => o.elim _ _) body).trans (if_neg address))

end

theorem frameLength_eq (kind : Byte) :
    frameLength kind =
      if kind = 16 then some 12
      else if kind = 33 ∨ kind = 35 then some 6
      else if kind = 34 then some 16
      else if kind = 49 ∨ kind = 50 then some 5
      else none := by
  unfold frameLength Config.kindMark Config.kindSnapRequest Config.kindSnap Config.kindNotHeld Config.kindSupply
    Config.kindSupplied
  by_cases ask : kind = 33
  · subst ask
    rfl
  · by_cases supply : kind = 49
    · subst supply
      rfl
    · by_cases snap : kind = 34
      · subst snap
        rfl
      · simp only [ask, supply, snap, if_false, false_or]

theorem statusOf_status (m : MeterStatus) :
    statusOf (match m with
      | .ok => 0
      | .clockLost => 1
      | .relayFault => 2) = some m := by
  cases m <;> rfl

theorem relayByte_relay (r : Relay) : relayByte (if r = .opened then 0 else 1) = some r := by
  cases r <;> rfl

/-- Settles O37: the register's steps bit by bit, the judgement kind by kind, and the numbers of a reply read back from its
bytes. -/
theorem framesAreHeardAsTheyAreBuilt : Obligations.FramesAreHeardAsTheyAreBuilt := by
  refine ⟨⟨rfl, fun bytes b => ?_, fun bytes => ⟨rfl, crcGood_iff bytes⟩⟩, fun bytes => ⟨fun short => ?_, ?_⟩,
    fun addr tag snap r address => ?_⟩
  · simp only [crc_append, byteBits, List.foldl_map, crcBit_eq]
  · match bytes, short with
    | [], _ => rfl
    | [_], _ => rfl
  · rintro addr kind rest rfl length outside
    have lengths : length = frameLength kind := (frameLength_eq kind).symm
    rw [lengths]
    constructor
    · rintro (h | h | h)
      · exact hear_bad (.inl h)
      · exact hear_bad (.inr h)
      · by_cases len : frameLength kind = some (addr :: kind :: rest).length
        · by_cases good : crcGood (addr :: kind :: rest) = true
          · have request : ¬(kind = 16 ∨ kind = 33 ∨ kind = 49) := by
              rcases h with ⟨rfl, -⟩ | ⟨rfl, -⟩ <;> decide
            rw [hear_reply len good request, (replyOf_none_iff len request).mpr h]
            rfl
          · exact hear_bad (.inr (Bool.eq_false_iff.mpr good))
        · exact hear_bad (.inl len)
    · intro len good inside stray
      by_cases request : kind = 16 ∨ kind = 33 ∨ kind = 49
      · exact hear_request len good request
      · have zero : addr = 0 := by
          rcases stray with h | h | h | h
          · exact absurd (.inl h) request
          · exact absurd (.inr (.inl h)) request
          · exact absurd (.inr (.inr h)) request
          · exact h
        rw [hear_reply len good request]
        cases reply : replyOf (addr :: kind :: rest) with
        | none => exact absurd ((replyOf_none_iff len request).mp reply) inside
        | some r => exact if_pos zero
  · intro word bytes32 status relay
    refine ⟨hear_withCrc rfl (by decide) ?_ address, hear_withCrc rfl (by decide) ?_ address,
      hear_withCrc rfl (by decide) ?_ address⟩
    · have read : replyOf (withCrc ([addr, 34] ++ word ++ bytes32 snap.imp ++ bytes32 snap.exp ++ [status, relay snap.relay])) =
          (statusOf status).bind fun m => (relayByte (relay snap.relay)).map fun r =>
            .snap (BitVec.ofNat 16 (bigEndian word))
              { imp := BitVec.ofNat 32 (bigEndian (bytes32 snap.imp)), exp := BitVec.ofNat 32 (bigEndian (bytes32 snap.exp))
                status := m, relay := r } := by
        change (match statusOf status, relayByte (relay snap.relay) with
          | some m, some r => _
          | _, _ => _) = _
        cases statusOf status <;> cases relayByte (relay snap.relay) <;> rfl
      have known : statusOf status = some snap.status := statusOf_status snap.status
      refine read.trans ?_
      rw [known, relayByte_relay, bigEndian_word16, bigEndian_word32, bigEndian_word32]
      simp only [Option.bind_some, Option.map_some, BitVec.ofNat_toNat, BitVec.setWidth_eq]
    · exact congrArg (fun n => some (MeterReply.notHeld (BitVec.ofNat 16 n))) (bigEndian_word16 tag) |>.trans
        (by rw [BitVec.ofNat_toNat, BitVec.setWidth_eq])
    · exact congrArg (Option.map MeterReply.supplied) (relayByte_relay r)

end Sys2Proof.Machine

end

section
/-! The reserve watch: plant frames, the stale timer, and its two requests (R137 to R154). -/

namespace Sys2Proof.Machine

/-! ## The plant's frames (R137, R138) -/

theorem plantFrameOf_bad {bytes : List Byte}
    (h : bytes.length ≠ 12 ∨ bytes.head? ≠ some 97 ∨ crcGood bytes = false) : plantFrameOf bytes = none := by
  match bytes with
  | [code, q, c1, c0, f1, f0, p3, p2, p1, p0, r1, r0] =>
    refine if_neg fun ⟨first, good⟩ => ?_
    rcases h with h | h | h
    · exact h rfl
    · exact h (congrArg some first)
    · exact Bool.false_ne_true (h.symm.trans good)
  | [] | [_] | [_, _] | [_, _, _] | [_, _, _, _] | [_, _, _, _, _] | [_, _, _, _, _, _] | [_, _, _, _, _, _, _]
  | [_, _, _, _, _, _, _, _] | [_, _, _, _, _, _, _, _, _] | [_, _, _, _, _, _, _, _, _, _]
  | [_, _, _, _, _, _, _, _, _, _, _] | _ :: _ :: _ :: _ :: _ :: _ :: _ :: _ :: _ :: _ :: _ :: _ :: _ :: _ => rfl

theorem plantFrameOf_withCrc (q : Byte) (charge frequency : Word16) (power : Word32) :
    plantFrameOf (withCrc ([97, q] ++ [charge.extractLsb' 8 8, charge.extractLsb' 0 8] ++
        [frequency.extractLsb' 8 8, frequency.extractLsb' 0 8] ++
        [power.extractLsb' 24 8, power.extractLsb' 16 8, power.extractLsb' 8 8, power.extractLsb' 0 8])) =
      some { seq := q.toNat
             values := { charge := charge.toNat, frequency := frequency.toNat, power := power.toInt } } := by
  refine (if_pos ⟨rfl, crcGood_withCrc _⟩).trans ?_
  rw [bigEndian_word16, bigEndian_word16, bigEndian_word32, BitVec.ofNat_toNat, BitVec.setWidth_eq]

/-! ## Frames judged (R139) -/

section
variable {s : State} {bytes : List Byte}

theorem State.plantFrame_bad (h : plantFrameOf bytes = none) :
    s.plantFrame bytes = s.withReserve { s.reserve with bad := bump Config.countCeiling s.reserve.bad } := by
  simp only [State.plantFrame, h]

variable {fr : PlantFrame} (h : plantFrameOf bytes = some fr)
include h

theorem State.plantFrame_repeat (same : s.reserve.previous = some fr.seq) :
    s.plantFrame bytes = s.withReserve { s.reserve with repeats := bump Config.countCeiling s.reserve.repeats } := by
  simp only [State.plantFrame, h, same, if_true]

theorem State.plantFrame_outOfRange (other : s.reserve.previous ≠ some fr.seq) (out : s.reserve.inRange fr.values ≠ true) :
    s.plantFrame bytes = s.withReserve { s.reserve with outOfRange := bump Config.countCeiling s.reserve.outOfRange } := by
  simp only [State.plantFrame, h, if_neg other, Bool.eq_false_iff.mpr out, Bool.not_false, if_true]

theorem State.plantFrame_accepts (other : s.reserve.previous ≠ some fr.seq) (inRange : s.reserve.inRange fr.values = true) :
    s.plantFrame bytes = s.acceptFrame fr := by
  simp only [State.plantFrame, h, if_neg other, inRange, Bool.not_true, Bool.false_eq_true, if_false]

end

theorem Reserve.inRange_iff (r : Reserve) (v : PlantValues) :
    r.inRange v = true ↔ v.charge ≤ 1000 ∧ r.settings.fMin ≤ v.frequency ∧ v.frequency ≤ r.settings.fMax := by
  simp only [Reserve.inRange, Bool.and_eq_true, decide_eq_true_eq, and_assoc]
  exact Iff.rfl

/-! ## Samples (R141 to R144) -/

theorem counted_decide (n : Nat) (p : Prop) [Decidable p] : counted n (decide p) = if p then n + 1 else 0 := by
  simp only [counted, decide_eq_true_eq]

section
variable (r : Reserve) (c : Condition) (v : PlantValues)

def Reserve.scarcityAfter : Nat := if v.charge < r.settings.socLow then r.scarcity + 1 else 0

def Reserve.surplusAfter : Nat := if r.settings.fHigh ≤ v.frequency then r.surplus + 1 else 0

def Reserve.calmAfter : Nat := if r.settings.socLow + r.settings.socHyst ≤ v.charge then r.leaving + 1 else 0

def Reserve.slackAfter : Nat := if v.frequency < r.settings.fHigh - r.settings.fHyst then r.leaving + 1 else 0

theorem Reserve.counted_scarcity : counted r.scarcity (v.charge < r.settings.socLow) = r.scarcityAfter v := counted_decide _ _

theorem Reserve.counted_surplus : counted r.surplus (r.settings.fHigh ≤ v.frequency) = r.surplusAfter v := counted_decide _ _

theorem Reserve.counted_calm :
    counted r.leaving (r.settings.socLow + r.settings.socHyst ≤ v.charge) = r.calmAfter v := counted_decide _ _

theorem Reserve.counted_slack :
    counted r.leaving (v.frequency < r.settings.fHigh - r.settings.fHyst) = r.slackAfter v := counted_decide _ _

/-- The state that a sample leads to (R142, R143, R144). -/
def Reserve.judged : Condition :=
  match c with
  | .normal =>
    if r.settings.count ≤ r.scarcityAfter v then .scarce
    else if r.settings.count ≤ r.surplusAfter v then .surplus else .normal
  | .scarce => if r.settings.count ≤ r.calmAfter v then .normal else .scarce
  | .surplus => if r.settings.count ≤ r.slackAfter v then .normal else .surplus

/-- The watch after a sample that leaves the state (R142, R143, R144). -/
def Reserve.counting : Reserve :=
  match c with
  | .normal => { r with scarcity := r.scarcityAfter v, surplus := r.surplusAfter v }
  | .scarce => { r with leaving := r.calmAfter v }
  | .surplus => { r with leaving := r.slackAfter v }

end

theorem State.sampleLeaving_eq (s : State) (old : Condition) (counts : Bool) :
    s.sampleLeaving old counts =
      if s.reserve.settings.count ≤ counted s.reserve.leaving counts then s.changeCondition old .normal
      else s.withReserve { s.reserve with leaving := counted s.reserve.leaving counts } := rfl

/-- A sample moves the counters of its state, or changes the state. -/
theorem State.sample_eq (s : State) (c : Condition) (v : PlantValues) :
    s.sample c v =
      if s.reserve.judged c v = c then s.withReserve (s.reserve.counting c v)
      else s.changeCondition c (s.reserve.judged c v) := by
  cases c with
  | normal =>
    simp only [State.sample, State.sampleNormal, Reserve.counted_scarcity, Reserve.counted_surplus, Reserve.judged,
      Reserve.counting]
    by_cases scarce : s.reserve.settings.count ≤ s.reserve.scarcityAfter v
    · simp [scarce]
    · by_cases surplus : s.reserve.settings.count ≤ s.reserve.surplusAfter v
      · simp [scarce, surplus]
      · simp [scarce, surplus]
  | scarce =>
    simp only [State.sample, State.sampleLeaving_eq, Reserve.counted_calm, Reserve.judged, Reserve.counting]
    by_cases calm : s.reserve.settings.count ≤ s.reserve.calmAfter v <;> simp [calm]
  | surplus =>
    simp only [State.sample, State.sampleLeaving_eq, Reserve.counted_slack, Reserve.judged, Reserve.counting]
    by_cases slack : s.reserve.settings.count ≤ s.reserve.slackAfter v <;> simp [slack]

/-! ## Changes of the state (R142 to R149) -/

/-- The watch after a change of the live state: the counters 0, the state's flag added. -/
def Reserve.changed (r : Reserve) (new : Condition) : Reserve :=
  { r with
    state := .live new, scarcity := 0, surplus := 0, leaving := 0
    flags := { r.flags with scarce := r.flags.scarce || new = .scarce, surplus := r.flags.surplus || new = .surplus } }

theorem State.changeCondition_eq (s : State) (old new : Condition) :
    s.changeCondition old new =
      if old = .scarce ∨ new = .scarce then ((s.withReserve (s.reserve.changed new)).notify .reserve).evaluateAuto
      else (s.withReserve (s.reserve.changed new)).notify .reserve := by
  have flags : s.reserve.flags.join (WatchState.live new).flags =
      { s.reserve.flags with
        scarce := s.reserve.flags.scarce || new = .scarce, surplus := s.reserve.flags.surplus || new = .surplus } := by
    simp only [ReserveFlags.join, WatchState.flags, WatchState.effective, WatchState.isStale, Bool.or_false]
    rfl
  simp only [State.changeCondition, Reserve.changed, flags]

/-! ## Accepted frames (R139, R141, R146) -/

section
variable {s : State} {fr : PlantFrame}

theorem State.acceptFrame_stale {held : Condition} (state : s.reserve.state = .stale held) :
    s.acceptFrame fr = (s.withReserve { (s.reserve.accept fr).clearCounters with state := .live held }).notify .reserve := by
  simp only [State.acceptFrame, Reserve.accept, state]

variable {c : Condition} (state : s.reserve.state = .live c)
include state

theorem State.acceptFrame_between (between : s.reserve.position + 1 < s.reserve.settings.divisor) :
    s.acceptFrame fr = s.withReserve { s.reserve.accept fr with position := s.reserve.position + 1 } := by
  simp only [State.acceptFrame, Reserve.accept, state, if_pos between]

theorem State.acceptFrame_samples (due : s.reserve.settings.divisor ≤ s.reserve.position + 1) :
    s.acceptFrame fr = (s.withReserve { s.reserve.accept fr with position := 0 }).sample c fr.values := by
  simp only [State.acceptFrame, Reserve.accept, state, if_neg (Nat.not_lt.mpr due)]

end

/-! ## Every AUTO household (R160) -/

theorem State.evaluateAuto_eq (s : State) {f : State → Slot → State}
    (vacant : ∀ u i, (u.household i).settings = none → f u i = u)
    (used : ∀ u i c, (u.household i).settings = some c → f u i = if c.policy = .auto then u.evaluate i else u) :
    s.evaluateAuto = allSlots.foldl f s := by
  refine congrArg (fun f => allSlots.foldl f s) (funext₂ fun u i => ?_)
  cases held : (u.household i).settings with
  | none => simp only [vacant u i held, Household.isAuto, held, Bool.false_eq_true, if_false]
  | some c => simp only [used u i c held, Household.isAuto, held, decide_eq_true_eq]

/-! ## The settings of RESCFG (R152, R153) -/

theorem readReserve_iff (k : Kw) (v : Tok) (n : Int) :
    readReserve k v = some n ↔ k ∈ [Kw.SOCLOW, .SOCHYST, .FHIGH, .FHYST, .FMIN, .FMAX, .DIV, .COUNT] ∧ v = .num n := by
  unfold readReserve
  split_ifs with named
  · exact (numberOf_iff v n).trans (and_iff_right named).symm
  · exact iff_of_false (by simp) fun ⟨h, _⟩ => named h

section
variable (ps : List (Kw × Int)) (k : Kw) (lo hi held : Nat)

theorem settingOf_none_iff :
    settingOf ps k lo hi held = none ↔ ∃ n, given ps k = some n ∧ ¬((lo : Int) ≤ n ∧ n ≤ hi) := by
  unfold settingOf
  cases given ps k with
  | none => simp
  | some n => simpa using natIn_none_iff lo hi n

theorem settingOf_value {n : Nat} (h : settingOf ps k lo hi held = some n) : (n : Int) = (given ps k).getD held := by
  unfold settingOf at h
  cases named : given ps k with
  | none =>
    rw [named] at h
    exact congrArg Int.ofNat (Option.some.inj h).symm
  | some m =>
    rw [named] at h
    obtain ⟨rfl, -⟩ := natIn_some h
    rfl

end

namespace ReserveSettings
variable {c d : ReserveSettings} {ps : List (Kw × Int)}

theorem edit_none_iff :
    c.edit ps = none ↔
      settingOf ps .SOCLOW 0 1000 c.socLow = none ∨ settingOf ps .SOCHYST 0 1000 c.socHyst = none ∨
        settingOf ps .FHIGH 0 65535 c.fHigh = none ∨ settingOf ps .FHYST 1 65535 c.fHyst = none ∨
        settingOf ps .FMIN 0 65535 c.fMin = none ∨ settingOf ps .FMAX 0 65535 c.fMax = none ∨
        settingOf ps .DIV 1 8 c.divisor = none ∨ settingOf ps .COUNT 1 8 c.count = none := by
  unfold ReserveSettings.edit
  split
  next socLow socHyst fHigh fHyst fMin fMax divisor count =>
    simp [socLow, socHyst, fHigh, fHyst, fMin, fMax, divisor, count]
  next missing =>
    refine iff_of_true rfl (by_contra fun all => ?_)
    simp only [not_or, Option.ne_none_iff_exists'] at all
    obtain ⟨⟨_, socLow⟩, ⟨_, socHyst⟩, ⟨_, fHigh⟩, ⟨_, fHyst⟩, ⟨_, fMin⟩, ⟨_, fMax⟩, ⟨_, divisor⟩, ⟨_, count⟩⟩ := all
    exact missing _ _ _ _ _ _ _ _ socLow socHyst fHigh fHyst fMin fMax divisor count

theorem edit_values (h : c.edit ps = some d) :
    (d.socLow : Int) = (given ps .SOCLOW).getD c.socLow ∧ (d.socHyst : Int) = (given ps .SOCHYST).getD c.socHyst ∧
      (d.fHigh : Int) = (given ps .FHIGH).getD c.fHigh ∧ (d.fHyst : Int) = (given ps .FHYST).getD c.fHyst ∧
      (d.fMin : Int) = (given ps .FMIN).getD c.fMin ∧ (d.fMax : Int) = (given ps .FMAX).getD c.fMax ∧
      (d.divisor : Int) = (given ps .DIV).getD c.divisor ∧ (d.count : Int) = (given ps .COUNT).getD c.count := by
  unfold ReserveSettings.edit at h
  split at h
  next socLow socHyst fHigh fHyst fMin fMax divisor count =>
    cases h
    exact ⟨settingOf_value _ _ _ _ _ socLow, settingOf_value _ _ _ _ _ socHyst, settingOf_value _ _ _ _ _ fHigh,
      settingOf_value _ _ _ _ _ fHyst, settingOf_value _ _ _ _ _ fMin, settingOf_value _ _ _ _ _ fMax,
      settingOf_value _ _ _ _ _ divisor, settingOf_value _ _ _ _ _ count⟩
  · cases h

theorem legal_iff (c : ReserveSettings) :
    c.legal = true ↔ c.socLow + c.socHyst ≤ 1000 ∧ c.fMin + c.fHyst < c.fHigh ∧ c.fHigh ≤ c.fMax ∧
      (c.divisor = 1 ∨ c.divisor = 2 ∨ c.divisor = 4 ∨ c.divisor = 8) := by
  simp only [ReserveSettings.legal, Bool.and_eq_true, decide_eq_true_eq, and_assoc, List.mem_cons, List.not_mem_nil, or_false]
  exact Iff.rfl

end ReserveSettings

theorem serveRescfg_edits {s : State} {args : List Tok} {ps : List (Kw × Int)} (read : pairs readReserve args = some ps)
    (commissioned : s.service ≠ .uncommissioned) (good : s.supply.warning = false) :
    serveRequest .RESCFG args s =
      (s.reserve.settings.edit ps).elim (refuse .RANGE) fun c =>
        if c.legal = true then .done (s.withReserve { s.reserve.clearCounters with settings := c }) (okLine [])
        else refuse .RANGE := by
  change serveRescfg args s = _
  simp only [serveRescfg, read, State.ifWritable_of commissioned good]
  cases s.reserve.settings.edit ps <;> rfl

/-! ## The obligations -/

/-- Settles O43: the frame judged in the order of R139, then the sample by the state it leads to. -/
theorem plantFramesMoveTheReserveState : Obligations.PlantFramesMoveTheReserveState := by
  refine ⟨plantFrameOf_withCrc, fun bytes => plantFrameOf_bad, fun s bytes running => ?_,
    fun s running => ⟨fun c live => ?_, fun c stale => ?_⟩⟩
  · intro r
    have received : exec (.plantFrameReceived bytes) s = .next (s.plantFrame bytes) :=
      exec_running (f := fun s => s.plantFrame bytes) rfl running
    refine ⟨fun bad => received.trans (congrArg _ (State.plantFrame_bad bad)), (exec_running rfl running).trans rfl,
      fun fr heard => ⟨fun same => received.trans (congrArg _ (State.plantFrame_repeat heard same)),
        fun other out => received.trans (congrArg _ (State.plantFrame_outOfRange heard other ?_)),
        fun other charge low high => ?_⟩⟩
    · rwa [ne_eq, Reserve.inRange_iff]
    · intro a
      have accepted := received.trans (congrArg _ (State.plantFrame_accepts heard other
        ((Reserve.inRange_iff _ _).mpr ⟨charge, low, high⟩)))
      refine ⟨fun held stale => accepted.trans (congrArg _ (State.acceptFrame_stale stale)),
        fun c live between => accepted.trans (congrArg _ (State.acceptFrame_between live between)),
        fun c live due => ?_⟩
      intro count scarcity surplus calm slack new changed
      have sampled := accepted.trans (congrArg _ ((State.acceptFrame_samples live due).trans (State.sample_eq _ _ _)))
      have judged : (s.withReserve { s.reserve.accept fr with position := 0 }).reserve.judged c fr.values = new := by
        cases c <;> rfl
      rw [judged] at sampled
      have moved (other : new ≠ c) := sampled.trans (congrArg _ ((if_neg other).trans (State.changeCondition_eq _ c new)))
      refine ⟨fun same => sampled.trans (congrArg _ ((if_pos same).trans ?_)), fun other old near => ?_, fun other far => ?_⟩
      · cases c <;> rfl
      · exact (moved other).trans (congrArg _ (if_neg (not_or.mpr ⟨old, near⟩)))
      · exact (moved other).trans (congrArg _ ((if_pos far).trans (State.evaluateAuto_eq _
          (fun u i held => by simp only [held]) fun u i g held => by simp only [held])))
  · refine (exec_running rfl running).trans (congrArg _ ?_)
    simp only [State.goStale, live]
    rfl
  · refine (exec_running rfl running).trans (congrArg _ ?_)
    simp only [State.goStale, stale]

/-- Settles O44: each setting as `settingOf` reads it, and the legality judged of all of them. -/
theorem reserveRequestsSetAndReport : Obligations.ReserveRequestsSetAndReport := by
  refine ⟨readReserve_iff, fun c ps => ?_, fun s args ps read serves commissioned good => ?_,
    fun s serves commissioned => ?_, fun s serves commissioned => ?_⟩
  · intro ranges
    simp only [ReserveSettings.edit_none_iff, settingOf_none_iff]
    simp [ranges, or_and_right, exists_or, and_assoc]
  · have served := serveRescfg_edits read commissioned good
    refine ⟨fun out => ?_, fun c edited => ?_⟩
    · rw [out] at served
      exact exec_refuses serves served
    · intro legal
      rw [edited] at served
      refine ⟨fun illegal => ?_, fun ok => ?_, ReserveSettings.edit_values edited⟩
      · exact exec_refuses serves (served.trans (if_neg fun h => illegal (c.legal_iff.mp h)))
      · exact exec_does serves (served.trans (if_pos (c.legal_iff.mpr ok)))
  · intro r
    refine exec_answers serves ((State.ifCommissioned_of commissioned _).trans (congrArg (Served.done s) ?_))
    change okLine r.fields = _
    clear_value r
    unfold Reserve.fields Reserve.lastFields
    cases r.state <;> cases r.previous <;> cases r.last <;> rfl
  · exact exec_answers serves (State.ifCommissioned_of commissioned _)

end Sys2Proof.Machine

end

section
/-! The supply limiter: evaluations, offers, and its two requests (R128, R156 to R166). -/

namespace Sys2Proof.Machine

/-! ## Evaluations (R156 to R159) -/

section
variable {s : State} {i : Slot} {c : Settings} (held : (s.household i).settings = some c)
include held

theorem State.evaluate_unevaluated (h : (s.household i).member = .suspended ∨ (s.household i).member = .vacant) :
    s.evaluate i = s := by
  rcases h with member | member <;>
    simp only [State.evaluate, held, member, MemberState.evaluated, Bool.not_false, if_true]

theorem State.evaluate_settled (same : s.decision c (s.household i) = (s.household i).wanted) : s.evaluate i = s := by
  simp only [State.evaluate, held, same, if_true, ite_self]

theorem State.evaluate_wants (suspended : (s.household i).member ≠ .suspended) (vacant : (s.household i).member ≠ .vacant)
    (changed : s.decision c (s.household i) ≠ (s.household i).wanted) :
    s.evaluate i = s.want i c (s.decision c (s.household i)) := by
  have evaluated : (s.household i).member.evaluated = true := by
    cases member : (s.household i).member with
    | suspended => exact absurd member suspended
    | vacant => exact absurd member vacant
    | enrolled | active | fault | leaving => rfl
  simp only [State.evaluate, held, evaluated, Bool.not_true, Bool.false_eq_true, if_false, if_neg changed]

end

/-! ## Offers (R128) -/

theorem not_inQueue_iff (q : List QueueEntry) (i : Slot) : inQueue q i = false ↔ ∀ e ∈ q, e.slot ≠ i := by
  simp only [← Bool.not_eq_true, inQueue_iff, List.mem_map, not_exists, not_and, ne_eq]

theorem map_recommand {q : List QueueEntry} {i : Slot} (r : Relay) (others : ∀ e ∈ q, e.slot ≠ i) :
    (q.map fun e => if e.slot = i then { e with command := r } else e) = q := by
  conv_rhs => rw [← List.map_id q]
  exact List.map_congr_left fun e held => if_neg (others e held)

section
variable (s : State) (f : Feeder) (i : Slot) (r : Relay)

theorem State.offer_replaces {older younger : List QueueEntry} {old : Relay}
    (queue : (s.engine f).queue = older ++ { slot := i, command := old } :: younger)
    (others : ∀ e ∈ older ++ younger, e.slot ≠ i) :
    s.offer f i r = s.withEngine f { s.engine f with queue := older ++ { slot := i, command := r } :: younger } := by
  have joined : inQueue (s.engine f).queue i = true := (inQueue_iff _ _).mpr (by simp [queue])
  have replaced : ((s.engine f).queue.map fun e => if e.slot = i then { e with command := r } else e) =
      older ++ { slot := i, command := r } :: younger := by
    rw [queue, List.map_append, List.map_cons, if_pos rfl, map_recommand r fun e h => others e (List.mem_append_left _ h),
      map_recommand r fun e h => others e (List.mem_append_right _ h)]
  simp only [State.offer, offerTo, joined, if_true, replaced]

variable (absent : inQueue (s.engine f).queue i = false)
include absent

theorem State.offer_joins (room : (s.engine f).queue.length < 16) :
    s.offer f i r = s.withEngine f { s.engine f with queue := (s.engine f).queue ++ [{ slot := i, command := r }] } := by
  have room : (s.engine f).queue.length < Config.maxQueue := room
  simp only [State.offer, offerTo, absent, Bool.false_eq_true, if_false, if_pos room]

theorem State.offer_full (full : 16 ≤ (s.engine f).queue.length) : s.offer f i r = s.notify .queueOverflow := by
  have full : ¬(s.engine f).queue.length < Config.maxQueue := Nat.not_lt.mpr full
  simp only [State.offer, offerTo, absent, Bool.false_eq_true, if_false, if_neg full]

end

theorem State.offerWord_eq (s : State) (f : Feeder) (i : Slot) (r : Relay) :
    s.offerWord f i r = if inQueue (s.engine f).queue i = true ∨ (s.engine f).queue.length < 16 then .QUEUED else .FULL := by
  unfold State.offerWord offerTo
  by_cases joined : inQueue (s.engine f).queue i = true
  · simp only [joined, if_true, true_or]
  · by_cases room : (s.engine f).queue.length < Config.maxQueue
    · rw [if_neg joined, if_pos room]
      exact (if_pos (.inr room)).symm
    · rw [if_neg joined, if_neg room]
      exact (if_neg (not_or.mpr ⟨joined, room⟩)).symm

/-! ## RELAY and RLYCFG served (R165, R166) -/

theorem relayOf_word (r : Relay) : relayOf (.kw (if r = .opened then .OPEN else .CLOSED)) = some r := by
  cases r <;> rfl

section
variable {s : State} (commissioned : s.service ≠ .uncommissioned) (good : s.supply.warning = false)
include commissioned good

theorem serveRelay_eq (i : Slot) (r : Relay) :
    serveRequest .RELAY [.num (slotNumber i), .kw (if r = .opened then .OPEN else .CLOSED)] s =
      (s.household i).settings.elim (refuse .STATE) fun c =>
        if c.policy = .manual then
          .done (s.want i c r)
            (okLine [.kw r.kw, .kw (confirmedKw (s.household i).confirmed), .kw (s.offerWord c.feeder i r)])
        else refuse .STATE := by
  simp only [serveRequest, serveRelay, relayOf_word, State.onSlot_of commissioned good]
  cases (s.household i).settings <;> rfl

theorem serveRlycfg_margin (m : Nat) :
    serveRequest .RLYCFG [.kw .MARGIN, .num m] s =
      if m ≤ 1000000000 then .done (s.withMargin m).evaluateAuto (okLine []) else refuse .RANGE := by
  simp only [serveRequest, serveRlycfg, State.ifWritable_of commissioned good, natIn_of_natural, Nat.zero_le, true_and]
  by_cases small : m ≤ Config.maxMargin
  · rw [if_pos small]
    exact (if_pos small).symm
  · rw [if_neg small]
    exact (if_neg small).symm

end

/-! ## The obligations -/

/-- Settles O45. -/
theorem evaluationFollowsPolicyAndBalance : Obligations.EvaluationFollowsPolicyAndBalance := by
  refine ⟨fun s i c held => ?_, fun s f i r => ?_, fun c => ⟨rfl, rfl, rfl, rfl⟩⟩
  · intro h floor decided
    have decision : s.decision c (s.household i) = decided := rfl
    rw [← decision]
    exact ⟨State.evaluate_unevaluated held, State.evaluate_settled held, State.evaluate_wants held⟩
  · refine ⟨fun older younger old => s.offer_replaces f i r, fun others => ?_⟩
    have absent := (not_inQueue_iff _ i).mpr others
    exact ⟨s.offer_joins f i r absent, s.offer_full f i r absent⟩

/-- Settles O46. -/
theorem relayAndRlycfgAct : Obligations.RelayAndRlycfgAct := by
  refine ⟨?_, fun s serves commissioned => exec_answers serves (State.ifCommissioned_of commissioned _), ?_⟩
  · rintro s i r args rfl serves commissioned good h
    have served := serveRelay_eq commissioned good i r
    refine ⟨fun other => exec_refuses serves ?_, fun c held manual => ?_⟩
    · rw [served]
      cases held : (s.household i).settings with
      | none => rfl
      | some c => exact if_neg (other c held)
    · rw [held] at served
      refine (exec_does serves (served.trans (if_pos manual))).trans ?_
      rw [State.offerWord_eq]
      cases r <;> rfl
  · rintro s m args rfl serves commissioned good
    have served := serveRlycfg_margin commissioned good m
    refine ⟨fun high => exec_refuses serves (served.trans (if_neg (Nat.not_le.mpr high))), fun low => ?_⟩
    refine (exec_does serves (served.trans (if_pos low))).trans ?_
    rw [State.evaluateAuto_eq _ (fun u i held => ?_) fun u i c held => ?_]
    · rfl
    · simp only [held]
    · simp only [held]

end Sys2Proof.Machine

end

section
/-! The kiosk display: the page list, the latch, the lines driven and the dwells (R168 to R174, R177). -/

namespace Sys2Proof.Machine

/-! ## The page list (R170) -/

theorem State.onList_eq (s : State) (i : Slot) :
    s.onList i = ((s.household i).member ≠ .vacant && (s.household i).settings.any fun c => c.shown) := by
  unfold State.onList Household.present
  cases (s.household i).settings with
  | none => simp
  | some c => rfl

/-- The order of the pages on the list. -/
def Page.rank : Page → Nat
  | .household i => i.val
  | .reserve => 96
  | .clock => 97

theorem Page.rank_le (p : Page) : p.rank ≤ 97 := by
  cases p <;> simp only [Page.rank] <;> omega

section
variable (s : State)

theorem State.mem_pageList_household (i : Slot) : .household i ∈ s.pageList ↔ s.onList i = true := by
  simp [State.pageList, Display.tail, allSlots]

theorem State.mem_pageList_reserve : .reserve ∈ s.pageList ↔ s.display.reserveOn = true := by
  simp [State.pageList, Display.tail]

theorem State.mem_pageList_clock : .clock ∈ s.pageList ↔ s.display.clockOn = true := by
  simp [State.pageList, Display.tail]

theorem Display.tail_cases (d : Display) :
    d.tail = (if d.reserveOn then [.reserve] else []) ++ if d.clockOn then [.clock] else [] := rfl

theorem State.pageList_rising : s.pageList.Pairwise fun p q => p.rank < q.rank := by
  refine List.pairwise_append.mpr ⟨?_, ?_, ?_⟩
  · exact List.pairwise_map.mpr ((List.pairwise_lt_finRange 96).filter _)
  · rw [Display.tail_cases]
    cases s.display.reserveOn <;> cases s.display.clockOn <;> simp [Page.rank]
  · intro p household q other
    obtain ⟨i, -, rfl⟩ := List.mem_map.mp household
    have last : q = .reserve ∨ q = .clock := by
      rw [Display.tail_cases] at other
      cases on : s.display.reserveOn <;> cases clock : s.display.clockOn <;> simp_all
    rcases last with rfl | rfl <;> simp only [Page.rank] <;> omega

/-- After a page comes the first one of the list behind it in the list's order, or the first of all. -/
theorem State.choose_after (p : Page) :
    s.choose (.after p) = (s.pageList.find? fun q => p.rank < q.rank).or s.pageList.head? := by
  have households (n : Nat) (high : 95 ≤ n) :
      ((allSlots.filter s.onList).map Page.household).find? (fun q => decide (n < q.rank)) = none := by
    refine List.find?_eq_none.mpr fun q household => ?_
    obtain ⟨i, -, rfl⟩ := List.mem_map.mp household
    have slots := i.isLt
    exact fun later => absurd (of_decide_eq_true later) (by change ¬n < i.val; omega)
  cases p with
  | clock =>
    have none : (s.pageList.find? fun q => Page.clock.rank < q.rank) = none :=
      List.find?_eq_none.mpr fun q _ later => absurd (of_decide_eq_true later) (not_lt.mpr q.rank_le)
    rw [none, Option.none_or]
    rfl
  | reserve =>
    have behind : (s.pageList.find? fun q => Page.reserve.rank < q.rank) =
        if s.display.clockOn then some .clock else none := by
      rw [State.pageList, List.find?_append, Page.rank, households 96 (by omega), Option.none_or, Display.tail_cases]
      cases s.display.reserveOn <;> cases s.display.clockOn <;> rfl
    rw [behind]
    change (if s.display.clockOn then some Page.clock else s.pageList.head?) = _
    cases s.display.clockOn <;> rfl
  | household i =>
    have tail : (s.display.tail.find? fun q => (Page.household i).rank < q.rank) = s.display.tail.head? := by
      have slots := i.isLt
      rw [Display.tail_cases]
      cases s.display.reserveOn <;> cases s.display.clockOn <;>
        simp [Page.rank, Nat.lt_trans slots (Nat.lt_succ_self 96), slots]
    have slots : (((allSlots.filter s.onList).map Page.household).find? fun q => (Page.household i).rank < q.rank) =
        (allSlots.find? fun j => i.val < j.val && s.onList j).map .household := by
      rw [List.find?_map, List.find?_filter]
      refine congrArg (fun f => (allSlots.find? f).map Page.household) (funext fun j => ?_)
      simp only [Function.comp, Page.rank]
      cases s.onList j <;> simp
    rw [State.pageList, List.find?_append, slots, tail]
    refine Eq.trans (b := (allSlots.find? fun j => i.val < j.val && s.onList j).elim
      (s.display.tail.head?.or s.pageList.head?) fun j => some (.household j)) ?_ ?_
    · simp only [State.choose]
      cases s.display.tail <;> cases allSlots.find? fun j => i.val < j.val && s.onList j <;> rfl
    · rw [← State.pageList]
      cases allSlots.find? fun j => i.val < j.val && s.onList j <;> rfl

variable {s}

theorem State.find_pageList {p q : Page} (member : q ∈ s.pageList) (behind : p.rank < q.rank)
    (first : ∀ r ∈ s.pageList, p.rank < r.rank → q.rank ≤ r.rank) :
    (s.pageList.find? fun r => p.rank < r.rank) = some q := by
  obtain ⟨a, b, list⟩ := List.append_of_mem member
  have rising := s.pageList_rising
  rw [list] at rising
  obtain ⟨-, -, before⟩ := List.pairwise_append.mp rising
  rw [List.find?_eq_some_iff_append]
  refine ⟨by simpa using behind, a, b, list, fun r earlier => ?_⟩
  have below := before r earlier q (by simp)
  simp only [Bool.not_eq_true', decide_eq_false_iff_not]
  intro later
  have := first r (by simp [list, earlier]) later
  omega

theorem State.choose_next {p q : Page} (member : q ∈ s.pageList) (behind : p.rank < q.rank)
    (first : ∀ r ∈ s.pageList, p.rank < r.rank → q.rank ≤ r.rank) : s.choose (.after p) = some q := by
  rw [s.choose_after, State.find_pageList member behind first]
  rfl

theorem State.choose_around {p : Page} (last : ∀ r ∈ s.pageList, r.rank ≤ p.rank) :
    s.choose (.after p) = s.pageList.head? := by
  have none : (s.pageList.find? fun r => p.rank < r.rank) = none :=
    List.find?_eq_none.mpr fun r member => by simpa using last r member
  rw [s.choose_after, none, Option.none_or]

theorem State.choose_consecutive {a b : List Page} {p q : Page} (list : s.pageList = a ++ p :: q :: b) :
    s.choose (.after p) = some q := by
  have rising := s.pageList_rising
  rw [list] at rising
  obtain ⟨-, rest, before⟩ := List.pairwise_append.mp rising
  obtain ⟨pq, rest⟩ := List.pairwise_cons.mp rest
  obtain ⟨after, -⟩ := List.pairwise_cons.mp rest
  refine State.choose_next (by simp [list]) (pq q (by simp)) fun r member behind => ?_
  rw [list] at member
  rcases List.mem_append.mp member with earlier | here
  · have := before r earlier p (by simp)
    omega
  · rcases List.mem_cons.mp here with rfl | later
    · omega
    · rcases List.mem_cons.mp later with rfl | later
      · exact le_rfl
      · exact (after r later).le

theorem State.choose_last {a : List Page} {p : Page} (list : s.pageList = a ++ [p]) :
    s.choose (.after p) = s.pageList.head? := by
  have rising := s.pageList_rising
  rw [list] at rising
  obtain ⟨-, -, before⟩ := List.pairwise_append.mp rising
  refine State.choose_around fun r member => ?_
  rw [list] at member
  rcases List.mem_append.mp member with earlier | here
  · exact (before r earlier p (by simp)).le
  · rw [List.mem_singleton.mp here]

theorem State.choose_afterLastHousehold {i : Slot} (last : ∀ k, i < k → .household k ∉ s.pageList) :
    s.choose (.after (.household i)) =
      if .reserve ∈ s.pageList then some .reserve else if .clock ∈ s.pageList then some .clock else s.pageList.head? := by
  have slots := i.isLt
  have behind (r : Page) (member : r ∈ s.pageList) (later : i.val < r.rank) : r = .reserve ∨ r = .clock := by
    cases r with
    | household k => exact absurd member (last k later)
    | reserve => exact .inl rfl
    | clock => exact .inr rfl
  by_cases reserve : .reserve ∈ s.pageList
  · rw [if_pos reserve]
    refine State.choose_next reserve slots fun r member later => ?_
    rcases behind r member later with rfl | rfl <;> simp [Page.rank]
  · rw [if_neg reserve]
    by_cases clock : .clock ∈ s.pageList
    · rw [if_pos clock]
      refine State.choose_next clock (slots.trans (by simp [Page.rank])) fun r member later => ?_
      rcases behind r member later with rfl | rfl
      · exact absurd member reserve
      · exact le_rfl
    · rw [if_neg clock]
      refine State.choose_around fun r member => not_lt.mp fun later => ?_
      rcases behind r member later with rfl | rfl
      · exact reserve member
      · exact clock member

end

/-! ## The latch (R171 to R174, R185) -/

/-- The display after a latch. -/
def Display.latch (d : Display) (c : Content) : Display :=
  { d with
    activity := .showing, current := c.page, glyphs := c.glyphs, marks := c.marks, framesLeft := d.dwell * 16, fetch := none }

theorem State.latchPage_fetched {s : State} {choice : PageChoice} (fetch : s.display.fetch = some choice) :
    s.latchPage = s.withDisplay (s.display.latch ((s.choose choice).elim .none s.content)) := by
  simp only [State.latchPage, fetch]
  cases s.choose choice <;> rfl

theorem State.waits_hostLine_iff (s : State) :
    s.waits false .hostLine = true ↔
      ∃ r args, s.host.inService = some { line := .request r args, stage := .taken } ∧ reachesArray r args = true := by
  simp only [State.waits, Option.any_eq_true_iff_get, Option.isSome_iff_exists]
  constructor
  · rintro ⟨⟨⟨line, stage⟩, held⟩, waits⟩
    simp only [held, Option.get_some, InService.waits, Bool.and_eq_true, decide_eq_true_eq] at waits
    obtain ⟨rfl, reaches⟩ := waits
    cases line with
    | request r args => exact ⟨r, args, held, reaches⟩
    | long | bad | unknown => exact absurd reaches Bool.false_ne_true
  · rintro ⟨r, args, held, reaches⟩
    refine ⟨⟨_, held⟩, ?_⟩
    simp only [held, Option.get_some, InService.waits, decide_true, Bool.true_and]
    exact reaches

theorem State.waits_engine_iff (s : State) : s.waits false .engine = true ↔ s.startable ≠ none := by
  simp [State.waits, Option.isSome_iff_ne_none]

theorem State.waits_intake_iff (s : State) : s.waits false .intake = true ↔ s.store.deliveries ≠ [] := by
  simp [State.waits]

section
variable {s : State} (running : s.power.phase = .running)
include running

theorem exec_pageLatch (engine : s.waits false .engine = false) (intake : s.waits false .intake = false)
    (line : s.waits false .hostLine = false) {choice : PageChoice} (fetch : s.display.fetch = some choice) :
    exec .pageLatch s = .next (s.withDisplay (s.display.latch ((s.choose choice).elim .none s.content))) := by
  have waits : s.waits false .display = true := by simp [State.waits, fetch]
  rw [exec_running rfl running]
  exact congrArg _ ((State.atGrant_of (State.arbiterNext_display engine intake line waits) _).trans
    (State.latchPage_fetched fetch))

theorem exec_pageLatch_outranked
    (h : s.waits false .engine = true ∨ s.waits false .intake = true ∨ s.waits false .hostLine = true) :
    exec .pageLatch s = .next s := by
  rw [exec_running rfl running]
  refine congrArg _ (State.atGrant_not ?_ _)
  unfold State.arbiterNext
  rcases h with h | h | h
  · simp [h]
  · cases s.waits false .engine <;> simp [h]
  · cases s.waits false .engine <;> cases s.waits false .intake <;> simp [h]

theorem exec_pageLatch_idle (fetch : s.display.fetch = none) : exec .pageLatch s = .next s := by
  rw [exec_running rfl running]
  have idle : s.latchPage = s := by simp only [State.latchPage, fetch]
  rcases s.atGrant_cases .display false State.latchPage with granted | waits
  · exact congrArg _ (granted.trans idle)
  · exact congrArg _ waits

end

/-! ## Contents (R172, R173) -/

theorem digitUnless_decide (p : Prop) [Decidable p] (n : Nat) : digitUnless (decide p) n = if p then .blank else digit n := by
  simp only [digitUnless, decide_eq_true_eq]

theorem householdGlyphs_shown (i : Slot) {v : Nat} (small : v ≤ 99999) :
    householdGlyphs i v =
      #v[digit ((i.val + 1) / 10), digit (i.val + 1), .blank, if v < 10000 then .blank else digit (v / 10000),
        if v < 1000 then .blank else digit (v / 1000), digit (v / 100), digit (v / 10), digit v] := by
  rw [← digitUnless_decide, ← digitUnless_decide]
  exact if_pos small

theorem householdGlyphs_over (i : Slot) {v : Nat} (large : 99999 < v) :
    householdGlyphs i v =
      #v[digit ((i.val + 1) / 10), digit (i.val + 1), .blank, digit 9, digit 9, digit 9, digit 9, digit 9] :=
  if_neg (Nat.not_le.mpr large)

theorem State.reservePage_last {s : State} {v : PlantValues} (last : s.reserve.last = some v) :
    s.reservePage.glyphs =
      #v[.blank, if v.charge < 1000 then .blank else digit (v.charge / 1000),
        if v.charge < 100 then .blank else digit (v.charge / 100), if v.charge < 10 then .blank else digit (v.charge / 10),
        digit v.charge, .blank, .blank, s.reserve.state.effective.glyph] := by
  simp only [State.reservePage, last, digitUnless_decide]

theorem State.reservePage_none {s : State} (last : s.reserve.last = none) :
    s.reservePage.glyphs = #v[.blank, .dash, .dash, .dash, .dash, .blank, .blank, s.reserve.state.effective.glyph] := by
  simp only [State.reservePage, last]

/-! ## The lines driven (R168, R169) -/

theorem digitSegments_eq (n : Fin 10) :
    digitSegments n =
      [[.a, .b, .c, .d, .e, .f], [.b, .c], [.a, .b, .d, .e, .g], [.a, .b, .c, .d, .g], [.b, .c, .f, .g],
        [.a, .c, .d, .f, .g], [.a, .c, .d, .e, .f, .g], [.a, .b, .c], [.a, .b, .c, .d, .e, .f, .g],
        [.a, .b, .c, .d, .f, .g]].getD n.val [] := by
  revert n
  decide

theorem Marks.inPhase_eq (m : Marks) (k : Fin 8) :
    m.inPhase k = ((k = 0 && m.minus) || (k = 1 && m.overflow) || (k = 2 && m.opened) || (k = 3 && m.stale)) := by
  obtain ⟨minus, overflow, opened, stale⟩ := m
  revert k minus overflow opened stale
  decide

/-! ## The obligations -/

/-- Settles O47. -/
theorem pageLatchShowsTheChosenPage : Obligations.PageLatchShowsTheChosenPage := by
  refine ⟨fun s => ?_, fun s => ⟨rfl, rfl, fun a p q b => State.choose_consecutive, fun a p => State.choose_last,
    fun i j above member between => ?_, fun i => State.choose_afterLastHousehold, ?_, rfl⟩, fun s running => ?_, fun s k => ?_⟩
  · rw [State.pageList, funext s.onList_eq, Display.tail_cases, ← List.append_assoc]
  · refine State.choose_next member above fun r listed later => ?_
    cases r with
    | household k => exact not_lt.mp fun below => between k later below listed
    | reserve | clock => exact Nat.le_of_lt (Nat.lt_of_lt_of_le j.isLt (by simp [Page.rank]))
  · exact (if_congr s.mem_pageList_clock rfl rfl).symm
  · intro outranked
    have waiting : outranked ↔
        s.waits false .engine = true ∨ s.waits false .intake = true ∨ s.waits false .hostLine = true :=
      or_congr s.waits_engine_iff.symm (or_congr s.waits_intake_iff.symm s.waits_hostLine_iff.symm)
    refine ⟨fun h => exec_pageLatch_outranked running (waiting.mp h), exec_pageLatch_idle running, fun free choice fetch => ?_⟩
    rw [waiting, not_or, not_or, Bool.not_eq_true, Bool.not_eq_true, Bool.not_eq_true] at free
    obtain ⟨engine, intake, line⟩ := free
    have latched := exec_pageLatch running engine intake line fetch
    intro d dig shown unmarked
    refine ⟨fun empty => ?_, fun i chosen => ?_, fun chosen => ?_, fun chosen => ?_⟩
    · rw [empty] at latched
      exact latched
    · intro h v
      rw [chosen] at latched
      have content (present : (s.household i).member ≠ .vacant) : s.content (.household i) = s.householdPage i :=
        if_pos (by simpa [Household.present] using present)
      refine ⟨fun vacant => ?_, fun present => ⟨fun small => ?_, fun large => ?_⟩⟩
      · have empty : s.content (.household i) = .none := if_neg (by simp [Household.present, show (s.household i).member = .vacant from vacant])
        exact latched.trans (by rw [Option.elim_some, empty]; rfl)
      · refine latched.trans ?_
        rw [Option.elim_some, content present, State.householdPage, householdGlyphs_shown i (v := hundredths (s.household i).balance) small]
        rfl
      · refine latched.trans ?_
        rw [Option.elim_some, content present, State.householdPage, householdGlyphs_over i (v := hundredths (s.household i).balance) large]
        rfl
    · intro letter marks
      rw [chosen] at latched
      have page (g : Vector Glyph 8) (glyphs : s.reservePage.glyphs = g) :
          s.content .reserve = { page := some .reserve, glyphs := g, marks := marks } := by rw [← glyphs]; rfl
      refine ⟨fun v last => ?_, fun last => ?_⟩
      · exact latched.trans (congrArg (fun c => Host.Outcome.next (s.withDisplay (s.display.latch c)))
          (page _ (State.reservePage_last last)))
      · exact latched.trans (congrArg (fun c => Host.Outcome.next (s.withDisplay (s.display.latch c)))
          (page _ (State.reservePage_none last)))
    · intro t
      rw [chosen] at latched
      refine ⟨fun valid => ?_, fun invalid => ?_⟩
      · refine latched.trans ?_
        rw [Option.elim_some, State.content, State.clockPage, if_pos valid]
        rfl
      · refine latched.trans ?_
        rw [Option.elim_some, State.content, State.clockPage, if_neg (by simp [invalid])]
        rfl
  · refine ⟨fun dark => if_neg fun h => dark (by simpa [State.running] using h), fun running showing => ?_⟩
    intro digits m
    refine (if_pos (by simp [State.running, running, showing])).trans
      (congrArg₂ (fun (lit : List Segment) (mark : Bool) => some
        ({ common := k.val / 2 + 1, commonHigh := k.val % 2 = 1, litHigh := k.val % 2 = 0, segments := lit, mark := mark } :
          PhaseDrive)) ?_ (m.inPhase_eq k))
    cases s.display.glyphs[k] with
    | digit n => exact digitSegments_eq n
    | dash | n | L | H | blank => rfl

/-- Settles O48. -/
theorem dwellsEndByTheMode : Obligations.DwellsEndByTheMode := by
  intro s running d with_ dark
  have dwell : exec .dwellEnd s = .next (s.withDisplay d.endDwell) := (exec_running rfl running).trans rfl
  have blank : exec .blankDwellEnd s = .next (s.withDisplay d.endBlank) := (exec_running rfl running).trans rfl
  have frame : exec .frameEnd s = .next (s.withDisplay d.endFrame) := (exec_running rfl running).trans rfl
  refine ⟨fun showing fetch => ?_, fun blanking => ?_, fun fetch => ⟨fun more => ?_, fun last showing => ?_,
    fun last blanking => ?_⟩⟩
  · have ends : d.endDwell = d.startPage d.follow := if_pos (by simp [showing, fetch])
    refine ⟨fun scroll => dwell.trans ?_, fun hold => dwell.trans ?_, fun off => dwell.trans ?_⟩
    · rw [ends, Display.startPage, scroll, if_pos showing]
      rfl
    · rw [ends, Display.startPage, hold, if_pos showing]
      rfl
    · rw [ends, Display.startPage, off]
      rfl
  · have ends : d.endBlank = d.startPage .first := if_pos blanking
    have blanked : d.activity ≠ .showing := by simp [blanking]
    refine ⟨fun scroll => blank.trans ?_, fun hold => blank.trans ?_, fun off => blank.trans ?_⟩
    · rw [ends, Display.startPage, scroll, if_neg blanked]
      rfl
    · rw [ends, Display.startPage, hold, if_neg blanked]
      rfl
    · rw [ends, Display.startPage, off]
      rfl
  · have counts : d.endFrame = { d with framesLeft := d.framesLeft - 1 } :=
      (if_neg (by simp [fetch]; omega)).trans (if_pos more)
    rw [frame, counts]
    rfl
  · have ends : d.endFrame = d.endDwell :=
      (if_neg (by simp [fetch, last])).trans ((if_neg (by simp [last])).trans (if_neg (by simp [showing])))
    rw [frame, dwell, ends]
  · have ends : d.endFrame = d.endBlank :=
      (if_neg (by simp [fetch, last])).trans ((if_neg (by simp [last])).trans (if_pos blanking))
    rw [frame, blank, ends]

end Sys2Proof.Machine

end

section
/-! The display's requests (R175, R177, R179). -/

namespace Sys2Proof.Machine

/-! ## The pairs of DISPCFG (R175) -/

theorem modeOf_iff (v : Tok) (m : Mode) : modeOf v = some m ↔ v = .kw m.kw := by
  constructor
  · intro h; unfold modeOf at h; split at h <;> cases h <;> rfl
  · rintro rfl; cases m <;> rfl

theorem onOffOf_iff (v : Tok) (b : Bool) : onOffOf v = some b ↔ v = .kw (if b then .ON else .OFF) := by
  constructor
  · intro h; unfold onOffOf at h; split at h <;> cases h <;> rfl
  · rintro rfl; cases b <;> rfl

theorem pageOf_iff (v : Tok) (p : PageName) :
    pageOf v = some p ↔
      v = .kw .RESERVE ∧ p = .reserve ∨ v = .kw .CLOCK ∧ p = .clock ∨ ∃ n, v = .num n ∧ p = .slot n := by
  constructor
  · intro h; unfold pageOf at h; split at h <;> cases h <;> simp
  · rintro (⟨rfl, rfl⟩ | ⟨rfl, rfl⟩ | ⟨n, rfl, rfl⟩) <;> rfl

theorem readDisplay_iff (k : Kw) (v : Tok) (a : DisplayValue) :
    readDisplay k v = some a ↔
      (k = .MODE ∧ ∃ m : Mode, v = .kw m.kw ∧ a = .mode m) ∨
        ((k = .RATE ∨ k = .DWELL) ∧ ∃ n, v = .num n ∧ a = .num n) ∨
        ((k = .RESERVE ∨ k = .CLOCK) ∧ ∃ b : Bool, v = .kw (if b then .ON else .OFF) ∧ a = .enable b) ∨
        (k = .PAGE ∧
          (v = .kw .RESERVE ∧ a = .page .reserve ∨ v = .kw .CLOCK ∧ a = .page .clock ∨
            ∃ n, v = .num n ∧ a = .page (.slot n))) := by
  have page : (pageOf v).map DisplayValue.page = some a ↔
      (v = .kw .RESERVE ∧ a = .page .reserve ∨ v = .kw .CLOCK ∧ a = .page .clock ∨
        ∃ n, v = .num n ∧ a = .page (.slot n)) := by
    rw [map_eq_some]
    constructor
    · rintro ⟨p, named, rfl⟩
      rcases (pageOf_iff v p).mp named with ⟨rfl, rfl⟩ | ⟨rfl, rfl⟩ | ⟨n, rfl, rfl⟩ <;> simp
    · rintro (⟨rfl, rfl⟩ | ⟨rfl, rfl⟩ | ⟨n, rfl, rfl⟩)
      exacts [⟨_, rfl, rfl⟩, ⟨_, rfl, rfl⟩, ⟨_, rfl, rfl⟩]
  unfold readDisplay
  split <;> simp_all [-Option.map_eq_some_iff, map_eq_some, numberOf_iff, modeOf_iff, onOffOf_iff]

/-- The pairs that DISPCFG takes (R175). -/
inductive DisplayPair : Kw × DisplayValue → Prop
  | mode (m : Mode) : DisplayPair (.MODE, .mode m)
  | rate (n : Int) : DisplayPair (.RATE, .num n)
  | dwell (n : Int) : DisplayPair (.DWELL, .num n)
  | reserve (b : Bool) : DisplayPair (.RESERVE, .enable b)
  | clock (b : Bool) : DisplayPair (.CLOCK, .enable b)
  | page (p : PageName) : DisplayPair (.PAGE, .page p)

theorem displayPair_of_pairs {args : List Tok} {ps : List (Kw × DisplayValue)} (h : pairs readDisplay args = some ps) :
    ∀ p ∈ ps, DisplayPair p := by
  rintro ⟨k, a⟩ member
  obtain ⟨v, read⟩ := pairs_read h member
  rcases (readDisplay_iff k v a).mp read with
    ⟨rfl, m, -, rfl⟩ | ⟨rfl | rfl, n, -, rfl⟩ | ⟨rfl | rfl, b, -, rfl⟩ |
      ⟨rfl, ⟨-, rfl⟩ | ⟨-, rfl⟩ | ⟨n, -, rfl⟩⟩
  exacts [.mode m, .rate n, .dwell n, .reserve b, .clock b, .page .reserve, .page .clock, .page (.slot n)]

/-! ## Pairs written (R175, R177) -/

/-- A value of DISPCFG that cannot be written. -/
def displayBad : Kw × DisplayValue → Prop
  | (.RATE, .num n) => n ≠ 32 ∧ n ≠ 64
  | (.DWELL, .num n) => ¬(1 ≤ n ∧ n ≤ 255)
  | (.PAGE, .page (.slot n)) => ¬(1 ≤ n ∧ n ≤ 96)
  | _ => False

theorem slotOf_none_iff (n : Int) : slotOf n = none ↔ ¬(1 ≤ n ∧ n ≤ 96) := by
  unfold slotOf; split <;> simp_all

theorem Display.editOne_none_iff (d : Display) (p : Kw × DisplayValue) (ok : DisplayPair p) :
    d.editOne p = none ↔ displayBad p := by
  cases ok with
  | rate n => simp [Display.editOne, displayBad]
  | dwell n => simpa [Display.editOne, displayBad] using natIn_none_iff 1 255 n
  | page p =>
    cases p with
    | slot n => simpa [Display.editOne, displayBad] using slotOf_none_iff n
    | reserve | clock => simp [Display.editOne, displayBad]
  | mode | reserve | clock => simp [Display.editOne, displayBad]

/-- The mode that a value of DISPCFG is, the rate, the dwell, the enable, the held page. -/
def DisplayValue.modeGiven : DisplayValue → Option Mode
  | .mode m => some m
  | _ => none
def DisplayValue.rateGiven : DisplayValue → Option Nat
  | .num n => if n = 32 ∨ n = 64 then some n.toNat else none
  | _ => none
def DisplayValue.dwellGiven : DisplayValue → Option Nat
  | .num n => natIn 1 255 n
  | _ => none
def DisplayValue.enableGiven : DisplayValue → Option Bool
  | .enable b => some b
  | _ => none
def DisplayValue.pageGiven : DisplayValue → Option Page
  | .page .reserve => some .reserve
  | .page .clock => some .clock
  | .page (.slot n) => (slotOf n).map .household
  | _ => none

/-- What of the display no pair writes. -/
def Display.lit (d : Display) : Activity × Option Page × Vector Glyph 8 × Marks × Nat × Option PageChoice × PageChoice :=
  (d.activity, d.current, d.glyphs, d.marks, d.framesLeft, d.fetch, d.resume)

/-- What one pair of DISPCFG writes, field by field. -/
structure Display.EditedOne (p : Kw × DisplayValue) (c d : Display) : Prop where
  mode : if p.1 = .MODE then p.2.modeGiven = some d.mode else d.mode = c.mode
  rate : if p.1 = .RATE then p.2.rateGiven = some d.rate else d.rate = c.rate
  dwell : if p.1 = .DWELL then p.2.dwellGiven = some d.dwell else d.dwell = c.dwell
  reserve : if p.1 = .RESERVE then p.2.enableGiven = some d.reserveOn else d.reserveOn = c.reserveOn
  clock : if p.1 = .CLOCK then p.2.enableGiven = some d.clockOn else d.clockOn = c.clockOn
  page : if p.1 = .PAGE then p.2.pageGiven = some d.heldPage else d.heldPage = c.heldPage
  lit : d.lit = c.lit

theorem Display.editOne_some {c d : Display} {p : Kw × DisplayValue} (ok : DisplayPair p) (h : c.editOne p = some d) :
    Display.EditedOne p c d := by
  cases ok with
  | mode m => cases h; constructor <;> rfl
  | reserve b => cases h; constructor <;> rfl
  | clock b => cases h; constructor <;> rfl
  | rate n =>
    simp only [Display.editOne] at h
    split at h
    next listed => cases h; exact ⟨rfl, if_pos listed, rfl, rfl, rfl, rfl, rfl⟩
    next => cases h
  | dwell n =>
    obtain ⟨w, inRange, rfl⟩ := Option.map_eq_some_iff.mp h
    exact ⟨rfl, rfl, inRange, rfl, rfl, rfl, rfl⟩
  | page p =>
    cases p with
    | reserve => cases h; constructor <;> rfl
    | clock => cases h; constructor <;> rfl
    | slot n =>
      obtain ⟨i, named, rfl⟩ := Option.map_eq_some_iff.mp h
      exact ⟨rfl, rfl, rfl, rfl, rfl, congrArg (Option.map Page.household) named, rfl⟩

section
variable {args : List Tok} {ps : List (Kw × DisplayValue)} (read : pairs readDisplay args = some ps)
include read

theorem Display.editAll_none_iff (d : Display) :
    d.editAll ps = none ↔
      (∃ n, given ps .RATE = some (.num n) ∧ n ≠ 32 ∧ n ≠ 64) ∨
        (∃ n, given ps .DWELL = some (.num n) ∧ ¬(1 ≤ n ∧ n ≤ 255)) ∨
        ∃ n, given ps .PAGE = some (.page (.slot n)) ∧ ¬(1 ≤ n ∧ n ≤ 96) := by
  have ok := displayPair_of_pairs read
  have distinct := ((pairs_iff _ _ _).mp read).2.1
  simp only [given_some_iff distinct]
  refine (foldlM_none_iff Display.editOne_none_iff ok d).trans ⟨?_, ?_⟩
  · rintro ⟨p, member, bad⟩
    cases ok p member with
    | rate n => exact .inl ⟨n, member, bad⟩
    | dwell n => exact .inr (.inl ⟨n, member, bad⟩)
    | page p =>
      cases p with
      | slot n => exact .inr (.inr ⟨n, member, bad⟩)
      | reserve | clock => exact bad.elim
    | mode | reserve | clock => exact bad.elim
  · rintro (⟨n, member, bad⟩ | ⟨n, member, bad⟩ | ⟨n, member, bad⟩) <;> exact ⟨_, member, bad⟩

variable {c d : Display} (written : c.editAll ps = some d)
include written

/-- A field that one keyword writes, with the pair that wrote it. -/
theorem Display.editAll_field {β : Type} {k : Kw} {field : Display → β} {value : DisplayValue → Option β}
    (one : ∀ {c d p}, Display.EditedOne p c d → if p.1 = k then value p.2 = some (field d) else field d = field c) :
    (∃ a, DisplayPair (k, a) ∧ given ps k = some a ∧ value a = some (field d)) ∨
      given ps k = none ∧ field d = field c := by
  have ok := displayPair_of_pairs read
  have distinct := ((pairs_iff _ _ _).mp read).2.1
  refine (foldlM_field (fun c d p ok h => one (Display.editOne_some ok h)) ok distinct written).imp_left ?_
  rintro ⟨a, named, value⟩
  exact ⟨a, ok _ ((given_some_iff distinct k a).mp named), named, value⟩

theorem Display.editAll_mode :
    (∃ m, given ps .MODE = some (.mode m) ∧ d.mode = m) ∨ given ps .MODE = none ∧ d.mode = c.mode := by
  refine (Display.editAll_field read written fun h => h.mode).imp_left ?_
  rintro ⟨_, ⟨m⟩, named, value⟩
  cases value
  exact ⟨_, named, rfl⟩

theorem Display.editAll_rate :
    (∃ n, given ps .RATE = some (.num n) ∧ (d.rate : Int) = n ∧ (n = 32 ∨ n = 64)) ∨
      given ps .RATE = none ∧ d.rate = c.rate := by
  refine (Display.editAll_field read written fun h => h.rate).imp_left ?_
  rintro ⟨a, pair, named, value⟩
  cases pair with
  | rate n =>
    obtain ⟨listed, rate⟩ := Option.ite_none_right_eq_some.mp value
    exact ⟨n, named, by rw [← Option.some.inj rate]; omega, listed⟩

theorem Display.editAll_dwell :
    (∃ n, given ps .DWELL = some (.num n) ∧ (d.dwell : Int) = n ∧ 1 ≤ n ∧ n ≤ 255) ∨
      given ps .DWELL = none ∧ d.dwell = c.dwell := by
  refine (Display.editAll_field read written fun h => h.dwell).imp_left ?_
  rintro ⟨a, pair, named, value⟩
  cases pair with
  | dwell n =>
    obtain ⟨same, low, high⟩ := natIn_some value
    exact ⟨n, named, same, by omega, by omega⟩

theorem Display.editAll_reserve :
    (∃ b, given ps .RESERVE = some (.enable b) ∧ d.reserveOn = b) ∨ given ps .RESERVE = none ∧ d.reserveOn = c.reserveOn := by
  refine (Display.editAll_field read written fun h => h.reserve).imp_left ?_
  rintro ⟨_, ⟨b⟩, named, value⟩
  cases value
  exact ⟨_, named, rfl⟩

theorem Display.editAll_clock :
    (∃ b, given ps .CLOCK = some (.enable b) ∧ d.clockOn = b) ∨ given ps .CLOCK = none ∧ d.clockOn = c.clockOn := by
  refine (Display.editAll_field read written fun h => h.clock).imp_left ?_
  rintro ⟨_, ⟨b⟩, named, value⟩
  cases value
  exact ⟨_, named, rfl⟩

theorem Display.editAll_page :
    (∃ p, given ps .PAGE = some (.page p) ∧
        (p = .reserve ∧ d.heldPage = .reserve ∨ p = .clock ∧ d.heldPage = .clock ∨
          ∃ i : Slot, p = .slot (slotNumber i) ∧ d.heldPage = .household i)) ∨
      given ps .PAGE = none ∧ d.heldPage = c.heldPage := by
  refine (Display.editAll_field read written fun h => h.page).imp_left ?_
  rintro ⟨a, pair, named, value⟩
  cases pair with
  | page p =>
    refine ⟨p, named, ?_⟩
    cases p with
    | reserve => exact .inl ⟨rfl, (Option.some.inj value).symm⟩
    | clock => exact .inr (.inl ⟨rfl, (Option.some.inj value).symm⟩)
    | slot n =>
      obtain ⟨i, slot, held⟩ := Option.map_eq_some_iff.mp value
      exact .inr (.inr ⟨i, congrArg _ (slotOf_some slot), held.symm⟩)

theorem Display.editAll_lit : d.lit = c.lit := by
  have ok := displayPair_of_pairs read
  clear read
  unfold Display.editAll at written
  induction ps generalizing c with
  | nil => cases written; rfl
  | cons p ps ih =>
    simp only [List.foldlM_cons, Option.bind_eq_bind, Option.bind_eq_some_iff] at written
    obtain ⟨e, first, rest⟩ := written
    exact (ih rest fun q h => ok q (List.mem_cons_of_mem _ h)).trans (Display.editOne_some (ok p (by simp)) first).lit

theorem Display.editAll_rest :
    d = { c with
      mode := d.mode, rate := d.rate, dwell := d.dwell, reserveOn := d.reserveOn, clockOn := d.clockOn
      heldPage := d.heldPage } := by
  have lit := Display.editAll_lit read written
  simp only [Display.lit, Prod.mk.injEq] at lit
  obtain ⟨activity, current, glyphs, marks, frames, fetch, resume⟩ := lit
  rw [← activity, ← current, ← glyphs, ← marks, ← frames, ← fetch, ← resume]

end

theorem State.pageVacant_iff {s : State} {ps : List (Kw × DisplayValue)} :
    s.pageVacant ps = true ↔
      ∃ i : Slot, given ps .PAGE = some (.page (.slot (slotNumber i))) ∧ (s.household i).member = .vacant := by
  unfold State.pageVacant
  split
  next n named =>
    rw [named]
    cases slot : slotOf n with
    | none =>
      refine iff_of_false (by simp) ?_
      rintro ⟨i, same, -⟩
      cases same
      simp at slot
    | some i =>
      obtain rfl := slotOf_some slot
      constructor
      · intro vacant
        exact ⟨i, rfl, by simpa [Household.present] using vacant⟩
      · rintro ⟨j, same, vacant⟩
        obtain rfl : i = j := by simpa [slotNumber, Fin.ext_iff] using same
        simp [Household.present, vacant]
  next other =>
    refine iff_of_false (by simp) ?_
    rintro ⟨i, named, -⟩
    exact other _ named

/-! ## The obligation -/

theorem serveDispcfg_edits {s : State} {args : List Tok} {ps : List (Kw × DisplayValue)}
    (read : pairs readDisplay args = some ps) (commissioned : s.service ≠ .uncommissioned)
    (good : s.supply.warning = false) :
    serveRequest .DISPCFG args s =
      (s.display.editAll ps).elim (refuse .RANGE) fun d =>
        if s.pageVacant ps then refuse .STATE else .done (s.withDisplay (s.display.accept d)) (okLine []) := by
  simp only [serveRequest, serveDispcfg, read, State.ifWritable_of commissioned good]
  cases s.display.editAll ps <;> rfl

/-- Settles O49: the pairs written one after another, then the blanking judged of the mode and the rate. -/
theorem displayRequestsSetAndReport : Obligations.DisplayRequestsSetAndReport := by
  refine ⟨readDisplay_iff, fun s args ps read serves commissioned good => ?_, fun s serves commissioned => ?_⟩
  · have served := serveDispcfg_edits read commissioned good
    refine ⟨Display.editAll_none_iff read _, fun out => ?_, fun d written => ⟨fun vacant => ?_,
      fun present => ⟨fun mode rate => ?_, fun changed => ?_⟩, Display.editAll_mode read written,
      Display.editAll_rate read written, Display.editAll_dwell read written, Display.editAll_reserve read written,
      Display.editAll_clock read written, Display.editAll_page read written, Display.editAll_rest read written,
      State.pageVacant_iff⟩⟩
    · rw [out] at served
      exact exec_refuses serves served
    all_goals rw [written] at served
    · exact exec_refuses serves (served.trans (if_pos vacant))
    · have accepted : s.display.accept d = d := if_neg (by simp [mode, rate])
      have done := exec_does serves (served.trans (if_neg (by simp [present])))
      rw [accepted] at done
      exact done
    · have accepted : s.display.accept d = d.startBlank :=
        if_pos ((not_and_or.mp changed).imp (fun h => Ne.symm h) fun h => Ne.symm h)
      have done := exec_does serves (served.trans (if_neg (by simp [present])))
      rw [accepted] at done
      exact done
  · have served := exec_answers serves (State.ifCommissioned_of commissioned (.done s (okLine s.display.fields)))
    intro d common
    refine ⟨fun showing => served.trans ?_, fun blanking => served.trans ?_, fun dark => served.trans ?_⟩
    · rw [Display.fields, Display.shownFields, Display.framesField, if_pos showing, if_pos (.inl showing)]
      rfl
    · rw [Display.fields, Display.shownFields, Display.framesField, if_neg (by simp [show s.display.activity = .blanking from blanking]),
        if_pos (.inr blanking)]
      rfl
    · have hidden : s.display.activity ≠ .showing ∧ s.display.activity ≠ .blanking := by
        change s.display.activity = .off ∨ s.display.activity = .warning at dark
        rcases dark with h | h <;> simp only [h] <;> decide
      rw [Display.fields, Display.shownFields, Display.framesField, if_neg hidden.1, if_neg (not_or.mpr hidden)]
      rfl

end Sys2Proof.Machine

end

section
/-! The text of a request's line, received (R180, R181, R183). -/

namespace Sys2Proof.Machine

/-! ## Words cut and joined (R180) -/

theorem splitAt_of_notMem {sep : Char} {w : List Char} (h : sep ∉ w) : splitAt sep w = [w] := by
  induction w with
  | nil => rfl
  | cons c cs ih =>
    obtain ⟨first, rest⟩ := not_or.mp (mt List.mem_cons.mpr h)
    simp only [splitAt, if_neg (Ne.symm first), ih rest]

theorem splitAt_append {sep : Char} {w : List Char} (h : sep ∉ w) (rest : List Char) :
    splitAt sep (w ++ sep :: rest) = w :: splitAt sep rest := by
  induction w with
  | nil => exact if_pos rfl
  | cons c cs ih =>
    obtain ⟨first, later⟩ := not_or.mp (mt List.mem_cons.mpr h)
    simp only [List.cons_append, splitAt, if_neg (Ne.symm first), ih later]

theorem splitAt_joinText {sep : Char} {w : List Char} {ws : List (List Char)} (h : ∀ v ∈ w :: ws, sep ∉ v) :
    splitAt sep (joinText sep (w :: ws)) = w :: ws := by
  induction ws generalizing w with
  | nil => exact splitAt_of_notMem (h w (by simp))
  | cons v vs ih =>
    rw [joinText, splitAt_append (h w (by simp)), ih fun u later => h u (List.mem_cons_of_mem _ later)]
    simp

theorem mem_joinText {sep c : Char} {ws : List (List Char)} (h : c ∈ joinText sep ws) : c = sep ∨ ∃ w ∈ ws, c ∈ w := by
  induction ws with
  | nil => exact absurd h (by simp [joinText])
  | cons w ws ih =>
    cases ws with
    | nil => exact .inr ⟨w, by simp, h⟩
    | cons v vs =>
      rw [joinText] at h
      · rcases List.mem_append.mp h with here | later
        · exact .inr ⟨w, by simp, here⟩
        · rcases List.mem_cons.mp later with same | later
          · exact .inl same
          · exact (ih later).imp_right fun ⟨u, member, held⟩ => ⟨u, List.mem_cons_of_mem _ member, held⟩
      · simp

/-! ## The names of the requests -/

theorem reqText_word (r : Req) : (reqText r).toList ≠ [] ∧ (reqText r).toList.all wordChar = true := by
  cases r <;> decide +kernel

theorem find_reqText (r : Req) :
    (allRequests.find? fun q => decide ((reqText q).toList = (reqText r).toList)) = some r := by
  cases r <;> decide +kernel

/-! ## Characters received (R180) -/

/-- A character as its sender writes it. -/
def sentChar (c : Char) : RxChar := { code := BitVec.ofNat 8 c.toNat, stopHigh := true }

section
variable {c : Char}

theorem sentChar_code (small : c.toNat < 256) : (sentChar c).code.toNat = c.toNat := by
  simp only [sentChar, BitVec.toNat_ofNat]
  omega

theorem rxChar_sentChar (small : c.toNat < 256) : rxChar (sentChar c) = c := by
  rw [rxChar, sentChar_code small, Char.ofNat_toNat]

/-- What stands in the text of a request's line. -/
def lineChar (c : Char) : Prop := c = ' ' ∨ wordChar c = true

theorem wordChar_iff : wordChar c = true ↔ 33 ≤ c.toNat ∧ c.toNat ≤ 126 ∧ capital c = c := by
  simp [wordChar, and_assoc]

theorem lineChar_range (h : lineChar c) : 32 ≤ c.toNat ∧ c.toNat ≤ 126 := by
  rcases h with rfl | word
  · decide
  · obtain ⟨low, high, -⟩ := wordChar_iff.mp word
    omega

theorem lineChar_capital (h : lineChar c) : capital c = c := by
  rcases h with rfl | word
  · decide
  · exact (wordChar_iff.mp word).2.2

theorem not_rxBad_sentChar (h : lineChar c) : rxBad (sentChar c) = false := by
  obtain ⟨low, high⟩ := lineChar_range h
  simp only [rxBad, sentChar_code (show c.toNat < 256 by omega)]
  simp [sentChar]
  omega

theorem not_rxSpace_sentChar (h : wordChar c = true) : rxSpace (sentChar c) = false := by
  obtain ⟨low, high, -⟩ := wordChar_iff.mp h
  have code := sentChar_code (show c.toNat < 256 by omega)
  have other : (sentChar c).code ≠ 32 := fun same => by
    rw [same] at code
    have : (32 : Byte).toNat = 32 := rfl
    omega
  exact Bool.and_eq_false_iff.mpr (.inr (decide_eq_false other))

end

theorem not_space_of_word {w : List Char} (h : w.all wordChar = true) : ' ' ∉ w := fun member =>
  absurd (List.all_eq_true.mp h _ member) (by decide)

/-! ## The obligation -/

/-- Settles O50: the characters are received as they were sent, the words are cut where they were joined, and each is read
back. -/
theorem requestLinesAreReceivedAsTheyAreWritten : Obligations.RequestLinesAreReceivedAsTheyAreWritten := by
  intro r args wellFormed
  obtain ⟨readable, fits⟩ := Bool.and_eq_true_iff.mp wellFormed
  have word (t : Tok) (member : t ∈ args) :
      tokText t ≠ [] ∧ (tokText t).all wordChar = true ∧ readWord (tokText t) = t := by
    have formed := List.all_eq_true.mp readable t member
    simpa [Tok.wellFormed, and_assoc] using formed
  obtain ⟨named, capitals⟩ := reqText_word r
  have words (w : List Char) (member : w ∈ (reqText r).toList :: args.map tokText) : w ≠ [] ∧ w.all wordChar = true := by
    rcases List.mem_cons.mp member with rfl | member
    · exact ⟨named, capitals⟩
    · obtain ⟨t, held, rfl⟩ := List.mem_map.mp member
      exact ⟨(word t held).1, (word t held).2.1⟩
  have line (c : Char) (member : c ∈ lineText r args) : lineChar c :=
    (mem_joinText member).imp_right fun ⟨w, held, inside⟩ => List.all_eq_true.mp (words w held).2 c inside
  have received : ((lineText r args).map sentChar).map (fun c => capital (rxChar c)) = lineText r args := by
    rw [List.map_map]
    refine (List.map_congr_left fun c member => ?_).trans (List.map_id _)
    have range := lineChar_range (line c member)
    simp only [Function.comp, rxChar_sentChar (show c.toNat < 256 by omega), lineChar_capital (line c member), id]
  have cut : wordsOf (lineText r args) = (reqText r).toList :: args.map tokText := by
    rw [wordsOf, lineText, splitAt_joinText fun w member => not_space_of_word (words w member).2]
    exact List.filter_eq_self.mpr fun w member => by simpa using (words w member).1
  have written : ¬((lineText r args).map sentChar).all rxSpace = true := by
    obtain ⟨c, rest, name⟩ := List.exists_cons_of_ne_nil named
    have first : c ∈ lineText r args := by
      unfold lineText
      cases args.map tokText <;> simp [joinText, name]
    have visible : wordChar c = true := List.all_eq_true.mp capitals c (by simp [name])
    intro spaces
    have space := List.all_eq_true.mp spaces _ (List.mem_map_of_mem first)
    rw [not_rxSpace_sentChar visible] at space
    cases space
  have whole : ¬Config.maxLineLength < ((lineText r args).map sentChar).length := by
    rw [List.length_map]
    exact Nat.not_lt.mpr (of_decide_eq_true fits)
  have clean : ¬((lineText r args).map sentChar).any rxBad = true := by
    rw [List.any_map, List.any_eq_true]
    rintro ⟨c, member, bad⟩
    exact absurd bad (by simp [not_rxBad_sentChar (line c member)])
  have tokens : (args.map tokText).map readWord = args := by
    rw [List.map_map]
    exact (List.map_congr_left fun t member => (word t member).2.2).trans (List.map_id _)
  refine ((if_neg written).trans <| (if_neg whole).trans (if_neg clean)).trans ?_
  refine (congrArg (fun text => some (lineOfWords (wordsOf text))) received).trans ?_
  rw [cut]
  simp only [lineOfWords, find_reqText, tokens]

end Sys2Proof.Machine

end

section
/-! The places of complete lines, and the array's arbiter (R180 to R183, R185, R206). -/

namespace Sys2Proof.Machine

/-! ## Lines received (R180, R181) -/

section
variable {chars : List RxChar}

theorem rxSpace_iff (c : RxChar) : rxSpace c = true ↔ c.stopHigh = true ∧ c.code = 32 := by
  unfold rxSpace
  rw [Bool.and_eq_true, decide_eq_true_iff]

theorem rxBad_iff (c : RxChar) : rxBad c = true ↔ c.stopHigh = false ∨ c.code.toNat < 32 ∨ 126 < c.code.toNat := by
  simp [rxBad, or_assoc]

theorem receiveLine_spaces (h : ∀ c ∈ chars, c.stopHigh = true ∧ c.code = 32) : receiveLine chars = none :=
  if_pos (List.all_eq_true.mpr fun c member => (rxSpace_iff c).mpr (h c member))

section
variable (written : ∃ c ∈ chars, ¬(c.stopHigh = true ∧ c.code = 32))
include written

theorem not_all_rxSpace : ¬chars.all rxSpace = true := by
  obtain ⟨c, member, other⟩ := written
  exact fun all => other ((rxSpace_iff c).mp (List.all_eq_true.mp all c member))

theorem receiveLine_long (long : 160 < chars.length) : receiveLine chars = some .long :=
  (if_neg (not_all_rxSpace written)).trans (if_pos long)

theorem receiveLine_bad (fits : chars.length ≤ 160)
    (bad : ∃ c ∈ chars, c.stopHigh = false ∨ c.code.toNat < 32 ∨ 126 < c.code.toNat) : receiveLine chars = some .bad := by
  obtain ⟨c, member, bad⟩ := bad
  exact (if_neg (not_all_rxSpace written)).trans <| (if_neg (Nat.not_lt.mpr fits)).trans <|
    if_pos (List.any_eq_true.mpr ⟨c, member, (rxBad_iff c).mpr bad⟩)

end

section
variable {s : State} {line : Line}

theorem exec_hostLineComplete (received : receiveLine chars = some line) :
    exec (.hostLineComplete chars) s = .next (s.offerLine line) := by
  change execHostLineComplete chars s = _
  simp only [execHostLineComplete, received]

theorem exec_hostLineComplete_ignored (ignored : receiveLine chars = none) : exec (.hostLineComplete chars) s = .next s := by
  change execHostLineComplete chars s = _
  simp only [execHostLineComplete, ignored]

/-! ## Lines offered (R182, R206) -/

theorem State.offerLine_takes (running : s.power.phase = .running) (free : s.host.inService = none) :
    s.offerLine line = s.takeLine line := by
  simp only [State.offerLine, running, free]

theorem State.offerLine_queues (running : s.power.phase = .running) (held : s.host.inService ≠ none) :
    s.offerLine line = s.queueLine line := by
  obtain ⟨l, held⟩ := Option.ne_none_iff_exists'.mp held
  simp only [State.offerLine, running, held]

theorem State.holdLine_cases (s : State) (line : Line) :
    (s.host.inService = none → s.holdLine line = s.hold line .held) ∧
      (s.host.inService ≠ none → s.holdLine line = s.queueLine line) := by
  refine ⟨fun free => ?_, fun held => ?_⟩
  · simp only [State.holdLine, free]
  · obtain ⟨l, held⟩ := Option.ne_none_iff_exists'.mp held
    simp only [State.holdLine, held]

/-- In start-up every complete line is held, a request command's too (R206, log 4). -/
theorem exec_startingLine {c : Instr} (starting : s.power.phase = .starting)
    (arrives : (∃ chars, c = .hostLineComplete chars ∧ receiveLine chars = some line) ∨
      ∃ r args, c = instrOf r args ∧ line = .request r args) : exec c s = .next (s.holdLine line) := by
  rcases arrives with ⟨chars, rfl, received⟩ | ⟨r, args, rfl, rfl⟩
  · rw [exec_hostLineComplete received]
    simp only [State.offerLine, starting]
  · rw [exec_instrOf]
    simp only [State.requestCommand, starting]

end

end

/-! ## Requests that wait for the array (R185) -/

section
variable {s : State} {r : Req} {args : List Tok}

theorem State.mayServe_waits (reaches : reachesArray r args = true) (ahead : s.startable ≠ none ∨ s.store.deliveries ≠ []) :
    s.mayServe r args = false := by
  rcases ahead with h | h
  · simp [State.mayServe, reaches, s.waits_engine_iff.mpr h]
  · simp [State.mayServe, reaches, s.waits_intake_iff.mpr h]

variable (running : s.power.phase = .running) (waits : s.mayServe r args = false)
include running waits

theorem exec_instrOf_takes (free : s.host.inService = none) :
    exec (instrOf r args) s = .next (s.takeLine (.request r args)) := by
  rw [exec_instrOf]
  simp only [State.requestCommand, running, free, waits, Bool.false_eq_true, if_false, State.takeLine]

theorem exec_instrOf_waits (taken : s.host.inService = some { line := .request r args, stage := .taken }) :
    exec (instrOf r args) s = .next s := by
  rw [exec_instrOf]
  simp only [State.requestCommand, running, taken, waits, Bool.false_eq_true, if_false, if_true]

end

theorem reachesArray_false_iff (r : Req) (args : List Tok) :
    reachesArray r args = false ↔
      r ∈ [Req.NOTICES, .NOTACK, .FDRFORCE, .CHRREAD, .CLKALIGN, .IDENT] ∨ (r = .RESREAD ∧ args = []) ∨
        (r = .FEEDER ∧ args.getLast? = some (.kw .QUEUE)) := by
  cases r <;> simp [reachesArray]

theorem State.waits_engine_ended_iff (s : State) (ended : Bool) :
    s.waits ended .engine = true ↔ s.startable ≠ none ∨ ended = true ∧ s.settlement.computation ≠ none := by
  simp only [State.waits, Bool.or_eq_true, Bool.and_eq_true, Option.isSome_iff_ne_none]

theorem State.arbiterNext_iff (s : State) (ended : Bool) (r : Requester) :
    s.arbiterNext ended = some r ↔
      ∃ higher lower, [Requester.engine, .intake, .hostLine, .display] = higher ++ r :: lower ∧ s.waits ended r = true ∧
        ∀ q ∈ higher, s.waits ended q = false := by
  rw [State.arbiterNext, List.find?_eq_some_iff_append]
  simp only [Bool.not_eq_true']
  constructor
  · rintro ⟨waits, higher, lower, order, first⟩
    exact ⟨higher, lower, order, waits, first⟩
  · rintro ⟨higher, lower, order, waits, first⟩
    exact ⟨waits, higher, lower, order, first⟩

/-! ## The obligation -/

/-- Settles O51: what a line taken comes to is said once, of `takeLine`, and each event that takes one ends in it. -/
theorem completeLinesTakeTheirPlaces : Obligations.CompleteLinesTakeTheirPlaces := by
  unfold Obligations.CompleteLinesTakeTheirPlaces
  intro taken
  have takes (u : State) (line : Line) : taken u line (.next (u.takeLine line)) := by
    refine ⟨?_, ?_, ?_, ?_⟩
    · rintro rfl; rfl
    · rintro rfl; rfl
    · rintro rfl; rfl
    · rintro r args rfl
      refine ⟨fun reply served => ?_, fun passes => ?_⟩
      · simp only [State.takeLine, served]
        rfl
      · cases served : serveRequest r args u with
        | refused reply => exact absurd served (passes reply)
        | done t reply | programming t =>
          simp only [State.takeLine, served]
          rfl
  refine ⟨fun chars => ⟨receiveLine_spaces, fun written => ⟨receiveLine_long written, receiveLine_bad written⟩⟩,
    fun s chars running => ⟨exec_hostLineComplete_ignored, fun line received => ⟨fun free => ?_, fun held => ?_⟩⟩, takes,
    fun s c line starting arrives => ?_, fun s chars _ => exec_hostLineComplete_ignored,
    fun s line reply running replying => ⟨fun free => ?_, fun next waiting => ?_⟩,
    fun s r args running reaches ahead => ?_, reachesArray_false_iff, fun s ended => ⟨s.waits_engine_ended_iff ended,
      s.waits_intake_iff, s.waits_hostLine_iff, ?_, s.arbiterNext_iff ended, fun computing => ?_⟩⟩
  · rw [exec_hostLineComplete received, State.offerLine_takes running free]
    exact takes s line
  · rw [exec_hostLineComplete received, State.offerLine_queues running held]
    have queued := s.queueLine_cases line
    exact ⟨fun free => congrArg _ (queued.1 free), fun full => congrArg _ (queued.2 full)⟩
  · rw [exec_startingLine starting arrives]
    have held := s.holdLine_cases line
    have queued := s.queueLine_cases line
    exact ⟨fun free => congrArg _ (held.1 free), fun busy =>
      ⟨fun free => congrArg _ ((held.2 busy).trans (queued.1 free)),
        fun full => congrArg _ ((held.2 busy).trans (queued.2 full))⟩⟩
  · refine (exec_running rfl running).trans (congrArg _ ?_)
    simp only [State.replySent, replying, free]
    rw [← free]
    rfl
  · have sent : exec .replySent s =
        .next (({ s with host := { s.host with inService := none, waiting := none } } : State).takeLine next) := by
      refine (exec_running rfl running).trans (congrArg _ ?_)
      simp only [State.replySent, replying, waiting]
      rfl
    rw [sent]
    exact takes _ next
  · have waits := State.mayServe_waits reaches ahead
    refine ⟨fun free => ?_, exec_instrOf_waits running waits⟩
    rw [exec_instrOf_takes running waits free]
    exact takes s _
  · simp [State.waits, Option.isSome_iff_ne_none]
  · exact State.arbiterNext_engine ((s.waits_engine_ended_iff true).mpr (.inr ⟨rfl, computing⟩))

end Sys2Proof.Machine

end

section
/-! Notices set, acknowledged and masked, and ATTN (R188, R190 to R192). -/

namespace Sys2Proof.Machine

/-! ## ATTN and the names (R188, R192) -/

theorem Notices.wantsAttention_iff (ns : Notices) :
    ns.wantsAttention = true ↔ ∃ n, (ns.cell n).flag = true ∧ (ns.cell n).mask = true := by
  simp [Notices.wantsAttention, Notices.toList_cells, mem_noticeOrder]

theorem State.driveAttn_attn_iff (s : State) :
    s.driveAttn.notices.attn = true ↔
      s.power.phase = .running ∧ ∃ n, (s.notices.cell n).flag = true ∧ (s.notices.cell n).mask = true := by
  rw [← Notices.wantsAttention_iff]
  change (s.running && s.notices.wantsAttention) = true ↔ _
  simp only [State.running, Bool.and_eq_true, decide_eq_true_eq]

theorem noticeOf_isSome_iff (k : Kw) : (noticeOf k).isSome = true ↔ ∃ n : Notice, k = n.kw := by
  rw [noticeOf, List.find?_isSome]
  constructor
  · rintro ⟨n, -, named⟩
    exact ⟨n, (of_decide_eq_true named).symm⟩
  · rintro ⟨n, rfl⟩
    exact ⟨n, mem_noticeOrder n, decide_eq_true rfl⟩

theorem readAck_iff (k : Kw) (v : Tok) (m : Int) : readAck k v = some m ↔ (∃ n : Notice, k = n.kw) ∧ v = .num m := by
  rw [readAck, Option.ite_none_right_eq_some, noticeOf_isSome_iff, numberOf_iff]

theorem readMask_iff (k : Kw) (v : Tok) (b : Bool) :
    readMask k v = some b ↔ (k = .ALL ∨ ∃ n : Notice, k = n.kw) ∧ v = .kw (if b then .ON else .OFF) := by
  rw [readMask, Option.ite_none_right_eq_some, noticeOf_isSome_iff, onOffOf_iff]

/-! ## Cells rewritten (R190, R191) -/

/-- The state after every cell was changed and ATTN followed. -/
theorem State.mapCells_driven (s : State) (f : Notice → NoticeCell → NoticeCell) :
    ∃ ns : Notices, (s.withNotices (s.notices.mapCells f)).driveAttn = { s with notices := ns } ∧
      (∀ n, ns.cell n = f n (s.notices.cell n)) ∧
      (ns.attn = true ↔
        s.power.phase = .running ∧ ∃ n, (ns.cell n).flag = true ∧ (ns.cell n).mask = true) :=
  ⟨(s.withNotices (s.notices.mapCells f)).driveAttn.notices, rfl, fun n => s.notices.mapCells_cell f n,
    (s.withNotices (s.notices.mapCells f)).driveAttn_attn_iff⟩

theorem serveNotack_judged {args : List Tok} {ps : List (Kw × Int)} (read : pairs readAck args = some ps) (s : State) :
    serveRequest .NOTACK args s =
      if ∀ p ∈ ps, 0 ≤ p.2 ∧ p.2 ≤ 255 then .done (s.acknowledge ps) (okLine (s.acknowledge ps).notices.setFields)
      else refuse .RANGE := by
  simp only [serveRequest, serveNotack, read, List.all_eq_true, natIn_isSome]
  rfl

/-! ## The obligation -/

/-- Settles O53. -/
theorem notackAndNotmaskMoveAttn : Obligations.NotackAndNotmaskMoveAttn := by
  refine ⟨readAck_iff, readMask_iff, fun s n => ⟨(s.notify n).notices, rfl, (s.notify_cell n n).trans (if_pos rfl),
      fun k other => (s.notify_cell n k).trans (if_neg (Ne.symm other)), ?_⟩,
    fun s args serves => ⟨fun malformed => ?_, fun ps read => ⟨fun outside => ?_, fun inside => ?_⟩⟩,
    fun s serves commissioned => exec_answers serves (State.ifCommissioned_of commissioned _),
    fun s args ps read serves commissioned good => ?_⟩
  · exact State.driveAttn_attn_iff _
  · exact exec_refuses serves (by simp only [serveRequest, serveNotack, malformed])
  · refine exec_refuses serves ((serveNotack_judged read s).trans (if_neg fun inside => ?_))
    obtain ⟨p, member, out⟩ := outside
    have := inside p member
    omega
  · obtain ⟨ns, acknowledged, cells, attn⟩ := s.mapCells_driven fun n c => c.judge (given ps n.kw)
    replace acknowledged : s.acknowledge ps = { s with notices := ns } := acknowledged
    have served := (serveNotack_judged read s).trans (if_pos inside)
    rw [acknowledged] at served
    exact ⟨ns, (exec_does serves served).trans rfl, fun n => (cells n).trans rfl, attn.trans (and_iff_right serves.1)⟩
  · have served : serveRequest .NOTMASK args s = .done (s.writeMasks ps) (okLine []) := by
      cases args with
      | nil => cases read
      | cons t ts =>
        simp only [serveRequest, serveNotmask, read]
        exact State.ifWritable_of commissioned good _
    obtain ⟨ns, written, cells, attn⟩ := s.mapCells_driven fun n c => { c with mask := maskAfter ps n c.mask }
    replace written : s.writeMasks ps = { s with notices := ns } := written
    rw [written] at served
    refine ⟨ns, exec_does serves served, fun n => (cells n).trans ?_, attn.trans (and_iff_right serves.1)⟩
    unfold maskAfter
    cases given ps n.kw <;> cases given ps .ALL <;> rfl

end Sys2Proof.Machine

end

section
/-! Charter programs from their requests to their completions (R3, R16, R21, R45, R196, R198). -/

namespace Sys2Proof.Machine

/-! ## What a program would break (R16, R21) -/

theorem State.someSettings_iff (s : State) (p : Settings → Bool) :
    s.someSettings p = true ↔
      ∃ i c, (s.household i).member ≠ .vacant ∧ (s.household i).settings = some c ∧ p c = true := by
  have one (h : Household) : (match h.settings with
      | some c => h.present && p c
      | none => false) = true ↔ ∃ c, h.member ≠ .vacant ∧ h.settings = some c ∧ p c = true := by
    cases held : h.settings with
    | none => simp
    | some c => simp [Household.present]
  rw [State.someSettings, List.any_eq_true]
  constructor
  · rintro ⟨h, member, fits⟩
    rw [toList_eq_map_allSlots] at member
    obtain ⟨i, -, rfl⟩ := List.mem_map.mp member
    exact ⟨i, (one _).mp fits⟩
  · rintro ⟨i, fits⟩
    exact ⟨s.household i, by simp [State.household], (one _).mpr fits⟩

/-- The values held that a program of a word would break. -/
def State.breaks (s : State) (w : CharterIx) (v : Nat) : Prop :=
  (w = 1 ∧ (if 1 ≤ v ∧ v ≤ 96 then v else 0) < s.memberCount) ∨
    (w = 4 ∧ ∃ i c, (s.household i).member ≠ .vacant ∧ (s.household i).settings = some c ∧ v < c.cap) ∨
    (w = 5 ∧ v ≤ 200 ∧ ∃ i : SetIx, v < (s.tariff.sets[i]).levy) ∨
    (w = 6 ∧ ∃ i c, (s.household i).member ≠ .vacant ∧ (s.household i).settings = some c ∧
      c.floor < -((if v ≤ 65534 then (v : Int) else 0) * 1000000))

theorem capCeilingOf_eq {v : Nat} (small : v ≤ 65535) : capCeilingOf v = v := by
  unfold capCeilingOf
  split_ifs <;> omega

theorem lowestFloorOf_eq (v : Nat) : lowestFloorOf v = -((if v ≤ 65534 then (v : Int) else 0) * 1000000) := by
  unfold lowestFloorOf floorMinimumOf
  split_ifs <;> rfl

theorem State.guards_iff (s : State) (w : CharterIx) {v : Nat} (small : v ≤ 65535) : s.guards w v = true ↔ s.breaks w v := by
  unfold State.guards State.breaks
  by_cases members : w = 1
  · subst members
    rw [if_pos rfl, decide_eq_true_iff]
    simp [limitOf]
  · by_cases caps : w = 4
    · subst caps
      simp [State.someSettings_iff, capCeilingOf_eq small]
    · by_cases levies : w = 5
      · subst levies
        have levied : (s.tariff.sets.toList.any fun p => decide (v < p.levy)) = true ↔
            ∃ i : SetIx, v < (s.tariff.sets[i]).levy := by
          simp only [List.any_eq_true, Vector.mem_toList_iff, decide_eq_true_eq]
          constructor
          · rintro ⟨p, member, above⟩
            obtain ⟨i, inside, rfl⟩ := Vector.getElem_of_mem member
            exact ⟨⟨i, inside⟩, above⟩
          · rintro ⟨i, above⟩
            exact ⟨_, Vector.getElem_mem i.isLt, above⟩
        rw [if_neg members, if_neg caps, if_pos rfl, Bool.and_eq_true, decide_eq_true_iff, levied]
        simp [Config.maxLevy]
      · by_cases floors : w = 6
        · subst floors
          simp [State.someSettings_iff, lowestFloorOf_eq]
        · simp [members, caps, levies, floors]

/-! ## CHRPROG and CHRLOCK served (R196, R198) -/

theorem charterIxOf_programmable {w : CharterIx} (other : w ≠ 31) : charterIxOf 30 (w.val : Int) = some w := by
  have inRange : w.val ≤ 30 := by
    have : w.val ≠ 31 := fun same => other (Fin.ext same)
    omega
  simp [charterIxOf, natIn_of_natural, inRange]

theorem charterIxOf_lock : charterIxOf 30 ((31 : CharterIx).val : Int) = none := by decide

section
variable {s : State} (unlocked : s.locked = false) (commissioning : s.service = .commissioning)
  (good : s.supply.warning = false)
include unlocked commissioning good

theorem State.ifProgrammable_of (k : Served) : s.ifProgrammable k = k := by
  simp [State.ifProgrammable, unlocked, commissioning, good]

theorem serveChrprog_lock (v : Word16) :
    serveRequest .CHRPROG [.num (31 : CharterIx).val, .num v.toNat] s = refuse .RANGE := by
  simp only [serveRequest, serveChrprog, State.ifProgrammable_of unlocked commissioning good, charterIxOf_lock]

theorem serveChrprog_word {w : CharterIx} (other : w ≠ 31) (v : Word16) :
    serveRequest .CHRPROG [.num w.val, .num v.toNat] s =
      if v &&& s.charter.words[w] = v ∧ s.guards w v.toNat = false then .programming (s.program (.word w v))
      else refuse .RANGE := by
  have value : natIn 0 65535 (v.toNat : Int) = some v.toNat := by
    rw [natIn_of_natural]
    exact if_pos ⟨Nat.zero_le _, by omega⟩
  simp only [serveRequest, serveChrprog, State.ifProgrammable_of unlocked commissioning good, charterIxOf_programmable other,
    value, BitVec.ofNat_toNat, BitVec.setWidth_eq, programmable, Bool.and_eq_true, decide_eq_true_eq, Bool.not_eq_true']

theorem serveChrlock_eq :
    serveRequest .CHRLOCK [] s =
      s.lockFault.elim (.programming (s.program .lock)) fun w => .refused [[.kw .NO, .kw .RANGE, .nat w.val]] := by
  simp only [serveRequest, serveChrlock, State.ifProgrammable_of unlocked commissioning good]
  cases s.lockFault <;> rfl

end

theorem State.lockFault_first (s : State) {w : CharterIx} (low : w < 8) (bad : lockRange w (s.charterWord w) = false)
    (first : ∀ k : CharterIx, k < w → lockRange k (s.charterWord k) = true) : s.lockFault = some w := by
  have position : ∀ v : CharterIx, v < 8 →
      [(0 : CharterIx), 1, 2, 3, 4, 5, 6, 7] =
          [(0 : CharterIx), 1, 2, 3, 4, 5, 6, 7].take v.val ++ v :: [(0 : CharterIx), 1, 2, 3, 4, 5, 6, 7].drop (v.val + 1) ∧
        ∀ k ∈ [(0 : CharterIx), 1, 2, 3, 4, 5, 6, 7].take v.val, k < v := by decide
  obtain ⟨order, before⟩ := position w low
  exact List.find?_eq_some_iff_append.mpr
    ⟨by simp [bad], _, _, order, fun k earlier => by simp [first k (before k earlier)]⟩

theorem State.lockFault_none (s : State) (all : ∀ w : CharterIx, w < 8 → lockRange w (s.charterWord w) = true) :
    s.lockFault = none := by
  refine List.find?_eq_none.mpr fun w listed => ?_
  have low : w < 8 := by
    revert w
    decide
  simp [all w low]

/-! ## Completions (R3, R45, R196, R198) -/

section
variable {s : State} {line : Line}

theorem State.answerProgram_eq (held : s.host.inService = some { line := line, stage := .programming }) (reply : Reply) :
    s.answerProgram reply = s.hold line (.replying reply) := by
  simp only [State.answerProgram, held]

theorem State.dueReset_none (h : s.power.resetDue = none) : s.dueReset = s := by
  simp only [State.dueReset, h]

theorem State.programWord_eq (w : CharterIx) (v : Word16) :
    s.programWord w v =
      { s with
        charter := { words := s.charter.words.set w v, program := none }
        calendar :=
          if w = 2 ∧ legalLength v.toNat = true then
            { s.calendar with
              bLast := if s.calendar.valid then s.calendar.now.minutes / v.toNat else 0
              held := false }
          else s.calendar } := by
  unfold State.programWord
  by_cases length : w = 2
  · by_cases legal : legalLength v.toNat = true
    · simp only [length, legal, and_self, if_true, State.lengthProgrammed, lengthOf]
      rfl
    · simp only [length, legal, State.lengthProgrammed, lengthOf, Bool.false_eq_true, and_false, if_false, if_true]
      rfl
  · simp only [length, false_and, if_false]
    rfl

end

/-- A request whose reply waits for a charter program. -/
theorem exec_programs {r : Req} {args : List Tok} {s t : State} (serves : s.serves r args)
    (h : serveRequest r args s = .programming t) : exec (instrOf r args) s = .next (t.awaiting r args) := by
  rw [exec_serves serves, h]
  rfl

/-- A request refused with a reply of its own. -/
theorem exec_refusedWith {r : Req} {args : List Tok} {s : State} {reply : Reply} (serves : s.serves r args)
    (h : serveRequest r args s = .refused reply) : exec (instrOf r args) s = .next (s.answering r args reply) := by
  rw [exec_serves serves, h, State.finish_refused]

/-! ## The obligation -/

/-- Settles O55. -/
theorem charterProgramsComplete : Obligations.CharterProgramsComplete := by
  refine ⟨fun n => ⟨?_, ?_, legalLength_iff n, ?_, ?_, ?_, ?_, ?_⟩, ?_, fun s w v line power program held => ?_,
    fun s serves unlocked commissioning good => ⟨fun w low bad first => ?_, fun all => ?_⟩,
    fun s line power program held => ?_⟩
  · exact Bool.and_eq_true_iff.trans (and_congr decide_eq_true_iff decide_eq_true_iff)
  · exact Bool.and_eq_true_iff.trans (and_congr decide_eq_true_iff decide_eq_true_iff)
  · exact decide_eq_true_iff
  · exact Bool.and_eq_true_iff.trans (and_congr decide_eq_true_iff decide_eq_true_iff)
  · exact decide_eq_true_iff
  · exact decide_eq_true_iff
  · exact decide_eq_true_iff
  · rintro s w v args rfl serves unlocked commissioning good
    intro broken
    have guarded : s.guards w v.toNat = true ↔ broken := s.guards_iff w (by omega)
    refine ⟨fun refused => exec_refuses serves ?_, fun other bits intact => ?_⟩
    · by_cases lock : w = 31
      · subst lock
        exact serveChrprog_lock unlocked commissioning good v
      · refine (serveChrprog_word unlocked commissioning good lock v).trans (if_neg ?_)
        rintro ⟨bits, free⟩
        rcases refused with h | h | h
        · exact lock h
        · exact h bits
        · exact Bool.false_ne_true (free.symm.trans (guarded.mpr h))
    · have free : s.guards w v.toNat = false := Bool.eq_false_iff.mpr (mt guarded.mp intact)
      exact exec_programs serves
        ((serveChrprog_word unlocked commissioning good other v).trans (if_pos ⟨bits, free⟩))
  · have running : s.power.phase = .running := by rw [power]
    refine (exec_running rfl running).trans (congrArg _ ?_)
    simp only [State.completeProgram, program, State.programWord_eq]
    exact (congrArg State.dueReset (State.answerProgram_eq (by exact held) _)).trans
      (State.dueReset_none (congrArg Power.resetDue power))
  · have served := serveChrlock_eq unlocked commissioning good
    rw [s.lockFault_first low bad first] at served
    exact exec_refusedWith serves served
  · have served := serveChrlock_eq unlocked commissioning good
    rw [s.lockFault_none all] at served
    exact exec_programs serves served
  · have running : s.power.phase = .running := by rw [power]
    refine (exec_running rfl running).trans (congrArg _ ?_)
    simp only [State.completeLock, program]
    exact (congrArg State.dueReset (State.answerProgram_eq (by exact held) _)).trans
      (State.dueReset_none (congrArg Power.resetDue power))

end Sys2Proof.Machine

end

section
/-! WIPE (R201): the defaults field by field, and what it keeps. -/

namespace Sys2Proof.Machine

theorem Engine.wipe_inFlight {e : Engine} {p : Pass} {x : Exchange} (h : e.wipe.inFlight = some (p, x)) :
    x.vacated = true := by
  obtain ⟨pass, phase⟩ := (Engine.inFlight_iff _ _ _).mp h
  obtain ⟨q, -, rfl⟩ := Option.map_eq_some_iff.mp pass
  cases old : q.phase <;> rcases phase with phase | phase <;> simp [Pass.mapExchange, old] at phase <;> simp [← phase]

/-- The display after WIPE: the defaults, and the first page starting on what the glass shows. -/
theorem Display.wipe_startPage (d : Display) :
    d.wipe.startPage .first =
      { (if d.activity = .showing then { d.wipe with framesLeft := 0 } else d.wipe.dark .showing) with fetch := some .first } :=
  rfl

theorem Display.wipe_startPage_showing {d : Display} (showing : d.activity = .showing) :
    d.wipe.startPage .first = { d.wipe with framesLeft := 0, fetch := some .first } := by
  rw [d.wipe_startPage, if_pos showing]

theorem Display.wipe_startPage_dark {d : Display} (dark : d.activity ≠ .showing) :
    d.wipe.startPage .first = { d.wipe.dark .showing with fetch := some .first } := by
  rw [d.wipe_startPage, if_neg dark]

theorem State.wipeAccounts_eq (s : State) :
    s.wipeAccounts =
      { s with
        table := Vector.replicate 96 Household.wiped, fund := 0, injection := 0, store := s.store.wipe
        settlement := { s.settlement with deferral := .none }, journal := { records := [], nextSeq := some 1 } } := rfl

theorem State.wipeSettings_eq (s : State) :
    s.wipeSettings =
      { s with
        tariff := Tariff.default, feederA := s.feederA.wipe, feederB := s.feederB.wipe, reserve := s.reserve.wipe
        margin := Config.defaultMargin, display := s.display.wipe.startPage .first
        notices := s.notices.unmasked } := rfl

theorem State.wipe_eq (s : State) :
    s.wipe =
      { s with
        table := Vector.replicate 96 Household.wiped, fund := 0, injection := 0, store := s.store.wipe
        settlement := { s.settlement with deferral := .none }, journal := { records := [], nextSeq := some 1 }
        tariff := Tariff.default, feederA := s.feederA.wipe, feederB := s.feederB.wipe, reserve := s.reserve.wipe
        margin := Config.defaultMargin, display := s.display.wipe.startPage .first
        notices := { s.notices.unmasked with attn := s.running && s.notices.unmasked.wantsAttention } } := by
  rw [State.wipe, State.wipeSettings_eq, State.wipeAccounts_eq, State.driveAttn_eq]
  rfl

theorem Notices.unmasked_cell (ns : Notices) (n : Notice) : ns.unmasked.cell n = { ns.cell n with mask := true } :=
  ns.mapCells_cell (fun _ c => { c with mask := true }) n

theorem State.unmasked_wants (s : State) (running : s.power.phase = .running) :
    (s.running && s.notices.unmasked.wantsAttention) = true ↔ ∃ n, (s.notices.cell n).flag = true := by
  simp [State.running, running, Notices.wantsAttention_iff, Notices.unmasked_cell]

/-- Settles O57. -/
theorem wipeRestoresTheDefaults : Obligations.WipeRestoresTheDefaults := by
  intro s serves commissioning good
  have served : serveRequest .WIPE [] s = .done s.wipe (okLine []) := by
    simp only [serveRequest, serveWipe, commissioning, good, ne_eq, not_true, Bool.false_eq_true, if_false]
  rw [s.wipe_eq] at served
  refine ⟨_, exec_does serves served, fun i => ?_, rfl, rfl, rfl, rfl, rfl, fun e => ?_, fun i => ?_, fun f => ?_, rfl, rfl,
    ?_, fun showing => ?_, fun dark => ?_, s.notices.unmasked_cell, s.unmasked_wants serves.1, rfl, rfl, rfl, rfl, rfl, rfl⟩
  · exact Vector.getElem_replicate ..
  · exact Vector.getElem_replicate ..
  · exact Vector.getElem_replicate ..
  · cases f <;> exact ⟨rfl, rfl, rfl, rfl, rfl, rfl, rfl, rfl, rfl, fun p x => Engine.wipe_inFlight⟩
  · by_cases showing : s.display.activity = .showing
    · rw [Display.wipe_startPage_showing showing]
      exact ⟨rfl, rfl, rfl, rfl, rfl, rfl, showing, rfl, rfl⟩
    · rw [Display.wipe_startPage_dark showing]
      exact ⟨rfl, rfl, rfl, rfl, rfl, rfl, rfl, rfl, rfl⟩
  · rw [Display.wipe_startPage_showing showing]
    exact ⟨rfl, rfl, rfl⟩
  · rw [Display.wipe_startPage_dark dark]
    exact ⟨rfl, rfl, rfl⟩

end Sys2Proof.Machine

end

section
/-! The supply monitor (R120, R178, R202 to R204). -/

namespace Sys2Proof.Machine

/-! ## A page start by the mode (R174) -/

section
variable {d : Display} (choice : PageChoice)

theorem Display.startPage_scroll (scroll : d.mode = .scroll) :
    d.startPage choice =
      { (if d.activity = .showing then { d with framesLeft := 0 } else d.dark .showing) with fetch := some choice } := by
  simp only [Display.startPage, scroll]

theorem Display.startPage_hold (hold : d.mode = .hold) :
    d.startPage choice =
      { (if d.activity = .showing then { d with framesLeft := 0 } else d.dark .showing) with fetch := some .held } := by
  simp only [Display.startPage, hold]

theorem Display.startPage_off (off : d.mode = .off) : d.startPage choice = d.dark .off := by
  simp only [Display.startPage, off]

end

/-! ## The engines and the state (R120, R203, R204) -/

theorem Engine.warn_eq (e : Engine) :
    e.warn =
      { e with
        next := none
        pass := e.pass.bind fun p => if p.phase = .guard then none else some { p with stopping := true } } := by
  unfold Engine.warn
  cases e.pass with
  | none => rfl
  | some p => cases h : p.phase <;> simp [h]

theorem State.enterWarning_eq (s : State) :
    s.enterWarning =
      ({ s with
        supply := { warning := true, lowRun := 4, goodRun := 0, pfail := false }, feederA := s.feederA.warn
        feederB := s.feederB.warn, display := s.display.warn } : State).notify .powerWarning := rfl

theorem State.leaveWarning_eq (s : State) :
    s.leaveWarning =
      { s with
        supply := { warning := false, lowRun := 0, goodRun := 64, pfail := true }, display := s.display.recover } := rfl

theorem State.enterWarning_parts (s : State) :
    s.enterWarning =
      { s with
        supply := { warning := true, lowRun := 4, goodRun := 0, pfail := false }, display := s.display.warn
        feederA := s.enterWarning.feederA, feederB := s.enterWarning.feederB, notices := s.enterWarning.notices } := rfl

theorem State.enterWarning_engine (s : State) (f : Feeder) : s.enterWarning.engine f = (s.engine f).warn := by
  cases f <;> rfl

section
variable {s : State} (running : s.power.phase = .running)
include running

theorem exec_supplyWarning : exec .supplyWarning s = .next (if s.supply.warning then s else s.enterWarning) :=
  exec_running (f := fun s => if s.supply.warning then s else s.enterWarning) rfl running

theorem exec_supplyGood : exec .supplyGood s = .next (if s.supply.warning then s.leaveWarning else s) :=
  exec_running (f := fun s => if s.supply.warning then s.leaveWarning else s) rfl running

end

/-! ## Samples (R202) -/

section
variable {s : State}

theorem State.lowSample_warns (good : s.supply.warning = false) (low : 3 ≤ s.supply.lowRun) : s.lowSample = s.enterWarning := by
  have full : bump Config.lowRunLimit s.supply.lowRun = Config.lowRunLimit := Nat.min_eq_right (Nat.succ_le_succ low)
  simp only [State.lowSample, good, full, Bool.not_false, Bool.true_and, decide_true, if_true]

theorem State.lowSample_counts (h : s.supply.warning = true ∨ s.supply.lowRun < 3) :
    s.lowSample = { s with supply := { s.supply with lowRun := min (s.supply.lowRun + 1) 4, goodRun := 0 } } := by
  refine if_neg fun warns => ?_
  obtain ⟨good, full⟩ := Bool.and_eq_true_iff.mp warns
  rcases h with h | h
  · rw [h] at good
    cases good
  · have full : min (s.supply.lowRun + 1) 4 = 4 := of_decide_eq_true full
    omega

theorem State.goodSample_recovers (warned : s.supply.warning = true) (run : 63 ≤ s.supply.goodRun) :
    s.goodSample = s.leaveWarning := by
  have full : bump Config.goodRunLimit s.supply.goodRun = Config.goodRunLimit := Nat.min_eq_right (Nat.succ_le_succ run)
  simp only [State.goodSample, warned, full, Bool.true_and, decide_true, if_true]

theorem State.goodSample_counts (h : s.supply.warning = false ∨ s.supply.goodRun < 63) :
    s.goodSample = { s with supply := { s.supply with goodRun := min (s.supply.goodRun + 1) 64, lowRun := 0 } } := by
  refine if_neg fun recovers => ?_
  obtain ⟨warned, full⟩ := Bool.and_eq_true_iff.mp recovers
  rcases h with h | h
  · rw [h] at warned
    cases warned
  · have full : min (s.supply.goodRun + 1) 64 = 64 := of_decide_eq_true full
    omega

end

/-! ## The obligation -/

/-- Settles O58. -/
theorem supplySamplesWarnAndRecover : Obligations.SupplySamplesWarnAndRecover := by
  intro s running d dark lit resumed good
  have low : exec (.vddSample true) s = .next s.lowSample := (exec_running rfl running).trans rfl
  have high : exec (.vddSample false) s = .next s.goodSample := (exec_running rfl running).trans rfl
  have resumption : d.resumption = resumed := by
    change (if d.activity = .showing then _ else PageChoice.first) = if d.activity = .showing then _ else _
    refine if_congr Iff.rfl ?_ rfl
    unfold Display.follow
    cases d.fetch <;> cases d.current <;> rfl
  have warned : d.warn = { dark .warning with resume := resumed } := congrArg (fun r => { dark .warning with resume := r }) resumption
  refine ⟨fun quiet => ⟨?_, s.enterWarning, ?_, ?_, (s.notify_cell _ _).trans (if_pos rfl),
      fun n other => (s.notify_cell _ _).trans (if_neg (Ne.symm other)), ?_, fun f => ?_, fun run => ?_, ?_⟩,
    fun warned => ⟨?_, s.leaveWarning, ?_, ?_, fun run => ?_⟩, fun h => low.trans (congrArg _ (State.lowSample_counts h)),
    fun h => high.trans (congrArg _ (State.goodSample_counts h))⟩
  · exact (exec_supplyGood running).trans (congrArg _ (if_neg (by simp [quiet])))
  · exact (exec_supplyWarning running).trans (congrArg _ (if_neg (by simp [quiet])))
  · exact s.enterWarning_parts.trans (congrArg (fun e : Display => { s with
      supply := { warning := true, lowRun := 4, goodRun := 0, pfail := false }, display := e
      feederA := s.enterWarning.feederA, feederB := s.enterWarning.feederB, notices := s.enterWarning.notices }) warned)
  · exact (State.driveAttn_attn_iff _).trans (and_iff_right running)
  · rw [s.enterWarning_engine, Engine.warn_eq]
    cases (s.engine f).pass <;> rfl
  · exact low.trans (congrArg _ (State.lowSample_warns quiet run))
  · have recovered : s.enterWarning.display.recover = match d.mode with
        | .scroll => { dark .showing with resume := resumed, fetch := some resumed }
        | .hold => { dark .showing with resume := resumed, fetch := some .held }
        | .off => { dark .off with resume := resumed } := by
      change d.warn.startPage d.warn.resume = _
      rw [warned]
      unfold Display.startPage
      cases d.mode <;> rfl
    refine (exec_supplyGood (s := s.enterWarning) running).trans (congrArg _ ?_)
    exact (State.leaveWarning_eq s.enterWarning).trans
      (congrArg (fun e : Display => { s.enterWarning with supply := good, display := e }) recovered)
  · exact (exec_supplyWarning running).trans (congrArg _ (if_pos warned))
  · exact (exec_supplyGood running).trans (congrArg _ (if_pos warned))
  · have recovered : s.display.recover = match d.mode with
        | .scroll => { lit with fetch := some d.resume }
        | .hold => { lit with fetch := some .held }
        | .off => dark .off := by
      change d.startPage d.resume = _
      cases mode : d.mode with
      | scroll => exact d.startPage_scroll _ mode
      | hold => exact d.startPage_hold _ mode
      | off => exact d.startPage_off _ mode
    exact s.leaveWarning_eq.trans (congrArg (fun e : Display => { s with supply := good, display := e }) recovered)
  · exact high.trans (congrArg _ (State.goodSample_recovers warned run))

end Sys2Proof.Machine

end

section
/-! Resets, and the beginning of a start-up (R67, R71, R111, R136, R197, R199, R205, R206). -/

namespace Sys2Proof.Machine

/-! ## A reset taking effect (R205) -/

/-- The store after a reset: nothing waits, and a book that was being settled is DUE again (R67, R71). -/
def BookStore.halt (k : BookStore) : BookStore :=
  { k with deliveries := [], books := k.books.map fun b => { b with state := b.state.undo } }

theorem BookState.undo_undo (b : BookState) : b.undo.undo = b.undo := by
  cases b <;> rfl

theorem BookStore.halt_halt (k : BookStore) : k.halt.halt = k.halt := by
  simp [BookStore.halt, BookState.undo_undo]

theorem State.halt_eq (s : State) (phase : PowerPhase) :
    s.halt phase =
      ({ s with
        feederA := s.feederA.halt, feederB := s.feederB.halt, settlement := { computation := none, deferral := .none }
        store := s.store.halt, calendar := { s.calendar with aligning := false }, display := s.display.dark .off
        host := { s.host with inService := none, waiting := none }, supply := { s.supply with pfail := false }
        power := { phase := phase, resetDue := none } } : State).driveAttn := by
  simp only [State.halt, State.discardComputation, State.withFeederA, State.withFeederB, State.withSettlement,
    State.withStore, State.withCalendar, State.withDisplay, State.withHost, State.withSupply, State.withPower, BookStore.halt]

theorem State.driveAttn_stopped {s : State} (stopped : s.power.phase ≠ .running) :
    s.driveAttn = { s with notices := { s.notices with attn := false } } := by
  have idle : s.running = false := by simp [State.running, stopped]
  rw [s.driveAttn_eq, idle, Bool.false_and]

theorem State.halt_stopped (s : State) {phase : PowerPhase} (stopped : phase ≠ .running) :
    s.halt phase =
      { s with
        feederA := s.feederA.halt, feederB := s.feederB.halt, settlement := { computation := none, deferral := .none }
        store := s.store.halt, calendar := { s.calendar with aligning := false }, display := s.display.dark .off
        host := { s.host with inService := none, waiting := none }, supply := { s.supply with pfail := false }
        power := { phase := phase, resetDue := none }, notices := { s.notices with attn := false } } := by
  rw [s.halt_eq]
  exact State.driveAttn_stopped stopped

/-- A reset in a reset adds nothing to it. -/
theorem State.halt_halt (s : State) {p q : PowerPhase} (held : p ≠ .running) (stopped : q ≠ .running) :
    (s.halt p).halt q = s.halt q := by
  rw [State.halt_stopped _ stopped, State.halt_stopped _ stopped, State.halt_stopped _ held]
  simp only [BookStore.halt_halt]
  rfl

/-- What was due does not matter to a reset that takes effect. -/
theorem State.halt_withPower (s : State) (p : Power) {q : PowerPhase} (stopped : q ≠ .running) :
    (s.withPower p).halt q = s.halt q := by
  rw [State.halt_stopped _ stopped, State.halt_stopped _ stopped]
  rfl

/-! ## Start-up beginning (R199, R206) -/

theorem State.beginStartup_stopped (s : State) (mode : ModeStrap) (rate : Rate) :
    s.beginStartup mode rate =
      { s with
        feederA := s.feederA.restart, feederB := s.feederB.restart, settlement := { computation := none, deferral := .none }
        store := { s.store.halt with late := 0 }, calendar := { s.calendar with aligning := false }
        display := s.display.dark .off, host := { rate := rate, inService := none, waiting := none, discarded := 0 }
        supply := { s.supply with pfail := false }, power := { phase := .starting, resetDue := none }
        service := s.resolvedService mode, reserve := s.reserve.restart, notices := s.notices.cleared } := by
  simp only [State.beginStartup, s.halt_stopped (show PowerPhase.starting ≠ .running by simp), State.withService,
    State.withHost, State.withFeederA, State.withFeederB, State.withReserve, State.withStore, State.withNotices]
  rfl

theorem State.resolvedService_eq (s : State) (mode : ModeStrap) :
    s.resolvedService mode =
      if s.charterWord 31 = 0 then .service else if mode = .commission then .commissioning else .uncommissioned := by
  unfold State.resolvedService
  rw [s.locked_keyword]
  cases mode <;> rfl

theorem State.beginStartup_halt (s : State) {p : PowerPhase} (stopped : p ≠ .running) (mode : ModeStrap) (rate : Rate) :
    (s.halt p).beginStartup mode rate = s.beginStartup mode rate := by
  rw [State.beginStartup_stopped, State.beginStartup_stopped, State.halt_stopped _ stopped]
  simp only [BookStore.halt_halt]
  rfl

theorem State.beginStartup_withPower (s : State) (p : Power) (mode : ModeStrap) (rate : Rate) :
    (s.withPower p).beginStartup mode rate = s.beginStartup mode rate := by
  rw [State.beginStartup_stopped, State.beginStartup_stopped]
  rfl

theorem Notices.cleared_cell (ns : Notices) (n : Notice) :
    ns.cleared.cell n = { flag := false, count := 0, mask := (ns.cell n).mask } := by
  simp [Notices.cleared, Notices.cell, tabulate]

/-! ## What a reset keeps of the settings (R111, R136, R167, R191) -/

/-- The settings and the accounts' sums that resets and start-up keep. -/
def State.keepsSettings (s t : State) : Prop :=
  (t.display.mode = s.display.mode ∧ t.display.rate = s.display.rate ∧ t.display.dwell = s.display.dwell ∧
      t.display.reserveOn = s.display.reserveOn ∧ t.display.clockOn = s.display.clockOn ∧
      t.display.heldPage = s.display.heldPage) ∧
    (∀ n, (t.notices.cell n).mask = (s.notices.cell n).mask) ∧
    (∀ f, (t.engine f).timeout = (s.engine f).timeout ∧ (t.engine f).retries = (s.engine f).retries) ∧
    t.reserve.settings = s.reserve.settings ∧ t.margin = s.margin ∧ t.tariff = s.tariff ∧ t.charter = s.charter ∧
    t.fund = s.fund ∧ t.injection = s.injection ∧ t.journal = s.journal

theorem State.halt_keepsSettings (s : State) {phase : PowerPhase} (stopped : phase ≠ .running) :
    s.keepsSettings (s.halt phase) := by
  rw [s.halt_stopped stopped]
  exact ⟨⟨rfl, rfl, rfl, rfl, rfl, rfl⟩, fun n => rfl, fun f => by cases f <;> exact ⟨rfl, rfl⟩, rfl, rfl, rfl, rfl, rfl, rfl, rfl⟩

theorem State.beginStartup_keepsSettings (s : State) (mode : ModeStrap) (rate : Rate) :
    s.keepsSettings (s.beginStartup mode rate) := by
  rw [s.beginStartup_stopped]
  exact ⟨⟨rfl, rfl, rfl, rfl, rfl, rfl⟩, fun n => by simp only [Notices.cleared_cell],
    fun f => by cases f <;> exact ⟨rfl, rfl⟩, rfl, rfl, rfl, rfl, rfl, rfl, rfl⟩

end Sys2Proof.Machine

end

section
/-! The events of the end of a start-up, one after another (R6, R160, R176, R182, R188, R206). -/

namespace Sys2Proof.Machine

/-! ## Running through the events -/

section
variable {s : State} {events : List StartEvent}

/-- A property that each of the events taken keeps holds after them all. -/
theorem State.takeStartEvents_induct {P : State → Prop}
    (step : ∀ u examined, ∀ e ∈ events, P u → P (u.takeStartEvent examined e)) (start : P s) :
    P (s.takeStartEvents events) := by
  have all (p : State × Bool) (hp : P p.1) :
      P (events.foldl (fun p e => (p.1.takeStartEvent p.2 e, p.2 || e = .settling)) p).1 := by
    induction events generalizing p with
    | nil => exact hp
    | cons e rest ih =>
      exact ih (fun u examined f later => step u examined f (List.mem_cons_of_mem _ later)) _
        (step _ _ e List.mem_cons_self hp)
  exact all _ start

/-- A property that one of the events sets and each of the others keeps holds after them all. -/
theorem State.takeStartEvents_sets {P Q : State → Prop} {e : StartEvent} (taken : e ∈ events)
    (keeps : ∀ u examined, ∀ f ∈ events, P u → P (u.takeStartEvent examined f))
    (sets : ∀ u examined, P u → Q (u.takeStartEvent examined e))
    (stays : ∀ u examined, ∀ f ∈ events, f ≠ e → P u → Q u → Q (u.takeStartEvent examined f)) (start : P s) :
    Q (s.takeStartEvents events) := by
  have all (rest : List StartEvent) (sub : ∀ f ∈ rest, f ∈ events) (p : State × Bool) (hp : P p.1)
      (set : Q p.1 ∨ e ∈ rest) : Q (rest.foldl (fun p e => (p.1.takeStartEvent p.2 e, p.2 || e = .settling)) p).1 := by
    induction rest generalizing p with
    | nil => exact set.resolve_right (by simp)
    | cons f rest ih =>
      have member := sub f List.mem_cons_self
      refine ih (fun g later => sub g (List.mem_cons_of_mem _ later)) _ (keeps _ _ f member hp) ?_
      by_cases here : f = e
      · subst here
        exact .inl (sets _ _ hp)
      · rcases set with set | later
        · exact .inl (stays _ _ f member here hp set)
        · exact .inr ((List.mem_cons.mp later).resolve_left (Ne.symm here))
  exact all events (fun f h => h) _ start (.inr taken)

/-- How often the events set a notice that only `.notices` sets. -/
theorem State.takeStartEvents_raised {P : State → Prop} {n : Notice} {k : Nat}
    (keeps : ∀ u examined, ∀ e ∈ events, P u → P (u.takeStartEvent examined e))
    (sets : ∀ u examined, P u → Raised u (u.takeStartEvent examined .notices) n k)
    (quiet : ∀ u examined, ∀ e ∈ events, e ≠ .notices → P u →
      (u.takeStartEvent examined e).notices.cell n = u.notices.cell n) (start : P s) :
    Raised s (s.takeStartEvents events) n (events.count .notices * k) := by
  have all (rest : List StartEvent) (sub : ∀ f ∈ rest, f ∈ events) (p : State × Bool) (hp : P p.1) :
      Raised p.1 (rest.foldl (fun p e => (p.1.takeStartEvent p.2 e, p.2 || e = .settling)) p).1 n
        (rest.count .notices * k) := by
    induction rest generalizing p with
    | nil => simpa using Raised.of_cell rfl
    | cons f rest ih =>
      have member := sub f List.mem_cons_self
      have later := ih (fun g h => sub g (List.mem_cons_of_mem _ h)) (p.1.takeStartEvent p.2 f, p.2 || f = .settling)
        (keeps _ _ f member hp)
      by_cases here : f = .notices
      · subst here
        rw [List.count_cons_self, Nat.add_mul, Nat.one_mul, Nat.add_comm]
        exact (sets _ p.2 hp).trans later
      · rw [List.count_cons_of_ne here, ← Nat.zero_add (rest.count .notices * k)]
        exact (Raised.of_cell (quiet _ p.2 f member here hp)).trans later
  exact all events (fun f h => h) (s, s.startable.isNone) start

/-- Events described in another way give the same state, when they do so while the part runs. -/
theorem State.foldl_startEvents {event : State → Bool → StartEvent → State}
    (same : ∀ u examined e, u.power.phase = .running → u.takeStartEvent examined e = event u examined e)
    (p : State × Bool) (running : p.1.power.phase = .running) :
    events.foldl (fun p e => (p.1.takeStartEvent p.2 e, p.2 || e = .settling)) p =
      events.foldl (fun p e => (event p.1 p.2 e, p.2 || e = .settling)) p := by
  induction events generalizing p with
  | nil => rfl
  | cons e rest ih =>
    rw [List.foldl_cons, List.foldl_cons, ← same _ _ _ running]
    exact ih _ ((congrArg Power.phase (p.1.takeStartEvent_power p.2 e)).trans running)

end

/-! ## Settings held in the engines, the notices and the watch -/

/-- The masks, the engines' timing and the watch's settings are the same in two states. -/
structure State.HoldsSettings (s t : State) : Prop where
  masks : ∀ n, (t.notices.cell n).mask = (s.notices.cell n).mask
  timing : ∀ f, (t.engine f).timeout = (s.engine f).timeout ∧ (t.engine f).retries = (s.engine f).retries
  watch : t.reserve.settings = s.reserve.settings

namespace State.HoldsSettings
variable {s t u : State}

theorem refl (s : State) : s.HoldsSettings s := ⟨fun _ => rfl, fun _ => ⟨rfl, rfl⟩, rfl⟩

theorem trans (h : s.HoldsSettings t) (k : t.HoldsSettings u) : s.HoldsSettings u where
  masks n := (k.masks n).trans (h.masks n)
  timing f := ⟨(k.timing f).1.trans (h.timing f).1, (k.timing f).2.trans (h.timing f).2⟩
  watch := k.watch.trans h.watch

theorem notify (s : State) (n : Notice) : s.HoldsSettings (s.notify n) where
  masks m := by rw [State.notify_cell]; split <;> rfl
  timing f := by rw [State.notify_engine]; exact ⟨rfl, rfl⟩
  watch := rfl

theorem withEngine (s : State) (f : Feeder) {e : Engine} (timeout : e.timeout = (s.engine f).timeout)
    (retries : e.retries = (s.engine f).retries) : s.HoldsSettings (s.withEngine f e) where
  masks n := by rw [State.withEngine_notices]
  timing g := by
    by_cases same : g = f
    · subst same
      rw [State.withEngine_engine]
      exact ⟨timeout, retries⟩
    · rw [State.withEngine_engine_other _ (Ne.symm same)]
      exact ⟨rfl, rfl⟩
  watch := by cases f <;> rfl

theorem foldl {α : Type} {f : State → α → State} (step : ∀ (u : State) a, u.HoldsSettings (f u a)) (l : List α) (s : State) :
    s.HoldsSettings (l.foldl f s) := by
  induction l generalizing s with
  | nil => exact refl s
  | cons a l ih => exact (step s a).trans (ih _)

theorem offer (s : State) (f : Feeder) (i : Slot) (r : Relay) : s.HoldsSettings (s.offer f i r) := by
  rcases s.offer_cases f i r with ⟨-, same⟩ | ⟨-, -, same⟩ | ⟨-, -, full⟩
  · rw [same]; exact withEngine s f rfl rfl
  · rw [same]; exact withEngine s f rfl rfl
  · rw [full]; exact notify s _

theorem evaluate (s : State) (i : Slot) : s.HoldsSettings (s.evaluate i) := by
  rcases s.evaluate_cases i with same | ⟨c, -, -, -, wants⟩
  · rw [same]; exact refl s
  · rw [wants]
    exact (show s.HoldsSettings (s.withHousehold i _) from ⟨fun _ => rfl, fun f => by cases f <;> exact ⟨rfl, rfl⟩, rfl⟩).trans
      (offer _ _ _ _)

theorem evaluateAuto (s : State) : s.HoldsSettings s.evaluateAuto :=
  foldl (fun u i => by
    by_cases auto : (u.household i).isAuto = true
    · rw [if_pos auto]; exact evaluate u i
    · rw [if_neg auto]; exact refl u) allSlots s

theorem withStore (s : State) (k : BookStore) : s.HoldsSettings (s.withStore k) :=
  ⟨fun _ => rfl, fun f => by cases f <;> exact ⟨rfl, rfl⟩, rfl⟩

theorem boundaryAtStore (s : State) (len b step : Nat) : s.HoldsSettings (s.boundaryAtStore len b step) := by
  have skipped (t : State) (k : Nat) : t.HoldsSettings (t.skipBoundary k) := by
    rw [State.skipBoundary]
    exact (withStore t _).trans (notify _ .span)
  unfold State.boundaryAtStore
  split
  · exact refl s
  · split
    · exact skipped s step
    · dsimp only
      split
      · exact ⟨fun _ => rfl, fun f => by cases f <;> exact ⟨rfl, rfl⟩, rfl⟩
      · exact (withStore s _).trans (skipped _ step)

theorem buildPass (s : State) (f : Feeder) (b : Nat) (t : DateTime) : s.HoldsSettings (s.buildPass f b t) := by
  have taken (e : Engine) (plan : PassPlan) : (e.take plan).timeout = e.timeout ∧ (e.take plan).retries = e.retries := by
    unfold Engine.take
    cases e.pass with
    | none => exact ⟨rfl, rfl⟩
    | some p => cases phase : p.phase <;> simp [phase]
  unfold State.buildPass
  split
  · exact refl s
  · dsimp only
    have took := withEngine s f
      (e := ({ s.engine f with queue := (s.requeue f (s.engine f).queue).1 } : Engine).take
        { boundary := b, instant := t, items := s.snapList f })
      (taken _ _).1 (taken _ _).2
    split
    · exact took.trans (notify _ _)
    · exact took

theorem boundaryEvent (s : State) (len b : Nat) : s.HoldsSettings (s.boundaryEvent len b) := by
  rw [s.boundaryEvent_eq]
  refine (trans ?_ (buildPass _ .A _ _)).trans (buildPass _ .B _ _)
  have set : s.HoldsSettings (s.withCalendar { s.calendar with bLast := b, held := false }) :=
    ⟨fun _ => rfl, fun f => by cases f <;> exact ⟨rfl, rfl⟩, rfl⟩
  refine (set.trans (boundaryAtStore _ len b (b - s.calendar.bLast))).trans ?_
  exact ⟨fun _ => rfl, fun f => by cases f <;> exact ⟨rfl, rfl⟩, rfl⟩

theorem catchUp (s : State) : s.HoldsSettings s.catchUp := by
  unfold State.catchUp
  split
  · exact refl s
  · split
    · exact boundaryEvent s _ _
    · exact refl s

end State.HoldsSettings

end Sys2Proof.Machine

end

section
/-! O59: resets keep the array, and start-up takes its events (R197, R205, R206). -/

namespace Sys2Proof.Machine

/-! ## Resets and the beginning of a start-up, at once (R205, R206) -/

section
variable {s : State} {c : Instr}

theorem exec_resetPinAssert (s : State) : exec .resetPinAssert s = .next s.assertReset := rfl

theorem exec_resetPinRelease (s : State) (mode : ModeStrap) (rate : Rate) :
    exec (.resetPinRelease mode rate) s = .next (s.releaseReset mode rate) := rfl

theorem exec_powerLoss (s : State) : exec .powerLoss s = .next s.losePower := rfl

theorem exec_powerOn (s : State) (held : Bool) (mode : ModeStrap) (rate : Rate) :
    exec (.powerOn held mode rate) s = .next (s.powerOn held mode rate) := rfl

theorem State.assertReset_halts
    (h : s.power.phase = .running ∧ s.charter.program = none ∨ s.power.phase = .starting) :
    s.assertReset = s.halt .resetHeld := by
  rcases h with ⟨running, free⟩ | starting
  · simp only [State.assertReset, running, free, Option.isSome_none, Bool.false_eq_true, if_false]
  · simp only [State.assertReset, starting]

theorem State.losePower_halts
    (h : s.power.phase = .running ∧ s.charter.program = none ∨ s.power.phase = .starting) :
    s.losePower = s.halt .off := by
  rcases h with ⟨running, free⟩ | starting
  · simp only [State.losePower, running, free, Option.isSome_none, Bool.false_eq_true, if_false]
  · simp only [State.losePower, starting]

theorem State.losePower_held (h : s.power.phase = .resetHeld) : s.losePower = s.halt .offHeld := by
  simp only [State.losePower, h]

theorem exec_halts {phase : PowerPhase}
    (h : (s.power.phase = .running ∧ s.charter.program = none ∨ s.power.phase = .starting) ∧
        (c = .resetPinAssert ∧ phase = .resetHeld ∨ c = .powerLoss ∧ phase = .off) ∨
      s.power.phase = .resetHeld ∧ c = .powerLoss ∧ phase = .offHeld) :
    phase ≠ .running ∧ exec c s = .next (s.halt phase) := by
  rcases h with ⟨on, ⟨rfl, rfl⟩ | ⟨rfl, rfl⟩⟩ | ⟨resetHeld, rfl, rfl⟩
  · exact ⟨by simp, by rw [exec_resetPinAssert, State.assertReset_halts on]⟩
  · exact ⟨by simp, by rw [exec_powerLoss, State.losePower_halts on]⟩
  · exact ⟨by simp, by rw [exec_powerLoss, State.losePower_held resetHeld]⟩

theorem State.releaseReset_held (h : s.power.phase = .resetHeld) (mode : ModeStrap) (rate : Rate) :
    s.releaseReset mode rate = s.beginStartup mode rate := by
  simp only [State.releaseReset, h]

theorem exec_startsUp {mode : ModeStrap} {rate : Rate} {held : Bool}
    (h : c = .resetPinRelease mode rate ∧ s.power.phase = .resetHeld ∧ held = true ∨
      c = .powerOn held mode rate ∧ s.power.phase = .off) :
    exec c s = .next ((s.beginStartup mode rate).judgeCalendar held) := by
  rcases h with ⟨rfl, resetHeld, rfl⟩ | ⟨rfl, off⟩
  · rw [exec_resetPinRelease, State.releaseReset_held resetHeld, State.judgeCalendar, if_pos rfl]
  · rw [exec_powerOn]
    simp only [State.powerOn, off]

theorem State.judgeCalendar_held (s : State) : s.judgeCalendar true = s := rfl

theorem State.judgeCalendar_lost (s : State) :
    s.judgeCalendar false = { s with calendar := { s.calendar with now := firstMoment, valid := false, aligning := false } } := rfl

theorem BookState.undo_other {b : BookState} (h : ∀ c, b ≠ .settling c) : b.undo = b := by
  cases b with
  | opened => rfl
  | due c => rfl
  | settling c => exact absurd rfl (h c)

/-- What was being settled is DUE again with its cause. -/
theorem BookStore.halt_books (k : BookStore) {f : Book → Book}
    (settling : ∀ b c, b.state = .settling c → f b = { b with state := .due c })
    (other : ∀ b, (∀ c, b.state ≠ .settling c) → f b = b) :
    k.halt = { k with deliveries := [], books := k.books.map f } := by
  have same (b : Book) : ({ b with state := b.state.undo } : Book) = f b := by
    by_cases settles : ∃ c, b.state = .settling c
    · obtain ⟨c, h⟩ := settles
      rw [settling b c h, h, BookState.undo]
    · rw [other b fun c h => settles ⟨c, h⟩, BookState.undo_other fun c h => settles ⟨c, h⟩]
  exact congrArg (fun books => { k with deliveries := [], books := books }) (List.map_congr_left fun b _ => same b)

end

/-! ## A reset during a charter program (R197) -/

section
variable {s : State} {c : Instr}

theorem State.assertReset_programming (running : s.power.phase = .running) (program : s.charter.program ≠ none) :
    s.assertReset = { s with power := { s.power with resetDue := some (dueAsserted s.power.resetDue) } } := by
  simp only [State.assertReset, running, if_pos (Option.isSome_iff_ne_none.mpr program)]
  rfl

theorem State.losePower_programming (running : s.power.phase = .running) (program : s.charter.program ≠ none) :
    s.losePower = { s with power := { s.power with resetDue := some (dueUnpowered s.power.resetDue) } } := by
  simp only [State.losePower, running, if_pos (Option.isSome_iff_ne_none.mpr program)]
  rfl

theorem State.releaseReset_running (running : s.power.phase = .running) (mode : ModeStrap) (rate : Rate) :
    s.releaseReset mode rate =
      { s with power := { s.power with resetDue := dueReleased mode rate s.power.resetDue } } := by
  simp only [State.releaseReset, running]
  rfl

theorem dueAsserted_of (d : Option ResetDue) :
    dueAsserted d = if d = some .powerLost ∨ d = some .powerLostHeld then .powerLostHeld else .held := by
  cases d with
  | none => rfl
  | some d => cases d <;> rfl

theorem dueUnpowered_of (d : Option ResetDue) :
    dueUnpowered d = if d = some .held ∨ d = some .powerLostHeld then .powerLostHeld else .powerLost := by
  cases d with
  | none => rfl
  | some d => cases d <;> rfl

theorem dueReleased_of (mode : ModeStrap) (rate : Rate) {d : Option ResetDue}
    (h : ¬(d = some .held ∨ d = some .powerLostHeld)) : dueReleased mode rate d = d := by
  cases d with
  | none => rfl
  | some d =>
    cases d with
    | held => exact absurd (.inl rfl) h
    | powerLostHeld => exact absurd (.inr rfl) h
    | released m r => rfl
    | powerLost => rfl

end

/-! ## The completion of a program that a reset waits for (R197) -/

section
variable {s x : State} {c : Instr} {d : ResetDue}

theorem State.halt_power (s : State) {phase : PowerPhase} (stopped : phase ≠ .running) :
    (s.halt phase).power = { phase := phase, resetDue := none } := by
  rw [s.halt_stopped stopped]

theorem State.answerProgram_withPower (s : State) (p : Power) (reply : Reply) :
    (s.withPower p).answerProgram reply = (s.answerProgram reply).withPower p := by
  unfold State.answerProgram
  split
  next line held =>
    have same : s.host.inService = some { line := line, stage := .programming } := held
    simp only [same]
    rfl
  next other =>
    split
    next line held => exact absurd held (other line)
    next => rfl

theorem State.answerProgram_power (s : State) (reply : Reply) : (s.answerProgram reply).power = s.power := by
  unfold State.answerProgram
  split <;> rfl

theorem State.answerProgram_charter (s : State) (reply : Reply) : (s.answerProgram reply).charter = s.charter := by
  unfold State.answerProgram
  split <;> rfl

/-- The reset that waited is the one that would come after the completion, as the pin and the supply then are. -/
theorem State.dueReset_after (power : x.power = { phase := .running, resetDue := some d }) (free : x.charter.program = none) :
    let t := x.withPower { phase := .running, resetDue := none }
    let k := t.halt .resetHeld
    exec .resetPinAssert t = .next k ∧ (d = .held → x.dueReset = k) ∧
      (d = .powerLost → .next x.dueReset = exec .powerLoss t) ∧
      (d = .powerLostHeld → .next x.dueReset = exec .powerLoss k) ∧
      ∀ mode rate, d = .released mode rate → .next x.dueReset = exec (.resetPinRelease mode rate) k := by
  intro t k
  have on : t.power.phase = .running ∧ t.charter.program = none := ⟨rfl, free⟩
  have held : k.power.phase = .resetHeld := by rw [State.halt_power _ (by simp)]
  have due : x.power.resetDue = some d := by rw [power]
  refine ⟨by rw [exec_resetPinAssert, State.assertReset_halts (.inl on)], ?_, ?_, ?_, ?_⟩
  · rintro rfl
    simp only [State.dueReset, due]
    exact (x.halt_withPower _ (by simp)).symm
  · rintro rfl
    rw [exec_powerLoss, State.losePower_halts (.inl on), x.halt_withPower _ (by simp)]
    simp only [State.dueReset, due]
  · rintro rfl
    rw [exec_powerLoss, State.losePower_held held, State.halt_halt _ (by simp) (by simp), x.halt_withPower _ (by simp)]
    simp only [State.dueReset, due]
  · rintro mode rate rfl
    rw [exec_resetPinRelease, State.releaseReset_held held, State.beginStartup_halt _ (by simp), x.beginStartup_withPower]
    simp only [State.dueReset, due]

/-- A completion is its event and then the reset that waited for it. -/
theorem exec_completes
    (h : c = .charterProgramCompletion ∧ (∃ w v, s.charter.program = some (.word w v)) ∨
      c = .lockCompletion ∧ s.charter.program = some .lock) (running : s.power.phase = .running) :
    ∃ x : State, x.power = s.power ∧ x.charter.program = none ∧ exec c s = .next x.dueReset ∧
      ∀ p : Power, p.phase = .running → exec c (s.withPower p) = .next (x.withPower p).dueReset := by
  rcases h with ⟨rfl, w, v, program⟩ | ⟨rfl, program⟩
  · refine ⟨(s.programWord w v).answerProgram (okLine [.nat w.val, .nat v.toNat]), ?_, ?_, ?_, fun p on => ?_⟩
    · rw [State.answerProgram_power, s.programWord_eq]
    · rw [State.answerProgram_charter, s.programWord_eq]
    · refine (exec_running rfl running).trans (congrArg _ ?_)
      simp only [State.completeProgram, program]
    · have moved : (s.withPower p).programWord w v = (s.programWord w v).withPower p := by
        simp only [State.programWord_eq]
        rfl
      have still : (s.withPower p).charter.program = some (.word w v) := program
      refine (exec_running rfl on).trans (congrArg _ ?_)
      simp only [State.completeProgram, still, moved, State.answerProgram_withPower]
  · refine ⟨s.programLock.answerProgram (okLine [.kw .SERVICE]), ?_, ?_, ?_, fun p on => ?_⟩
    · rw [State.answerProgram_power]; rfl
    · rw [State.answerProgram_charter]; rfl
    · refine (exec_running rfl running).trans (congrArg _ ?_)
      simp only [State.completeLock, program]
    · have moved : (s.withPower p).programLock = s.programLock.withPower p := rfl
      have still : (s.withPower p).charter.program = some .lock := program
      refine (exec_running rfl on).trans (congrArg _ ?_)
      simp only [State.completeLock, still, moved, State.answerProgram_withPower]

end

end Sys2Proof.Machine

end

section
/-! O59: the events of the end of a start-up, as each block has them (R6, R160, R176, R182, R188, R206). -/

namespace Sys2Proof.Machine

section
variable {s : State} {examined : Bool}

/-! ## Each event (R206) -/

theorem State.takeStartEvent_catchUp_none (h : s.intervalLength = none) : s.takeStartEvent examined .catchUp = s := by
  simp only [State.takeStartEvent, State.catchUp, h]

theorem State.takeStartEvent_catchUp {len : Nat} (h : s.intervalLength = some len) :
    s.takeStartEvent examined .catchUp =
      if s.calendar.valid = true ∧ s.calendar.bLast < s.calendar.now.minutes / len then
        s.boundaryEvent len (s.calendar.now.minutes / len)
      else s := by
  simp only [State.takeStartEvent, State.catchUp, h, boundaryAt, Bool.and_eq_true]
  exact if_congr (and_congr_right fun _ => decide_eq_true_iff) rfl rfl

theorem exec_settlingStart_event (running : s.power.phase = .running) :
    exec .settlingStart s = .next (s.takeStartEvent examined .settling) :=
  exec_running (f := fun s => s.atGrant .engine false State.startSettling) rfl running

theorem exec_pageLatch_event (running : s.power.phase = .running) :
    exec .pageLatch s = .next (s.takeStartEvent true .latch) := by
  rw [exec_running rfl running, State.takeStartEvent_latch]

/-- A state without its books. -/
def State.withoutBooks (s : State) : State := { s with store := { s.store with books := [] } }

theorem State.withoutBooks_startable (s : State) : s.withoutBooks.startable = none := by
  unfold State.startable
  split <;> rfl

/-- A page latched in a state shows what its household table, display, watch and calendar give, whatever books are held. -/
theorem State.withoutBooks_latchPage (s : State) : s.latchPage = { s with display := s.withoutBooks.latchPage.display } := by
  cases fetch : s.display.fetch with
  | none =>
    have still : s.withoutBooks.display.fetch = none := fetch
    simp only [State.latchPage, fetch, still]
    rfl
  | some choice =>
    have still : s.withoutBooks.display.fetch = some choice := fetch
    rw [State.latchPage_fetched fetch, State.latchPage_fetched still]
    rfl

/-- Ahead of a book that the engine has not examined, a latch is what it would be without that book (R68, R206). -/
theorem State.takeStartEvent_latch_ahead (s : State) :
    s.takeStartEvent false .latch = { s with display := (s.withoutBooks.takeStartEvent true .latch).display } := by
  have same : [Requester.engine, .intake, .hostLine].any (s.waitsNow false) =
      [Requester.engine, .intake, .hostLine].any (s.withoutBooks.waitsNow true) := by
    have engine : s.withoutBooks.waits false .engine = false := by
      simp [State.waits, s.withoutBooks_startable]
    simp only [List.any_cons, State.waitsNow_true, State.waitsNow_engine, engine]
    rfl
  simp only [State.takeStartEvent, same]
  split
  · rfl
  · exact s.withoutBooks_latchPage

theorem State.takeStartEvent_firstLine_held {line : Line} (h : s.host.inService = some { line := line, stage := .held }) :
    s.takeStartEvent examined .firstLine = s.takeLine line :=
  State.takeHeldLine_held h

/-- A first line that is not held is as it was. -/
theorem State.takeStartEvent_firstLine_other (h : ∀ line, s.host.inService ≠ some { line := line, stage := .held }) :
    s.takeStartEvent examined .firstLine = s := by
  change s.takeHeldLine = s
  unfold State.takeHeldLine
  split
  next line held => exact absurd held (h line)
  next => rfl

section
variable {r : Req} {args : List Tok} (taken : s.host.inService = some { line := .request r args, stage := .taken })
include taken

theorem exec_service_event (running : s.power.phase = .running) :
    exec (instrOf r args) s = .next (s.takeStartEvent true .service) :=
  (exec_instrOf r args s).trans (congrArg _ (State.serveTaken_request running taken).symm)

theorem State.takeStartEvent_service_ahead :
    s.takeStartEvent false .service =
      if reachesArray r args = true ∧ s.store.deliveries ≠ [] then s
      else s.finish (.request r args) (serveRequest r args s) := by
  simp only [State.takeStartEvent, State.serveTaken, taken, State.waitsNow_engine, Bool.false_or, Bool.and_eq_true]
  refine if_congr (and_congr_right fun _ => ?_) rfl rfl
  simp [State.waitsNow, State.waits]

end

theorem State.takeStartEvent_service_other
    (h : ∀ r args, s.host.inService ≠ some { line := .request r args, stage := .taken }) :
    s.takeStartEvent examined .service = s := by
  change s.serveTaken examined = s
  unfold State.serveTaken
  split
  next r args held => exact absurd held (h r args)
  next => rfl

end

/-- What the end of start-up leaves before its events (R188, R206). -/
theorem State.started_eq (s : State) :
    s.started =
      { s with
        power := { phase := .running, resetDue := none }
        supply := { warning := false, lowRun := 0, goodRun := 0, pfail := true }, notices := s.notices.cleared } := rfl

theorem exec_startupEnd {s : State} (starting : s.power.phase = .starting) (order : List StartEvent) :
    exec (.startupEnd order) s = .next (s.started.takeStartEvents (startSequence order)) := by
  refine Eq.trans (b := .next (if s.power.phase = .starting then s.endStartup order else s)) rfl ?_
  rw [if_pos starting, State.endStartup_eq]

end Sys2Proof.Machine

end

section
/-! O59: a start-up whose first line, latch and book come after its events (R6, R160, R176, R188, R206). -/

namespace Sys2Proof.Machine

/-- The events that every start-up has. -/
def PlainEvent (e : StartEvent) : Prop := e ≠ .settling ∧ e ≠ .latch ∧ e ≠ .service

/-- The blocks that those events may change. -/
abbrev plainBlocks : List Block :=
  [.notices, .calendar, .bookKeys, .books, .counts, .deferral, .feeder .A, .feeder .B, .reserve, .wanted, .display, .host]

section
variable {s : State} {events : List StartEvent} (plain : ∀ e ∈ events, PlainEvent e)

/-- A fact about each of the events that every start-up has. -/
theorem PlainEvent.cases {motive : StartEvent → Prop} (notices : motive .notices) (catchUp : motive .catchUp)
    (evaluation : motive .evaluation) (pageStart : motive .pageStart) (firstLine : motive .firstLine)
    {e : StartEvent} (h : PlainEvent e) : motive e := by
  obtain ⟨settling, latch, service⟩ := h
  cases e with
  | notices => exact notices
  | catchUp => exact catchUp
  | settling => exact absurd rfl settling
  | evaluation => exact evaluation
  | pageStart => exact pageStart
  | latch => exact absurd rfl latch
  | firstLine => exact firstLine
  | service => exact absurd rfl service

theorem State.takeStartEvent_plain_frame (s : State) (examined : Bool) {e : StartEvent} (h : PlainEvent e) :
    Frame plainBlocks s (s.takeStartEvent examined e) :=
  (s.takeStartEvent_frame examined e).mono (by
    refine PlainEvent.cases (motive := fun e => startEventBlocks e ⊆ plainBlocks) ?_ ?_ ?_ ?_ ?_ h <;>
      simp [startEventBlocks])

theorem State.holdsSettings_takeStartEvent (s : State) (examined : Bool) {e : StartEvent} (h : PlainEvent e) :
    s.HoldsSettings (s.takeStartEvent examined e) := by
  refine PlainEvent.cases (motive := fun e => s.HoldsSettings (s.takeStartEvent examined e)) ?_ ?_ ?_ ?_ ?_ h
  · change s.HoldsSettings s.noticesAtStart
    unfold State.noticesAtStart
    dsimp only
    split
    · exact .notify s _
    · exact (State.HoldsSettings.notify s _).trans (.notify _ _)
  · exact .catchUp s
  · exact .evaluateAuto s
  · exact ⟨fun _ => rfl, fun f => by cases f <;> exact ⟨rfl, rfl⟩, rfl⟩
  · have line := s.takeHeldLine_frame
    exact ⟨fun n => congrArg (fun ns : Notices => (ns.cell n).mask) (line.notices (by simp)),
      fun f => ⟨congrArg Engine.timeout (line.engine f (by simp)), congrArg Engine.retries (line.engine f (by simp))⟩,
      congrArg Reserve.settings (line.reserve (by simp))⟩

include plain

theorem State.takeStartEvents_plain_frame : Frame plainBlocks s (s.takeStartEvents events) :=
  State.takeStartEvents_induct (P := Frame plainBlocks s)
    (fun u examined e member h => h.trans (u.takeStartEvent_plain_frame examined (plain e member))) (Frame.refl _ s)

theorem State.takeStartEvents_holdsSettings : s.HoldsSettings (s.takeStartEvents events) :=
  State.takeStartEvents_induct (P := s.HoldsSettings)
    (fun u examined e member h => h.trans (u.holdsSettings_takeStartEvent examined (plain e member))) (.refl s)

end

/-! ## The notices (R188) -/

section
variable {s : State}

theorem State.catchUp_cell (s : State) {n : Notice} (overflow : n ≠ .queueOverflow) (span : n ≠ .span) :
    s.catchUp.notices.cell n = s.notices.cell n := by
  unfold State.catchUp
  split
  · rfl
  · split
    · rw [State.boundaryEvent_cell _ _ _ overflow, State.boundaryAtStore_cell _ _ _ _ span]
      rfl
    · rfl

theorem State.evaluateAuto_cell (s : State) {n : Notice} (h : n ≠ .queueOverflow) :
    s.evaluateAuto.notices.cell n = s.notices.cell n := by
  unfold State.evaluateAuto
  induction allSlots generalizing s with
  | nil => rfl
  | cons i is ih =>
    rw [List.foldl_cons, ih]
    split
    · exact s.evaluate_cell i h
    · rfl

/-- RESTARTED and CLOCK_INVALID are set by `.notices` alone. -/
theorem State.takeStartEvent_quiet (s : State) (examined : Bool) {e : StartEvent} (h : PlainEvent e) (other : e ≠ .notices)
    {n : Notice} (named : n = .restarted ∨ n = .clockInvalid) :
    (s.takeStartEvent examined e).notices.cell n = s.notices.cell n := by
  have overflow : n ≠ .queueOverflow := by rcases named with rfl | rfl <;> simp
  have span : n ≠ .span := by rcases named with rfl | rfl <;> simp
  refine PlainEvent.cases (motive := fun e => e ≠ .notices → (s.takeStartEvent examined e).notices.cell n = s.notices.cell n)
    (absurd rfl) (fun _ => s.catchUp_cell overflow span) (fun _ => s.evaluateAuto_cell overflow) (fun _ => rfl) (fun _ => ?_) h
    other
  exact congrArg (fun ns : Notices => ns.cell n) (s.takeHeldLine_frame.notices (by simp))

theorem State.noticesAtStart_restarted (s : State) : Raised s s.noticesAtStart .restarted 1 := by
  have first : Raised s (s.notify .restarted) .restarted 1 := .notify s .restarted .restarted
  unfold State.noticesAtStart
  dsimp only
  split
  · exact first
  · exact first.trans (.notify _ .restarted .clockInvalid)

theorem State.noticesAtStart_clockInvalid (s : State) :
    Raised s s.noticesAtStart .clockInvalid (if s.calendar.valid = true then 0 else 1) := by
  have first : Raised s (s.notify .restarted) .clockInvalid 0 := .notify s .clockInvalid .restarted
  unfold State.noticesAtStart
  dsimp only
  split
  · exact first
  · exact first.trans (.notify _ .clockInvalid .clockInvalid)

theorem State.takeStartEvent_valid (s : State) (examined : Bool) {e : StartEvent} (h : PlainEvent e) :
    (s.takeStartEvent examined e).calendar.valid = s.calendar.valid := by
  by_cases catchUp : e = .catchUp
  · subst catchUp
    change s.catchUp.calendar.valid = s.calendar.valid
    unfold State.catchUp
    split
    · rfl
    · split
      · rw [State.boundaryEvent_calendar]
      · rfl
  · refine congrArg Calendar.valid ((s.takeStartEvent_frame examined e).calendar ?_)
    refine PlainEvent.cases (motive := fun e => e ≠ .catchUp → .calendar ∉ startEventBlocks e) ?_ ?_ ?_ ?_ ?_ h catchUp <;>
      simp [startEventBlocks]

section
variable {events : List StartEvent} (plain : ∀ e ∈ events, PlainEvent e)
include plain

theorem State.takeStartEvents_restarted : Raised s (s.takeStartEvents events) .restarted (events.count .notices * 1) :=
  State.takeStartEvents_raised (P := fun _ => True) (fun _ _ _ _ _ => trivial) (fun u _ _ => u.noticesAtStart_restarted)
    (fun u examined e member other _ => u.takeStartEvent_quiet examined (plain e member) other (.inl rfl)) trivial

theorem State.takeStartEvents_clockInvalid :
    Raised s (s.takeStartEvents events) .clockInvalid (events.count .notices * if s.calendar.valid = true then 0 else 1) :=
  State.takeStartEvents_raised (P := fun u => u.calendar.valid = s.calendar.valid)
    (fun u examined e member same => (u.takeStartEvent_valid examined (plain e member)).trans same)
    (fun u _ same => same ▸ u.noticesAtStart_clockInvalid)
    (fun u examined e member other _ => u.takeStartEvent_quiet examined (plain e member) other (.inr rfl)) rfl

end

end

/-! ## The boundaries passed (R6) -/

section
variable {s u : State}

/-- Nothing is caught up when no boundary has passed. -/
theorem State.catchUp_nothing (none : ∀ len, s.intervalLength = some len → s.calendar.valid = true →
    s.calendar.now.minutes / len ≤ s.calendar.bLast) : s.catchUp = s := by
  unfold State.catchUp
  split
  · rfl
  next len length =>
    refine if_neg fun passed => ?_
    rw [Bool.and_eq_true, decide_eq_true_iff] at passed
    exact absurd (none len length passed.1) (Nat.not_le.mpr passed.2)

theorem State.catchUp_passed {len : Nat} (length : s.intervalLength = some len) (valid : s.calendar.valid = true)
    (passed : s.calendar.bLast < s.calendar.now.minutes / len) :
    s.catchUp = s.boundaryEvent len (s.calendar.now.minutes / len) :=
  (State.takeStartEvent_catchUp (examined := true) length).trans (if_pos ⟨valid, passed⟩)

theorem State.intervalLength_charter (same : u.charter = s.charter) : u.intervalLength = s.intervalLength := by
  unfold State.intervalLength State.charterWord
  rw [same]

/-- Without a boundary passed the calendar and the store are as they were. -/
theorem State.takeStartEvents_still {events : List StartEvent} (plain : ∀ e ∈ events, PlainEvent e)
    (none : ∀ len, s.intervalLength = some len → s.calendar.valid = true →
      s.calendar.now.minutes / len ≤ s.calendar.bLast) :
    (s.takeStartEvents events).calendar = s.calendar ∧ (s.takeStartEvents events).store = s.store := by
  have all := State.takeStartEvents_induct (s := s) (events := events)
    (P := fun u => u.charter = s.charter ∧ u.calendar = s.calendar ∧ u.store = s.store)
    (fun u examined e member ⟨charter, calendar, store⟩ => ?_) ⟨rfl, rfl, rfl⟩
  · exact all.2
  · by_cases catchUp : e = .catchUp
    · subst catchUp
      have idle : u.takeStartEvent examined .catchUp = u :=
        State.catchUp_nothing (by rw [State.intervalLength_charter charter, calendar]; exact none)
      rw [idle]
      exact ⟨charter, calendar, store⟩
    · have frame := u.takeStartEvent_frame examined e
      have apart : ∀ b ∈ ([.charter, .calendar, .books, .subs, .deliveries, .counts] : List Block), b ∉ startEventBlocks e := by
        refine PlainEvent.cases (motive := fun e => e ≠ .catchUp →
          ∀ b ∈ ([.charter, .calendar, .books, .subs, .deliveries, .counts] : List Block), b ∉ startEventBlocks e)
          ?_ ?_ ?_ ?_ ?_ (plain e member) catchUp <;> simp [startEventBlocks]
      exact ⟨(frame.charter (apart _ (by simp))).trans charter, (frame.calendar (apart _ (by simp))).trans calendar,
        (frame.store (apart _ (by simp)) (apart _ (by simp)) (apart _ (by simp)) (apart _ (by simp))).trans store⟩

/-- The event other than the catch-up leaves the calendar and the charter. -/
theorem State.takeStartEvent_calendar (s : State) (examined : Bool) {e : StartEvent} (h : PlainEvent e)
    (other : e ≠ .catchUp) : (s.takeStartEvent examined e).calendar = s.calendar := by
  refine (s.takeStartEvent_frame examined e).calendar ?_
  refine PlainEvent.cases (motive := fun e => e ≠ .catchUp → .calendar ∉ startEventBlocks e) ?_ ?_ ?_ ?_ ?_ h other <;>
    simp [startEventBlocks]

theorem State.takeStartEvent_charter (s : State) (examined : Bool) {e : StartEvent} (h : PlainEvent e) :
    (s.takeStartEvent examined e).charter = s.charter :=
  (s.takeStartEvent_plain_frame examined h).charter (by simp)

/-- The boundaries passed are caught up in one boundary event. -/
theorem State.takeStartEvents_passed {events : List StartEvent} (plain : ∀ e ∈ events, PlainEvent e)
    (catches : .catchUp ∈ events) {len : Nat} (length : s.intervalLength = some len) (valid : s.calendar.valid = true)
    (passed : s.calendar.bLast < s.calendar.now.minutes / len) :
    (s.takeStartEvents events).calendar =
      { s.calendar with bLast := s.calendar.now.minutes / len, held := false } := by
  have caught (u : State) (examined : Bool)
      (h : u.charter = s.charter ∧
        (u.calendar = s.calendar ∨
          u.calendar = { s.calendar with bLast := s.calendar.now.minutes / len, held := false })) :
      (u.takeStartEvent examined .catchUp).calendar =
        { s.calendar with bLast := s.calendar.now.minutes / len, held := false } := by
    obtain ⟨charter, before | after⟩ := h
    · have event : u.takeStartEvent examined .catchUp = _ := u.catchUp_passed
        (by rw [State.intervalLength_charter charter, length]) (by rw [before]; exact valid) (by rw [before]; exact passed)
      rw [event, State.boundaryEvent_calendar, before]
    · have event : u.takeStartEvent examined .catchUp = u := u.catchUp_nothing (by
        rw [State.intervalLength_charter charter, length, after]
        rintro _ ⟨⟩ _
        exact Nat.le_refl _)
      rw [event, after]
  refine State.takeStartEvents_sets (Q := fun u => u.calendar = _) catches (fun u examined f member h => ?_) caught
    (fun u examined f member other _ set => (u.takeStartEvent_calendar examined (plain f member) other).trans set)
    ⟨rfl, .inl rfl⟩
  refine ⟨(u.takeStartEvent_charter examined (plain f member)).trans h.1, ?_⟩
  by_cases catchUp : f = .catchUp
  · subst catchUp
    exact .inr (caught u examined h)
  · rw [u.takeStartEvent_calendar examined (plain f member) catchUp]
    exact h.2

end

/-! ## The display and the settings (R167, R174, R176) -/

section
variable {s : State} {events : List StartEvent} (plain : ∀ e ∈ events, PlainEvent e)

theorem State.takeStartEvent_display (s : State) (examined : Bool) {e : StartEvent} (h : PlainEvent e)
    (other : e ≠ .pageStart) : (s.takeStartEvent examined e).display = s.display := by
  refine (s.takeStartEvent_frame examined e).display ?_
  refine PlainEvent.cases (motive := fun e => e ≠ .pageStart → .display ∉ startEventBlocks e) ?_ ?_ ?_ ?_ ?_ h other <;>
    simp [startEventBlocks]

/-- The settings of the display are the same (R167). -/
def Display.SameSettings (d e : Display) : Prop :=
  e.mode = d.mode ∧ e.rate = d.rate ∧ e.dwell = d.dwell ∧ e.reserveOn = d.reserveOn ∧ e.clockOn = d.clockOn ∧
    e.heldPage = d.heldPage

theorem Display.SameSettings.refl (d : Display) : d.SameSettings d := ⟨rfl, rfl, rfl, rfl, rfl, rfl⟩

theorem Display.SameSettings.trans {d e f : Display} (h : d.SameSettings e) (k : e.SameSettings f) : d.SameSettings f := by
  obtain ⟨mode, rate, dwell, reserveOn, clockOn, heldPage⟩ := h
  obtain ⟨mode', rate', dwell', reserveOn', clockOn', heldPage'⟩ := k
  exact ⟨mode'.trans mode, rate'.trans rate, dwell'.trans dwell, reserveOn'.trans reserveOn, clockOn'.trans clockOn,
    heldPage'.trans heldPage⟩

theorem Display.startPage_settings (d : Display) (choice : PageChoice) : d.SameSettings (d.startPage choice) := by
  have lit (fetch : Option PageChoice) :
      d.SameSettings { (if d.activity = .showing then { d with framesLeft := 0 } else d.dark .showing) with fetch := fetch } := by
    split <;> exact ⟨rfl, rfl, rfl, rfl, rfl, rfl⟩
  cases mode : d.mode with
  | off => rw [Display.startPage_off choice mode]; exact ⟨rfl, rfl, rfl, rfl, rfl, rfl⟩
  | hold => rw [Display.startPage_hold choice mode]; exact lit _
  | scroll => rw [Display.startPage_scroll choice mode]; exact lit _

theorem State.takeStartEvent_displaySettings (s : State) (examined : Bool) {e : StartEvent} (h : PlainEvent e) :
    s.display.SameSettings (s.takeStartEvent examined e).display := by
  by_cases pageStart : e = .pageStart
  · subst pageStart
    exact s.display.startPage_settings .first
  · rw [s.takeStartEvent_display examined h pageStart]
    exact .refl _

include plain

theorem State.takeStartEvents_keepsSettings : s.keepsSettings (s.takeStartEvents events) := by
  have frame := State.takeStartEvents_plain_frame (s := s) plain
  have held := State.takeStartEvents_holdsSettings (s := s) plain
  have display := State.takeStartEvents_induct (P := fun u => s.display.SameSettings u.display)
    (fun u examined e member h => h.trans (u.takeStartEvent_displaySettings examined (plain e member))) (.refl s.display)
  exact ⟨display, held.masks, held.timing, held.watch, frame.margin (by simp), frame.tariff (by simp),
    frame.charter (by simp), frame.fund (by simp), frame.injection (by simp), frame.journal (by simp)⟩

/-- What the page start alone sets stands at the end. -/
theorem State.takeStartEvents_page (starts : .pageStart ∈ events) {Q : Display → Prop}
    (sets : ∀ d : Display, d.mode = s.display.mode → Q (d.startPage .first)) : Q (s.takeStartEvents events).display :=
  State.takeStartEvents_sets (P := fun u => u.display.mode = s.display.mode) (Q := fun u => Q u.display) starts
    (fun u examined f member h => (u.takeStartEvent_displaySettings examined (plain f member)).1.trans h)
    (fun u _ h => sets u.display h)
    (fun u examined f member other _ set => (u.takeStartEvent_display examined (plain f member) other).symm ▸ set) rfl

theorem State.takeStartEvents_household (i : Slot) :
    (s.takeStartEvents events).household i =
      { s.household i with wanted := ((s.takeStartEvents events).household i).wanted } := by
  have frame := State.takeStartEvents_plain_frame (s := s) plain
  rw [frame.accounts (by simp) i, frame.confirmed (by simp) i]

end

end Sys2Proof.Machine

end

section
/-! O59, put together. -/

namespace Sys2Proof.Machine

theorem State.started_keepsSettings {s t : State} (h : s.started.keepsSettings t) : s.keepsSettings t := by
  obtain ⟨display, masks, rest⟩ := h
  refine ⟨display, fun n => (masks n).trans ?_, rest⟩
  rw [s.started_eq, Notices.cleared_cell]

/-- An order that names no access leaves none among the events taken. -/
theorem plain_startSequence {order : List StartEvent} (plain : ∀ e ∈ order, PlainEvent e) :
    ∀ e ∈ startSequence order, PlainEvent e := by
  intro e member
  rcases (mem_startSequence order e).mp member with named | due
  · exact plain e named
  · fin_cases due <;> simp [PlainEvent]

/-- Settles O59: `halt_stopped` and `beginStartup_stopped` say what a reset and the beginning of start-up leave, the end of
start-up is its events one after another, and a reset that waits for a program is the one that would come after it. -/
theorem resetsKeepTheArrayAndStartAnew : Obligations.ResetsKeepTheArrayAndStartAnew := by
  unfold Obligations.ResetsKeepTheArrayAndStartAnew
  intro settingsKept dueAgain served
  have halted (k : BookStore) : k.halt = { k with deliveries := [], books := k.books.map dueAgain } := by
    refine k.halt_books (fun b c settling => ?_) fun b other => ?_
    · simp only [dueAgain, settling]
    · cases state : b.state with
      | settling c => exact absurd state (other c)
      | opened => simp only [dueAgain, state]
      | due c => simp only [dueAgain, state]
  have finished (u : State) (r : Req) (args : List Tok) : u.finish (.request r args) (serveRequest r args u) = served u r args := by
    simp only [served]
    cases serveRequest r args u <;> rfl
  refine ⟨fun u r args serves => ?_, fun s c phase h => ?_, fun s c mode rate held h => ?_, fun s order starting => ?_,
    fun s order starting plain => ?_, fun s => ⟨fun off => ?_, fun offHeld => ⟨fun mode rate => ?_, fun held mode rate => ?_⟩⟩,
    fun s running program => ?_, fun s c d power h => ?_⟩
  · rw [exec_serves serves, finished]
  · obtain ⟨stopped, event⟩ := exec_halts h
    refine ⟨_, event, ?_⟩
    have kept := s.halt_keepsSettings stopped
    rw [s.halt_stopped stopped, halted] at kept ⊢
    exact ⟨rfl, rfl, rfl, fun f => by cases f <;> rfl, rfl, rfl, rfl, rfl, rfl, rfl, kept⟩
  · refine ⟨_, exec_startsUp h, ?_⟩
    have kept := s.beginStartup_keepsSettings mode rate
    have service := s.resolvedService_eq mode
    rw [s.beginStartup_stopped, halted] at kept ⊢
    have cells (n : Notice) : s.notices.cleared.cell n = { flag := false, count := 0, mask := (s.notices.cell n).mask } :=
      s.notices.cleared_cell n
    cases held with
    | true =>
      exact ⟨rfl, service, rfl, fun f => by cases f <;> rfl, rfl, rfl, rfl, cells, rfl, rfl, fun _ => ⟨rfl, rfl⟩,
        fun h => absurd h (by simp), rfl, rfl, rfl, rfl, rfl, kept⟩
    | false =>
      exact ⟨rfl, service, rfl, fun f => by cases f <;> rfl, rfl, rfl, rfl, cells, rfl, rfl, fun h => absurd h (by simp),
        fun _ => ⟨rfl, rfl⟩, rfl, rfl, rfl, rfl, rfl, kept⟩
  · intro due after event
    refine ⟨s.notices.cleared, _, exec_startupEnd starting order, rfl, s.notices.cleared_cell, ?_⟩
    intro u
    have same (v : State) (examined : Bool) (e : StartEvent) (running : v.power.phase = .running) :
        v.takeStartEvent examined e = event v examined e := by
      have afterOf {c : Instr} {w t : State} (h : exec c w = .next t) : after c w = t := by simp only [after, h]
      cases e with
      | notices => rfl
      | catchUp =>
        cases length : v.intervalLength with
        | none => simp only [event, length, State.takeStartEvent_catchUp_none length]
        | some len => simp only [event, length, State.takeStartEvent_catchUp length]
      | settling => exact (afterOf (exec_settlingStart_event running)).symm
      | evaluation =>
        refine v.evaluateAuto_eq (fun u i vacant => ?_) fun u i c used => ?_
        · simp only [vacant]
        · simp only [used]
      | pageStart =>
        simp only [event]
        split
        next mode => exact congrArg v.withDisplay (Display.startPage_scroll _ mode)
        next mode => exact congrArg v.withDisplay (Display.startPage_hold _ mode)
        next mode => exact congrArg v.withDisplay (Display.startPage_off _ mode)
      | latch =>
        cases examined with
        | true => exact (afterOf (exec_pageLatch_event running)).symm
        | false =>
          rw [v.takeStartEvent_latch_ahead]
          exact congrArg (fun t : State => { v with display := t.display })
            (afterOf (exec_pageLatch_event (s := v.withoutBooks) running)).symm
      | firstLine =>
        by_cases held : ∃ line, v.host.inService = some { line := line, stage := .held }
        · obtain ⟨line, held⟩ := held
          simp only [event, held, State.takeStartEvent_firstLine_held held]
        · simp only [event]
          split
          next line stage => exact absurd ⟨line, stage⟩ held
          next => exact State.takeStartEvent_firstLine_other fun line stage => held ⟨line, stage⟩
      | service =>
        by_cases taken : ∃ r args, v.host.inService = some { line := .request r args, stage := .taken }
        · obtain ⟨r, args, taken⟩ := taken
          cases examined with
          | true =>
            simp only [event, taken]
            exact (afterOf (exec_service_event taken running)).symm
          | false =>
            simp only [event, taken, State.takeStartEvent_service_ahead taken, finished]
            rfl
        · simp only [event]
          split
          next r args stage => exact absurd ⟨r, args, stage⟩ taken
          next => exact State.takeStartEvent_service_other fun r args stage => taken ⟨r, args, stage⟩
    exact congrArg Prod.fst (State.foldl_startEvents same (s.started, s.started.startable.isNone) rfl)
  · refine ⟨_, exec_startupEnd starting order, ?_⟩
    have all := plain_startSequence plain
    have taken (e : StartEvent) (due : e ∈ startEventsDue) : e ∈ startSequence order :=
      (mem_startSequence order e).mpr (.inr due)
    have once : (startSequence order).count .notices = 1 :=
      List.count_eq_one_of_mem (nodup_startSequence order) (taken _ (by simp [startEventsDue]))
    have frame := State.takeStartEvents_plain_frame (s := s.started) all
    have restarted := State.takeStartEvents_restarted (s := s.started) all
    have clockInvalid := State.takeStartEvents_clockInvalid (s := s.started) all
    have clear (n : Notice) : s.started.notices.cell n = { flag := false, count := 0, mask := (s.notices.cell n).mask } :=
      s.notices.cleared_cell n
    rw [once] at restarted clockInvalid
    refine ⟨frame.power (by simp), frame.supply (by simp), ?_, ?_, ?_, State.takeStartEvents_still (s := s.started) all,
      fun len length valid passed =>
        State.takeStartEvents_passed (s := s.started) all (taken _ (by simp [startEventsDue])) length valid passed,
      fun off => ?_, fun hold => ?_, fun scroll => ?_, State.started_keepsSettings (State.takeStartEvents_keepsSettings all),
      fun i => State.takeStartEvents_household all i⟩
    · rw [restarted.flag]; exact .inr (by simp)
    · exact (restarted.count (by rw [clear]; simp)).trans (by simp [clear])
    · rw [clockInvalid.flag, clear, show s.started.calendar = s.calendar from rfl]
      cases s.calendar.valid <;> simp
    · exact State.takeStartEvents_page all (taken _ (by simp [startEventsDue])) (Q := fun d => d.activity = .off)
        fun d mode => by rw [Display.startPage_off _ (mode.trans off)]; rfl
    · exact State.takeStartEvents_page all (taken _ (by simp [startEventsDue])) (Q := fun d => d.fetch = some .held)
        fun d mode => by rw [Display.startPage_hold _ (mode.trans hold)]
    · exact State.takeStartEvents_page all (taken _ (by simp [startEventsDue])) (Q := fun d => d.fetch = some .first)
        fun d mode => by rw [Display.startPage_scroll _ (mode.trans scroll)]
  · rw [exec_resetPinAssert]
    simp only [State.assertReset, off]
    rfl
  · rw [exec_resetPinRelease]
    simp only [State.releaseReset, offHeld]
    rfl
  · rw [exec_powerOn]
    simp only [State.powerOn, offHeld]
    cases held <;> rfl
  · intro due held unpowered
    have asserted := State.assertReset_programming running program
    have lost := State.losePower_programming running program
    rw [dueAsserted_of] at asserted
    rw [dueUnpowered_of] at lost
    refine ⟨fun off => ?_, fun on => ?_, fun low => ?_, fun high => ?_, fun mode rate => ⟨fun pin => ?_, fun pin => ?_, fun high => ?_⟩⟩
    · rw [exec_resetPinAssert, asserted, if_pos off]
    · rw [exec_resetPinAssert, asserted, if_neg on]
    · rw [exec_powerLoss, lost, if_pos low]
    · rw [exec_powerLoss, lost, if_neg high]
    · rw [exec_resetPinRelease, State.releaseReset_running running, pin]
      rfl
    · rw [exec_resetPinRelease, State.releaseReset_running running, pin]
      rfl
    · rw [exec_resetPinRelease, State.releaseReset_running running, dueReleased_of mode rate high]
  · have running : s.power.phase = .running := by rw [power]
    obtain ⟨x, same, free, event, without⟩ := exec_completes h running
    obtain ⟨asserts, pin, lost, lostHeld, released⟩ := State.dueReset_after (x := x) (d := d) (same.trans power) free
    refine ⟨x.withPower { phase := .running, resetDue := none }, _, ?_, asserts, fun h => ?_, fun h => ?_, fun h => ?_,
      fun mode rate h => ?_⟩
    · exact (without { phase := .running, resetDue := none } rfl).trans (congrArg _ (State.dueReset_none rfl))
    · rw [event, pin h]
    · exact event.trans (lost h)
    · exact event.trans (lostHeld h)
    · exact event.trans (released mode rate h)

end Sys2Proof.Machine

end

section
/-! O4: which words have a request's forms (R14, R25, R153, R175, R183, R190, R191). -/

namespace Sys2Proof.Machine

/-! ## Words of fixed places -/

section
variable (t : Tok) (f : WordForm) (fs : List WordForm) (ks : List Kw) (args : List Tok)

@[simp] theorem fits_number_iff : WordForm.number.fits t = true ↔ ∃ n, t = .num n := by
  cases t <;> simp [WordForm.fits]

@[simp] theorem fits_oneOf_iff : (WordForm.oneOf ks).fits t = true ↔ ∃ k ∈ ks, t = .kw k := by
  cases t <;> simp [WordForm.fits]

@[simp] theorem fits_numberOr_iff : (WordForm.numberOr ks).fits t = true ↔ (∃ n, t = .num n) ∨ ∃ k ∈ ks, t = .kw k := by
  cases t <;> simp [WordForm.fits]

@[simp] theorem fits_weekdays_iff : WordForm.weekdays.fits t = true ↔ (weekdaysOf t).isSome = true := by
  cases t with
  | kw k => cases k <;> rfl
  | _ => rfl

@[simp] theorem fitsWords_nil_iff : fitsWords [] args = true ↔ args = [] := by
  cases args <;> simp [fitsWords]

@[simp] theorem fitsWords_cons_iff :
    fitsWords (f :: fs) args = true ↔ ∃ t ts, args = t :: ts ∧ f.fits t = true ∧ fitsWords fs ts = true := by
  cases args <;> simp [fitsWords]

end

/-! ## Pairs -/

theorem fitsPairs_none {form : Kw → Option WordForm} (none : ∀ k, form k = .none) (args : List Tok) :
    fitsPairs form [] args = false := by
  unfold fitsPairs
  split
  · simp
  · simp [none]
  · rfl

/-- Words are pairs in their forms exactly when they are read as pairs whose keywords differ among themselves and from those
seen before. -/
theorem fitsPairs_iff {α : Type} {form : Kw → Option WordForm} {read : Kw → Tok → Option α}
    (agree : ∀ k v, (read k v).isSome = (form k).any fun f => f.fits v) (seen : List Kw) (args : List Tok) :
    fitsPairs form seen args = true ↔
      ∃ ps, readPairs read args = some ps ∧ (ps.map Prod.fst).Nodup ∧ (ps.map Prod.fst).Disjoint seen ∧ (ps ≠ [] ∨ seen ≠ []) := by
  induction seen, args using fitsPairs.induct with
  | case1 seen => simp [fitsPairs, readPairs]
  | case2 seen k v rest ih =>
    cases value : read k v with
    | none =>
      have refused : ((form k).any fun f => f.fits v) = false := by rw [← agree, value]; rfl
      simp [fitsPairs, readPairs, refused, value]
    | some a =>
      have taken : ((form k).any fun f => f.fits v) = true := by rw [← agree, value]; rfl
      cases more : readPairs read rest with
      | none => simp [fitsPairs, readPairs, taken, value, more, ih]
      | some ps =>
        simp only [fitsPairs, readPairs, taken, value, more, Bool.and_eq_true, Bool.and_true, decide_eq_true_eq, ih,
          Option.some.injEq, exists_eq_left', List.map_cons, List.nodup_cons, List.disjoint_cons_left,
          List.disjoint_cons_right]
        simp
        tauto
  | case3 args seen nil pair =>
    have unread : readPairs read args = none := by
      unfold readPairs
      split
      next => exact absurd rfl nil
      next => exact absurd rfl (pair _ _ _)
      next => rfl
    have unfit : fitsPairs form seen args = false := by
      unfold fitsPairs
      split
      next => exact absurd rfl nil
      next => exact absurd rfl (pair _ _ _)
      next => rfl
    simp [unread, unfit]

theorem fitsPairs_pairs {α : Type} {form : Kw → Option WordForm} {read : Kw → Tok → Option α}
    (agree : ∀ k v, (read k v).isSome = (form k).any fun f => f.fits v) (args : List Tok) :
    fitsPairs form [] args = (pairs read args).isSome := by
  rw [Bool.eq_iff_iff, fitsPairs_iff agree, Option.isSome_iff_exists]
  refine exists_congr fun ps => ?_
  rw [pairs_iff]
  simp
  tauto

/-! ## The values of pairs, in their forms (R25, R153, R175, R190, R191) -/

section
variable (k : Kw) (v : Tok)

theorem numberOf_fits : (numberOf v).isSome = WordForm.number.fits v := by
  cases v <;> rfl

theorem policyOf_fits : (policyOf v).isSome = (WordForm.oneOf [.AUTO, .HOLD_CLOSED, .MANUAL]).fits v := by
  cases v with
  | kw k => cases k <;> rfl
  | _ => rfl

theorem yesNoOf_fits : (yesNoOf v).isSome = (WordForm.oneOf [.YES, .NO]).fits v := by
  cases v with
  | kw k => cases k <;> rfl
  | _ => rfl

theorem feederOf_fits : (feederOf v).isSome = (WordForm.oneOf [.A, .B]).fits v := by
  cases v with
  | kw k => cases k <;> rfl
  | _ => rfl

theorem modeOf_fits : (modeOf v).isSome = (WordForm.oneOf [.OFF, .SCROLL, .HOLD]).fits v := by
  cases v with
  | kw k => cases k <;> rfl
  | _ => rfl

theorem onOffOf_fits : (onOffOf v).isSome = (WordForm.oneOf [.ON, .OFF]).fits v := by
  cases v with
  | kw k => cases k <;> rfl
  | _ => rfl

theorem relayOf_fits : (relayOf v).isSome = (WordForm.oneOf [.OPEN, .CLOSED]).fits v := by
  cases v with
  | kw k => cases k <;> rfl
  | _ => rfl

theorem pageOf_fits : (pageOf v).isSome = (WordForm.numberOr [.RESERVE, .CLOCK]).fits v := by
  cases v with
  | kw k => cases k <;> rfl
  | _ => rfl

theorem readEdit_fits : (readEdit k v).isSome = (valueForm .HHEDIT k).any fun f => f.fits v := by
  unfold readEdit
  split
  next => exact Option.isSome_map.trans (numberOf_fits v)
  next => exact Option.isSome_map.trans (numberOf_fits v)
  next => exact Option.isSome_map.trans (policyOf_fits v)
  next => exact Option.isSome_map.trans (yesNoOf_fits v)
  next => exact Option.isSome_map.trans (feederOf_fits v)
  next => exact Option.isSome_map.trans (numberOf_fits v)
  next cap floor policy shown feeder addr =>
    have none : valueForm .HHEDIT k = .none := by
      simp only [valueForm]
      rw [if_neg, if_neg policy, if_neg shown, if_neg feeder]
      simpa using ⟨cap, floor, addr⟩
    rw [none]
    rfl

theorem readReserve_fits : (readReserve k v).isSome = (valueForm .RESCFG k).any fun f => f.fits v := by
  simp only [readReserve, valueForm]
  split_ifs
  · exact numberOf_fits v
  · rfl

theorem readDisplay_fits : (readDisplay k v).isSome = (valueForm .DISPCFG k).any fun f => f.fits v := by
  unfold readDisplay
  split
  next => exact Option.isSome_map.trans (modeOf_fits v)
  next => exact Option.isSome_map.trans (numberOf_fits v)
  next => exact Option.isSome_map.trans (numberOf_fits v)
  next => exact Option.isSome_map.trans (onOffOf_fits v)
  next => exact Option.isSome_map.trans (onOffOf_fits v)
  next => exact Option.isSome_map.trans (pageOf_fits v)
  next mode rate dwell reserve clock page =>
    have none : valueForm .DISPCFG k = .none := by
      simp only [valueForm]
      rw [if_neg mode, if_neg, if_neg, if_neg page]
      · simpa using ⟨reserve, clock⟩
      · simpa using ⟨rate, dwell⟩
    rw [none]
    rfl

theorem noticeOf_named : (noticeOf k).isSome = noticeOrder.any fun n => n.kw = k := by
  rw [noticeOf, Bool.eq_iff_iff, List.find?_isSome, List.any_eq_true]

theorem readAck_fits : (readAck k v).isSome = (valueForm .NOTACK k).any fun f => f.fits v := by
  simp only [readAck, valueForm, noticeOf_named]
  split_ifs
  · exact numberOf_fits v
  · rfl

theorem readMask_fits : (readMask k v).isSome = (valueForm .NOTMASK k).any fun f => f.fits v := by
  simp only [readMask, valueForm, noticeOf_named, Bool.or_eq_true, decide_eq_true_eq, or_comm]
  split_ifs
  · exact onOffOf_fits v
  · rfl

end

/-- A request that takes no pairs has the words of one of its forms. -/
theorem wellWorded_forms {r : Req} (none : ∀ k, valueForm r k = .none) (args : List Tok) :
    wellWorded r args = true ↔ ∃ fs ∈ wordForms r, fitsWords fs args = true := by
  have edits : r ≠ .HHEDIT := by rintro rfl; exact absurd (none .CAP) (by simp [valueForm])
  unfold wellWorded
  rw [Bool.or_eq_true, List.any_eq_true]
  refine or_iff_left ?_
  split
  next => exact absurd rfl edits
  next => exact absurd rfl edits
  next => simp [fitsPairs_none none]

/-! ## The requests that take pairs -/

theorem wellWorded_hhedit (n : Int) (rest : List Tok) :
    wellWorded .HHEDIT (.num n :: rest) = (pairs readEdit rest).isSome :=
  fitsPairs_pairs readEdit_fits rest

theorem wellWorded_rescfg (args : List Tok) : wellWorded .RESCFG args = (pairs readReserve args).isSome :=
  fitsPairs_pairs readReserve_fits args

theorem wellWorded_dispcfg (args : List Tok) : wellWorded .DISPCFG args = (pairs readDisplay args).isSome :=
  fitsPairs_pairs readDisplay_fits args

theorem wellWorded_notack (args : List Tok) : wellWorded .NOTACK args = (pairs readAck args).isSome :=
  fitsPairs_pairs readAck_fits args

theorem wellWorded_notmask (word : Tok) (rest : List Tok) :
    wellWorded .NOTMASK (word :: rest) = (pairs readMask (word :: rest)).isSome :=
  fitsPairs_pairs readMask_fits (word :: rest)

end Sys2Proof.Machine

end

section
/-! O4: the checks that come before each request's own (R7, R23, R56, R102, R132, R153, R164, R175, R191, R196, R198, R200,
R201, R203). -/

namespace Sys2Proof.Machine

/-! ## Gates -/

/-- What a well-formed request is refused for before its own checks. -/
inductive Gate
  | none | commissioned | writable | programmable | wiping
  deriving DecidableEq

/-- The checks of a gate, in their order, and then the request's own. -/
def State.pass (s : State) (k : Served) : Gate → Served
  | .none => k
  | .commissioned => s.ifCommissioned k
  | .writable => s.ifWritable k
  | .programmable => s.ifProgrammable k
  | .wiping => if s.service ≠ .commissioning then refuse .STATE else if s.supply.warning then refuse .HELD else k

/-- The gate of each request. -/
def gateOf : Req → List Tok → Gate
  | .CHRPROG, _ | .CHRLOCK, _ => .programmable
  | .WIPE, _ => .wiping
  | .RLYCFG, [] | .NOTMASK, [] => .commissioned
  | .IDENT, _ | .STATUS, _ | .NOTICES, _ | .NOTACK, _ | .CHRREAD, _ | .CLKREAD, _ | .BANDREAD, _ | .PRICEREAD, _ => .none
  | .HHREAD, _ | .FUNDREAD, _ | .BOOKS, _ | .BOOKREAD, _ | .SUBREAD, _ | .JREAD, _ | .JSTAT, _ | .FEEDER, _ | .FDRFORCE, _
  | .RESREAD, _ | .DISPREAD, _ => .commissioned
  | _, _ => .writable

/-- A service is not the refusal of words of no form. -/
def Served.Judged (o : Served) : Prop := o ≠ refuse .SYNTAX

section
variable {s t : State} {k : Served}

@[simp] theorem judged_refuse_iff (k : Kw) : (refuse k).Judged ↔ k ≠ .SYNTAX := by simp [Served.Judged, refuse]

@[simp] theorem judged_done (t : State) (reply : Reply) : (Served.done t reply).Judged := by simp [Served.Judged, refuse]

@[simp] theorem judged_programming (t : State) : (Served.programming t).Judged := by simp [Served.Judged, refuse]

/-- Words of no form are refused with SYNTAX, and any others with whatever the gate and the request's own checks say. -/
inductive State.Checked (s : State) (r : Req) (args : List Tok) : Served → Prop
  | malformed (w : wellWorded r args = false) : s.Checked r args (refuse .SYNTAX)
  | judged (w : wellWorded r args = true) (k : Served) (own : k.Judged) : s.Checked r args (s.pass k (gateOf r args))

end

/-! ## Forms of words -/

/-- Words that fit no form, when those that fit one are other words. -/
theorem unfit {r : Req} {args : List Tok} (none : ∀ k, valueForm r k = .none)
    (other : ∀ fs ∈ wordForms r, fitsWords fs args = true → False) : wellWorded r args = false := by
  rw [← Bool.not_eq_true, wellWorded_forms none]
  rintro ⟨fs, form, fits⟩
  exact other fs form fits

/-! ## The requests' own checks -/

section
variable (s : State) {r : Req} {args : List Tok}

theorem judged_acceptClock (t : DateTime) : (s.acceptClock t).Judged := by
  unfold State.acceptClock
  dsimp only
  split
  · simp
  · split <;> simp

theorem judged_bandOn (e start ix : Int) (ds : List Weekday) : (bandOn e start ix ds s).Judged := by
  unfold bandOn
  split <;> simp

theorem judged_bandOff (e : Int) : (bandOff e s).Judged := by
  unfold bandOff
  split <;> simp

theorem judged_memberRecord (i : Slot) (a : MemberAction) (m : MemberState) (change : State → State) :
    (s.memberRecord i a m change).Judged := by
  unfold State.memberRecord
  split <;> simp

theorem judged_account (i : Slot) (cause : AccountCause) (amount : Int) : (s.account i cause amount).Judged := by
  unfold State.account
  dsimp only
  split_ifs <;> simp

theorem judged_writeSub (i : Slot) (boundary imp exp : Nat) : (s.writeSub i boundary imp exp).Judged := by
  unfold State.writeSub
  split
  · simp
  · split <;> simp

theorem judged_readRecord (r : Option JournalRecord) : (s.readRecord r).Judged := by
  unfold State.readRecord
  split
  · simp [Served.Judged, refuse, JournalRecord.reply, okLines]
  · simp

theorem checked_ungated {o : Served} (w : wellWorded r args = true) (gate : gateOf r args = .none) (own : o.Judged) :
    s.Checked r args o := by
  have judged := State.Checked.judged (s := s) w o own
  rwa [gate] at judged

/-- A request about one slot, after the gate of the requests that write. -/
theorem checked_onSlot {k : Slot → Served} {n : Int} (w : wellWorded r args = true) (gate : gateOf r args = .writable)
    (own : ∀ i, (k i).Judged) : s.Checked r args (s.onSlot n k) := by
  have judged := State.Checked.judged (s := s) w
  rw [gate] at judged
  refine judged _ ?_
  split
  · exact own _
  · simp

theorem checked_onlySlot {k : Slot → Served} (forms : wordForms r = [[.number]]) (none : ∀ k, valueForm r k = .none)
    (gate : ∀ args, gateOf r args = .writable) (own : ∀ i, (k i).Judged) : s.Checked r args (s.onlySlot args k) := by
  unfold State.onlySlot
  split
  next n => exact checked_onSlot s ((wellWorded_forms none _).mpr (by simp [forms])) (gate _) own
  next other => exact .malformed (unfit none (by simpa [forms, -Bool.not_eq_true] using other))

theorem checked_onSubstitution {k : Slot → Nat → Served} {n boundary : Int} (w : wellWorded r args = true)
    (gate : gateOf r args = .writable) (own : ∀ i b, (k i b).Judged) :
    s.Checked r args (s.onSubstitution n boundary k) := by
  have judged := State.Checked.judged (s := s) w
  rw [gate] at judged
  refine judged _ ?_
  split
  · exact own _ _
  · simp

theorem checked_onSub {k : Slot → Nat → Served} (forms : wordForms r = [[.number, .number]])
    (none : ∀ k, valueForm r k = .none) (gate : ∀ args, gateOf r args = .writable) (own : ∀ i b, (k i b).Judged) :
    s.Checked r args (s.onSub args k) := by
  unfold State.onSub
  split
  next n boundary =>
    refine checked_onSubstitution s ((wellWorded_forms none _).mpr (by simp [forms])) (gate _) fun i b => ?_
    split
    · simp
    · split
      · exact own i b
      · simp
  next other => exact .malformed (unfit none (by simpa [forms, -Bool.not_eq_true] using other))

theorem checked_accountRequest {cause : AccountCause} {amountOk : Int → Bool} (forms : wordForms r = [[.number, .number]])
    (none : ∀ k, valueForm r k = .none) (gate : ∀ args, gateOf r args = .writable) :
    s.Checked r args (s.accountRequest args cause amountOk) := by
  unfold State.accountRequest
  split
  next n amount =>
    refine checked_onSlot s ((wellWorded_forms none _).mpr (by simp [forms])) (gate _) fun i => ?_
    split_ifs
    · simp
    · simp
    · exact judged_account s i cause amount
  next other => exact .malformed (unfit none (by simpa [forms, -Bool.not_eq_true] using other))

end

end Sys2Proof.Machine

end

section
/-! O4: every request's words and checks (chapters 1 to 11). -/

namespace Sys2Proof.Machine

section
variable {s : State} {args : List Tok}

/-! ## Calendar and tariff (chapter 1) -/

theorem serveClkset_checked : s.Checked .CLKSET args (serveClkset args s) := by
  unfold serveClkset
  split
  next y mo d h mi sec =>
    refine .judged rfl _ ?_
    split
    · simp
    · split
      · exact judged_acceptClock s _
      · simp
  next other => exact .malformed (unfit (fun _ => rfl) (by simpa [wordForms, -Bool.not_eq_true] using other))

theorem serveClkalign_checked : s.Checked .CLKALIGN args (serveClkalign args s) := by
  unfold serveClkalign
  split
  next =>
    refine .judged rfl _ ?_
    split_ifs <;> simp
  next other => exact .malformed (unfit (fun _ => rfl) (by simpa [wordForms, -Bool.not_eq_true] using other))

theorem serveClkread_checked : s.Checked .CLKREAD args (serveClkread args s) := by
  unfold serveClkread
  split
  next => exact .judged rfl _ (judged_done _ _)
  next other => exact .malformed (unfit (fun _ => rfl) (by simpa [wordForms, -Bool.not_eq_true] using other))

theorem serveBandset_checked : s.Checked .BANDSET args (serveBandset args s) := by
  unfold serveBandset
  split
  next e days start ix =>
    cases read : weekdaysOf days with
    | some ds =>
      exact .judged ((wellWorded_forms (fun _ => rfl) _).mpr (by simp [wordForms, read])) _ (judged_bandOn s e start ix ds)
    | none => exact .malformed (unfit (fun _ => rfl) (by simp [wordForms, read, -Bool.not_eq_true]))
  next e => exact .judged rfl _ (judged_bandOff s e)
  next on off =>
    refine .malformed (unfit (fun _ => rfl) ?_)
    simp [wordForms, -Bool.not_eq_true]
    exact ⟨fun days e start ix words => absurd words (on e days start ix), off⟩

theorem serveBandread_checked : s.Checked .BANDREAD args (serveBandread args s) := by
  unfold serveBandread
  split
  next n =>
    refine .judged rfl _ ?_
    split <;> simp
  next => exact .judged rfl _ (judged_done _ _)
  next one all => exact .malformed (unfit (fun _ => rfl) (by simpa [wordForms, -Bool.not_eq_true] using ⟨one, all⟩))

theorem servePriceread_checked : s.Checked .PRICEREAD args (servePriceread args s) := by
  unfold servePriceread
  split
  next n =>
    refine .judged rfl _ ?_
    split <;> simp
  next => exact .judged rfl _ (judged_done _ _)
  next one all => exact .malformed (unfit (fun _ => rfl) (by simpa [wordForms, -Bool.not_eq_true] using ⟨one, all⟩))

theorem servePriceset_checked : s.Checked .PRICESET args (servePriceset args s) := by
  unfold servePriceset
  split
  next ix pc pf pfs pp pps levy =>
    refine .judged rfl _ ?_
    split
    · split <;> simp
    · simp
  next other => exact .malformed (unfit (fun _ => rfl) (by simpa [wordForms, -Bool.not_eq_true] using other))

/-! ## Households (chapter 2) -/

theorem serveHhread_checked : s.Checked .HHREAD args (serveHhread args s) := by
  unfold serveHhread
  split
  next n =>
    refine .judged rfl _ ?_
    split <;> simp
  next => exact .judged rfl _ (judged_done _ _)
  next one all => exact .malformed (unfit (fun _ => rfl) (by simpa [wordForms, -Bool.not_eq_true] using ⟨one, all⟩))

theorem wellWorded_hhenrol (n addr cap floor : Int) (f p shown : Tok) :
    wellWorded .HHENROL [.num n, f, .num addr, .num cap, .num floor, p, shown] =
      ((feederOf f).isSome && (policyOf p).isSome && (yesNoOf shown).isSome) := by
  rw [Bool.eq_iff_iff, wellWorded_forms (fun _ => rfl)]
  simp [wordForms, feederOf_fits, policyOf_fits, yesNoOf_fits, and_assoc]

theorem serveHhenrol_checked : s.Checked .HHENROL args (serveHhenrol args s) := by
  unfold serveHhenrol
  split
  next n f addr cap floor p shown =>
    cases feeder : feederOf f with
    | none => exact .malformed (by rw [wellWorded_hhenrol, feeder]; rfl)
    | some f' =>
      cases policy : policyOf p with
      | none => exact .malformed (by rw [wellWorded_hhenrol, feeder, policy]; rfl)
      | some p' =>
        cases shows : yesNoOf shown with
        | none => exact .malformed (by rw [wellWorded_hhenrol, feeder, policy, shows]; rfl)
        | some shown' =>
          refine checked_onSlot s (by rw [wellWorded_hhenrol, feeder, policy, shows]; rfl) rfl fun i => ?_
          split_ifs
          · simp
          · simp
          · split
            · exact judged_memberRecord s _ _ _ _
            · simp
  next other =>
    refine .malformed (unfit (fun _ => rfl) ?_)
    simp [wordForms, -Bool.not_eq_true]
    exact fun f p shown n addr cap floor words => absurd words (other n f addr cap floor p shown)

theorem serveHhedit_checked : s.Checked .HHEDIT args (serveHhedit args s) := by
  unfold serveHhedit
  split
  next n rest =>
    cases read : pairs readEdit rest with
    | none => exact .malformed (by rw [wellWorded_hhedit, read]; rfl)
    | some ps =>
      refine checked_onSlot s (by rw [wellWorded_hhedit, read]; rfl) rfl fun i => ?_
      split
      · simp
      · split
        · simp
        · split
          · simp
          · split_ifs <;> simp
  next other =>
    refine .malformed ?_
    cases args with
    | nil => rfl
    | cons word rest =>
      cases word with
      | num n => exact absurd rfl (other n rest)
      | _ => rfl

theorem serveHhsuspend_checked : s.Checked .HHSUSPEND args (serveHhsuspend args s) := by
  refine checked_onlySlot s rfl (fun _ => rfl) (fun _ => rfl) fun i => ?_
  split
  · exact judged_memberRecord s _ _ _ _
  · simp

theorem serveHhresume_checked : s.Checked .HHRESUME args (serveHhresume args s) := by
  refine checked_onlySlot s rfl (fun _ => rfl) (fun _ => rfl) fun i => ?_
  split_ifs
  · simp
  · simp
  · exact judged_memberRecord s _ _ _ _

theorem serveHhrebase_checked : s.Checked .HHREBASE args (serveHhrebase args s) := by
  refine checked_onlySlot s rfl (fun _ => rfl) (fun _ => rfl) fun i => ?_
  split_ifs
  · simp
  · simp
  · exact judged_memberRecord s _ _ _ _

theorem serveHhwithdraw_checked : s.Checked .HHWITHDRAW args (serveHhwithdraw args s) := by
  refine checked_onlySlot s rfl (fun _ => rfl) (fun _ => rfl) fun i => ?_
  dsimp only
  split_ifs
  · simp
  · exact judged_memberRecord s _ _ _ _
  · exact judged_memberRecord s _ _ _ _

theorem serveTopup_checked : s.Checked .TOPUP args (serveTopup args s) :=
  checked_accountRequest s rfl (fun _ => rfl) fun _ => rfl

theorem serveAdjust_checked : s.Checked .ADJUST args (serveAdjust args s) :=
  checked_accountRequest s rfl (fun _ => rfl) fun _ => rfl

theorem serveFund_checked : s.Checked .FUND args (serveFund args s) := by
  unfold serveFund
  split
  next amount =>
    refine .judged rfl _ ?_
    split_ifs <;> simp
  next other => exact .malformed (unfit (fun _ => rfl) (by simpa [wordForms, -Bool.not_eq_true] using other))

theorem serveFundread_checked : s.Checked .FUNDREAD args (serveFundread args s) := by
  unfold serveFundread
  split
  next => exact .judged rfl _ (judged_done _ _)
  next other => exact .malformed (unfit (fun _ => rfl) (by simpa [wordForms, -Bool.not_eq_true] using other))

/-! ## Books and substitutions (chapter 3) -/

theorem serveBooks_checked : s.Checked .BOOKS args (serveBooks args s) := by
  unfold serveBooks
  split
  next => exact .judged rfl _ (judged_done _ _)
  next other => exact .malformed (unfit (fun _ => rfl) (by simpa [wordForms, -Bool.not_eq_true] using other))

theorem serveBookread_checked : s.Checked .BOOKREAD args (serveBookread args s) := by
  unfold serveBookread
  split
  next n =>
    refine .judged rfl _ ?_
    split <;> simp
  next n h =>
    refine .judged rfl _ ?_
    split
    · simp
    · split <;> simp
  next one two => exact .malformed (unfit (fun _ => rfl) (by simpa [wordForms, -Bool.not_eq_true] using ⟨one, two⟩))

theorem serveClosenow_checked : s.Checked .CLOSENOW args (serveClosenow args s) := by
  unfold serveClosenow
  split
  next =>
    refine .judged rfl _ ?_
    split <;> simp
  next other => exact .malformed (unfit (fun _ => rfl) (by simpa [wordForms, -Bool.not_eq_true] using other))

theorem serveSubset_checked : s.Checked .SUBSET args (serveSubset args s) := by
  unfold serveSubset
  split
  next n boundary imp exp =>
    refine checked_onSubstitution s rfl rfl fun i b => ?_
    split
    · simp
    · split
      · simp
      · split
        · exact judged_writeSub s _ _ _ _
        · simp
  next other => exact .malformed (unfit (fun _ => rfl) (by simpa [wordForms, -Bool.not_eq_true] using other))

theorem serveSuboff_checked : s.Checked .SUBOFF args (serveSuboff args s) :=
  checked_onSub s rfl (fun _ => rfl) (fun _ => rfl) fun _ _ => judged_done _ _

theorem serveSubclr_checked : s.Checked .SUBCLR args (serveSubclr args s) :=
  checked_onSub s rfl (fun _ => rfl) (fun _ => rfl) fun _ _ => judged_done _ _

theorem serveSubread_checked : s.Checked .SUBREAD args (serveSubread args s) := by
  unfold serveSubread
  split
  next => exact .judged rfl _ (judged_done _ _)
  next other => exact .malformed (unfit (fun _ => rfl) (by simpa [wordForms, -Bool.not_eq_true] using other))

/-! ## The journal (chapter 5) -/

theorem serveJread_checked : s.Checked .JREAD args (serveJread args s) := by
  unfold serveJread
  split
  next n =>
    refine .judged rfl _ ?_
    split
    · exact judged_readRecord s _
    · simp
  next => exact .judged rfl _ (judged_readRecord s _)
  next one oldest => exact .malformed (unfit (fun _ => rfl) (by simpa [wordForms, -Bool.not_eq_true] using ⟨one, oldest⟩))

theorem serveJrelease_checked : s.Checked .JRELEASE args (serveJrelease args s) := by
  unfold serveJrelease
  split
  next n =>
    refine .judged rfl _ ?_
    split
    · dsimp only
      split <;> simp
    · simp
  next other => exact .malformed (unfit (fun _ => rfl) (by simpa [wordForms, -Bool.not_eq_true] using other))

theorem serveJstat_checked : s.Checked .JSTAT args (serveJstat args s) := by
  unfold serveJstat
  split
  next => exact .judged rfl _ (judged_done _ _)
  next other => exact .malformed (unfit (fun _ => rfl) (by simpa [wordForms, -Bool.not_eq_true] using other))

/-! ## Feeders (chapter 6) -/

theorem wellWorded_feeder (f : Tok) : wellWorded .FEEDER [f] = (decide (f = .kw .ALL) || (feederOf f).isSome) := by
  rw [Bool.eq_iff_iff, wellWorded_forms (fun _ => rfl)]
  simp [wordForms, feederOf_fits]
  tauto

theorem wellWorded_feederQueue (f : Tok) : wellWorded .FEEDER [f, .kw .QUEUE] = (feederOf f).isSome := by
  rw [Bool.eq_iff_iff, wellWorded_forms (fun _ => rfl)]
  simp [wordForms, feederOf_fits]

theorem wellWorded_fdrforce (f on : Tok) : wellWorded .FDRFORCE [f, on] = ((feederOf f).isSome && (onOffOf on).isSome) := by
  rw [Bool.eq_iff_iff, wellWorded_forms (fun _ => rfl)]
  simp [wordForms, feederOf_fits, onOffOf_fits]

theorem wellWorded_fdrtiming (f : Tok) (timeout retries : Int) :
    wellWorded .FDRTIMING [f, .num timeout, .num retries] = (feederOf f).isSome := by
  rw [Bool.eq_iff_iff, wellWorded_forms (fun _ => rfl)]
  simp [wordForms, feederOf_fits]

theorem serveFeeder_checked : s.Checked .FEEDER args (serveFeeder args s) := by
  unfold serveFeeder
  split
  next => exact .judged rfl _ (judged_done _ _)
  next f all =>
    cases feeder : feederOf f with
    | none =>
      have other : f ≠ .kw .ALL := fun h => all (by rw [h])
      exact .malformed (by rw [wellWorded_feeder, feeder, decide_eq_false other]; rfl)
    | some f' => exact .judged (by rw [wellWorded_feeder, feeder]; simp) _ (judged_done _ _)
  next f =>
    cases feeder : feederOf f with
    | none => exact .malformed (by rw [wellWorded_feederQueue, feeder]; rfl)
    | some f' => exact .judged (by rw [wellWorded_feederQueue, feeder]; rfl) _ (judged_done _ _)
  next all one queue =>
    refine .malformed (unfit (fun _ => rfl) ?_)
    simp [wordForms, -Bool.not_eq_true]
    exact ⟨fun f words => absurd words (one f), fun f words => absurd words (queue f)⟩

theorem serveFdrforce_checked : s.Checked .FDRFORCE args (serveFdrforce args s) := by
  unfold serveFdrforce
  split
  next f on =>
    cases feeder : feederOf f with
    | none => exact .malformed (by rw [wellWorded_fdrforce, feeder]; rfl)
    | some f' =>
      cases forced : onOffOf on with
      | none => exact .malformed (by rw [wellWorded_fdrforce, feeder, forced]; rfl)
      | some on' => exact .judged (by rw [wellWorded_fdrforce, feeder, forced]; rfl) _ (judged_done _ _)
  next other =>
    refine .malformed (unfit (fun _ => rfl) ?_)
    simp [wordForms, -Bool.not_eq_true]
    exact fun f on words => absurd words (other f on)

theorem serveFdrtiming_checked : s.Checked .FDRTIMING args (serveFdrtiming args s) := by
  unfold serveFdrtiming
  split
  next f timeout retries =>
    cases feeder : feederOf f with
    | none => exact .malformed (by rw [wellWorded_fdrtiming, feeder]; rfl)
    | some f' =>
      refine .judged (by rw [wellWorded_fdrtiming, feeder]; rfl) _ ?_
      split <;> simp
  next other =>
    refine .malformed (unfit (fun _ => rfl) ?_)
    simp [wordForms, -Bool.not_eq_true]
    exact fun f timeout retries words => absurd words (other f timeout retries)

/-! ## The reserve watch and the limiter (chapters 7 and 8) -/

theorem serveRescfg_checked : s.Checked .RESCFG args (serveRescfg args s) := by
  unfold serveRescfg
  cases read : pairs readReserve args with
  | none => exact .malformed (by rw [wellWorded_rescfg, read]; rfl)
  | some ps =>
    refine .judged (by rw [wellWorded_rescfg, read]; rfl) _ ?_
    split
    · split <;> simp
    · simp

theorem serveResread_checked : s.Checked .RESREAD args (serveResread args s) := by
  unfold serveResread
  split
  next => exact .judged rfl _ (judged_done _ _)
  next => exact .judged rfl _ (judged_done _ _)
  next watch settings =>
    exact .malformed (unfit (fun _ => rfl) (by simpa [wordForms, -Bool.not_eq_true] using ⟨watch, settings⟩))

theorem wellWorded_relay (n : Int) (r : Tok) : wellWorded .RELAY [.num n, r] = (relayOf r).isSome := by
  rw [Bool.eq_iff_iff, wellWorded_forms (fun _ => rfl)]
  simp [wordForms, relayOf_fits]

theorem serveRelay_checked : s.Checked .RELAY args (serveRelay args s) := by
  unfold serveRelay
  split
  next n r =>
    cases relay : relayOf r with
    | none => exact .malformed (by rw [wellWorded_relay, relay]; rfl)
    | some r' =>
      refine checked_onSlot s (by rw [wellWorded_relay, relay]; rfl) rfl fun i => ?_
      split
      · split <;> simp
      · simp
  next other =>
    refine .malformed (unfit (fun _ => rfl) ?_)
    simp [wordForms, -Bool.not_eq_true]
    exact fun r n words => absurd words (other n r)

theorem serveRlycfg_checked : s.Checked .RLYCFG args (serveRlycfg args s) := by
  unfold serveRlycfg
  split
  next => exact .judged rfl _ (judged_done _ _)
  next n =>
    refine .judged rfl _ ?_
    split <;> simp
  next margin set => exact .malformed (unfit (fun _ => rfl) (by simpa [wordForms, -Bool.not_eq_true] using ⟨margin, set⟩))

/-! ## The display (chapter 9) -/

theorem serveDispcfg_checked : s.Checked .DISPCFG args (serveDispcfg args s) := by
  unfold serveDispcfg
  cases read : pairs readDisplay args with
  | none => exact .malformed (by rw [wellWorded_dispcfg, read]; rfl)
  | some ps =>
    refine .judged (by rw [wellWorded_dispcfg, read]; rfl) _ ?_
    split
    · simp
    · split <;> simp

theorem serveDispread_checked : s.Checked .DISPREAD args (serveDispread args s) := by
  unfold serveDispread
  split
  next => exact .judged rfl _ (judged_done _ _)
  next other => exact .malformed (unfit (fun _ => rfl) (by simpa [wordForms, -Bool.not_eq_true] using other))

/-! ## The notices and the charter (chapters 10 and 11) -/

theorem serveIdent_checked : s.Checked .IDENT args (serveIdent args s) := by
  unfold serveIdent
  split
  next => exact .judged rfl _ (judged_done _ _)
  next other => exact .malformed (unfit (fun _ => rfl) (by simpa [wordForms, -Bool.not_eq_true] using other))

theorem serveStatus_checked : s.Checked .STATUS args (serveStatus args s) := by
  unfold serveStatus
  split
  next => exact .judged rfl _ (judged_done _ _)
  next other => exact .malformed (unfit (fun _ => rfl) (by simpa [wordForms, -Bool.not_eq_true] using other))

theorem serveNotices_checked : s.Checked .NOTICES args (serveNotices args s) := by
  unfold serveNotices
  split
  next => exact .judged rfl _ (judged_done _ _)
  next => exact .judged rfl _ (judged_done _ _)
  next set all => exact .malformed (unfit (fun _ => rfl) (by simpa [wordForms, -Bool.not_eq_true] using ⟨set, all⟩))

theorem serveNotack_checked : s.Checked .NOTACK args (serveNotack args s) := by
  unfold serveNotack
  cases read : pairs readAck args with
  | none => exact .malformed (by rw [wellWorded_notack, read]; rfl)
  | some ps =>
    refine checked_ungated s (by rw [wellWorded_notack, read]; rfl) rfl ?_
    dsimp only
    split <;> simp

theorem serveNotmask_checked : s.Checked .NOTMASK args (serveNotmask args s) := by
  unfold serveNotmask
  split
  next => exact .judged rfl _ (judged_done _ _)
  next word rest =>
    cases read : pairs readMask (word :: rest) with
    | none => exact .malformed (by rw [wellWorded_notmask, read]; rfl)
    | some ps => exact .judged (by rw [wellWorded_notmask, read]; rfl) _ (judged_done _ _)

theorem serveChrread_checked : s.Checked .CHRREAD args (serveChrread args s) := by
  unfold serveChrread
  split
  next n =>
    refine .judged rfl _ ?_
    split <;> simp
  next => exact .judged rfl _ (judged_done _ _)
  next one all => exact .malformed (unfit (fun _ => rfl) (by simpa [wordForms, -Bool.not_eq_true] using ⟨one, all⟩))

theorem serveChrprog_checked : s.Checked .CHRPROG args (serveChrprog args s) := by
  unfold serveChrprog
  split
  next n value =>
    refine .judged rfl _ ?_
    split
    · split <;> simp
    · simp
  next other => exact .malformed (unfit (fun _ => rfl) (by simpa [wordForms, -Bool.not_eq_true] using other))

theorem serveChrlock_checked : s.Checked .CHRLOCK args (serveChrlock args s) := by
  unfold serveChrlock
  split
  next =>
    refine .judged rfl _ ?_
    split
    · simp [Served.Judged, refuse]
    · simp
  next other => exact .malformed (unfit (fun _ => rfl) (by simpa [wordForms, -Bool.not_eq_true] using other))

theorem serveWipe_checked : s.Checked .WIPE args (serveWipe args s) := by
  unfold serveWipe
  split
  next => exact .judged rfl _ (judged_done _ _)
  next other => exact .malformed (unfit (fun _ => rfl) (by simpa [wordForms, -Bool.not_eq_true] using other))

/-- Each of the 46 requests judges its words first, then its gate, then the rest. -/
theorem serveRequest_checked (r : Req) : s.Checked r args (serveRequest r args s) := by
  cases r with
  | CLKSET => exact serveClkset_checked
  | CLKALIGN => exact serveClkalign_checked
  | CLKREAD => exact serveClkread_checked
  | BANDSET => exact serveBandset_checked
  | BANDREAD => exact serveBandread_checked
  | PRICEREAD => exact servePriceread_checked
  | PRICESET => exact servePriceset_checked
  | HHREAD => exact serveHhread_checked
  | HHENROL => exact serveHhenrol_checked
  | HHEDIT => exact serveHhedit_checked
  | HHSUSPEND => exact serveHhsuspend_checked
  | HHRESUME => exact serveHhresume_checked
  | HHREBASE => exact serveHhrebase_checked
  | HHWITHDRAW => exact serveHhwithdraw_checked
  | TOPUP => exact serveTopup_checked
  | ADJUST => exact serveAdjust_checked
  | FUND => exact serveFund_checked
  | FUNDREAD => exact serveFundread_checked
  | BOOKS => exact serveBooks_checked
  | BOOKREAD => exact serveBookread_checked
  | CLOSENOW => exact serveClosenow_checked
  | SUBSET => exact serveSubset_checked
  | SUBOFF => exact serveSuboff_checked
  | SUBCLR => exact serveSubclr_checked
  | SUBREAD => exact serveSubread_checked
  | JREAD => exact serveJread_checked
  | JRELEASE => exact serveJrelease_checked
  | JSTAT => exact serveJstat_checked
  | FEEDER => exact serveFeeder_checked
  | FDRFORCE => exact serveFdrforce_checked
  | FDRTIMING => exact serveFdrtiming_checked
  | RESCFG => exact serveRescfg_checked
  | RESREAD => exact serveResread_checked
  | RELAY => exact serveRelay_checked
  | RLYCFG => exact serveRlycfg_checked
  | DISPCFG => exact serveDispcfg_checked
  | DISPREAD => exact serveDispread_checked
  | IDENT => exact serveIdent_checked
  | STATUS => exact serveStatus_checked
  | NOTICES => exact serveNotices_checked
  | NOTACK => exact serveNotack_checked
  | NOTMASK => exact serveNotmask_checked
  | CHRREAD => exact serveChrread_checked
  | CHRPROG => exact serveChrprog_checked
  | CHRLOCK => exact serveChrlock_checked
  | WIPE => exact serveWipe_checked

end

end Sys2Proof.Machine

end

section
/-! O4, put together (R200, R203). -/

namespace Sys2Proof.Machine

/-! ## The gates of the requests -/

/-- A request that writes, and is no program and no WIPE, passes the gate that a supply warning closes. -/
theorem gateOf_writes {r : Req} {args : List Tok} (h : writes r args = true) (programs : ¬(r = .CHRPROG ∨ r = .CHRLOCK))
    (wipes : r ≠ .WIPE) : gateOf r args = .writable := by
  cases r with
  | CHRPROG => exact absurd (.inl rfl) programs
  | CHRLOCK => exact absurd (.inr rfl) programs
  | WIPE => exact absurd rfl wipes
  | RLYCFG | NOTMASK =>
    cases args with
    | nil => simp [writes, writingRequests] at h
    | cons word rest => rfl
  | IDENT | STATUS | NOTICES | NOTACK | CHRREAD | CLKREAD | BANDREAD | PRICEREAD | HHREAD | FUNDREAD | BOOKS | BOOKREAD
  | SUBREAD | JREAD | JSTAT | FEEDER | FDRFORCE | RESREAD | DISPREAD => simp [writes, writingRequests] at h
  | _ => rfl

theorem gateOf_programs {r : Req} (args : List Tok) (h : r = .CHRPROG ∨ r = .CHRLOCK) : gateOf r args = .programmable := by
  rcases h with rfl | rfl <;> rfl

/-- A request that is no program and that UNCOMMISSIONED does not serve has a gate that is closed there. -/
theorem gateOf_unserved {r : Req} (args : List Tok) (h : r ∉ servedUncommissioned) (programs : ¬(r = .CHRPROG ∨ r = .CHRLOCK)) :
    gateOf r args ≠ .none ∧ gateOf r args ≠ .programmable := by
  cases r with
  | CHRPROG => exact absurd (.inl rfl) programs
  | CHRLOCK => exact absurd (.inr rfl) programs
  | IDENT | STATUS | NOTICES | NOTACK | CHRREAD | CLKREAD | BANDREAD | PRICEREAD => exact absurd (by decide) h
  | RLYCFG | NOTMASK => cases args <;> simp [gateOf]
  | _ => simp [gateOf]

section
variable {s : State} (k : Served)

theorem State.pass_uncommissioned (h : s.service = .uncommissioned) {g : Gate} (gated : g ≠ .none)
    (programs : g ≠ .programmable) : s.pass k g = refuse .STATE := by
  cases g with
  | none => exact absurd rfl gated
  | commissioned => exact State.ifCommissioned_refuses h k
  | writable => exact State.ifCommissioned_refuses h _
  | programmable => exact absurd rfl programs
  | wiping => exact if_pos (by simp [h])

theorem State.pass_locked (h : s.locked = true) : s.pass k .programmable = refuse .LOCKED :=
  if_pos h

theorem State.pass_unlocked (h : s.locked = false) (service : s.service ≠ .commissioning) :
    s.pass k .programmable = refuse .STATE := by
  simp only [State.pass, State.ifProgrammable, h, Bool.false_eq_true, if_false, if_pos service]

theorem State.pass_programHeld (h : s.locked = false) (service : s.service = .commissioning) (w : s.supply.warning = true) :
    s.pass k .programmable = refuse .HELD := by
  simp [State.pass, State.ifProgrammable, h, service, w]

theorem State.pass_wipeHeld (service : s.service = .commissioning) (w : s.supply.warning = true) :
    s.pass k .wiping = refuse .HELD := by
  simp [State.pass, service, w]

theorem Served.Judged.pass {k : Served} (own : k.Judged) (g : Gate) : (s.pass k g).Judged := by
  cases g with
  | none => exact own
  | commissioned | writable | programmable | wiping =>
    simp only [State.pass, State.ifWritable, State.ifCommissioned, State.ifProgrammable]
    split_ifs <;> simp [own]

/-- Only a refusal with SYNTAX is answered NO SYNTAX. -/
theorem answer_syntax {o : Served} (answer : Answer s o) {r : Req} {args : List Tok}
    (h : s.finish (.request r args) o = s.answering r args [[.kw .NO, .kw .SYNTAX]]) : o = refuse .SYNTAX := by
  have line := congrArg (fun t : State => t.host.inService) h
  cases answer with
  | refused reply _ => 
    simp [State.answering] at line
    rw [line, refuse]
  | done bs t reply _ positive =>
    obtain ⟨fields, rest, rfl⟩ := positive
    simp [State.answering] at line
  | programming p _ => simp [State.answering, State.awaiting] at line

end

/-- Settles O4: each request judges its words first, then its gate, and then the rest. -/
theorem requestsAreRefusedInWarningAndUncommissioned : Obligations.RequestsAreRefusedInWarningAndUncommissioned := by
  unfold Obligations.RequestsAreRefusedInWarningAndUncommissioned
  intro r args s serves malformed programs refused
  have refuses {k : Kw} (h : serveRequest r args s = refuse k) : refused k := exec_refuses serves h
  have checked := serveRequest_checked (s := s) (args := args) r
  have judges (w : ¬malformed) : ∃ k : Served, k.Judged ∧ serveRequest r args s = s.pass k (gateOf r args) := by
    generalize serveRequest r args s = o at checked
    cases checked with
    | malformed bad => exact absurd bad w
    | judged _ k own => exact ⟨k, own, rfl⟩
  refine ⟨fun w => ?_, fun w syntaxError => ?_, fun writing warning commissioned w => ?_, fun unserved uncommissioned w => ?_⟩
  · refine refuses ?_
    generalize serveRequest r args s = o at checked
    cases checked with
    | malformed _ => rfl
    | judged good _ _ => exact absurd (good.symm.trans w) (by simp)
  · obtain ⟨k, own, passed⟩ := judges w
    have finished : s.finish (.request r args) (serveRequest r args s) = s.answering r args [[.kw .NO, .kw .SYNTAX]] :=
      Host.Outcome.next.inj ((exec_serves serves).symm.trans syntaxError)
    exact own.pass (gateOf r args) (passed.symm.trans (answer_syntax (serveRequest_answer r args) finished))
  · obtain ⟨k, -, passed⟩ := judges w
    refine ⟨fun program locked => refuses ?_, fun program unlocked outside => refuses ?_, fun wipes outside => refuses ?_,
      fun programmed wiped => refuses ?_⟩
    · rw [passed, gateOf_programs args program, State.pass_locked k locked]
    · rw [passed, gateOf_programs args program, State.pass_unlocked k unlocked outside]
    · subst wipes
      exact passed.trans (if_pos outside)
    · rw [passed]
      by_cases program : programs
      · have unlocked : s.locked = false := by
          rw [← Bool.not_eq_true]
          exact fun locked => programmed ⟨program, .inl locked⟩
        have service : s.service = .commissioning := not_not.mp fun outside => programmed ⟨program, .inr outside⟩
        rw [gateOf_programs args program, State.pass_programHeld k unlocked service warning]
      by_cases wipes : r = .WIPE
      · subst wipes
        exact State.pass_wipeHeld k (not_not.mp fun outside => wiped ⟨rfl, outside⟩) warning
      · rw [gateOf_writes writing program wipes]
        exact State.ifWritable_held commissioned warning k
  · obtain ⟨k, -, passed⟩ := judges w
    refine ⟨fun ⟨program, locked⟩ => refuses ?_, fun other => refuses ?_⟩
    · rw [passed, gateOf_programs args program, State.pass_locked k locked]
    · rw [passed]
      by_cases program : programs
      · rw [gateOf_programs args program, State.pass_unlocked k _ (by simp [uncommissioned])]
        rw [← Bool.not_eq_true]
        exact fun locked => other ⟨program, locked⟩
      · obtain ⟨gated, unprogrammed⟩ := gateOf_unserved args unserved program
        exact State.pass_uncommissioned k uncommissioned gated unprogrammed

end Sys2Proof.Machine

end
